-- ==== Sys2Proof/Word.lean ====
section
/-!
DEFINITION. The words of the module (R13, R14): bytes, 64-bit register words, 32-bit lanes, and the little-endian
reading of a run of bytes.
-/
namespace Sys2Proof

/-- R13: a byte is 8 bits. -/
abbrev Byte := BitVec 8

/-- R14, R82: a register or scalar register is 64 bits. -/
abbrev Word := BitVec 64

/-- R82: a lane of a vector register is 32 bits. -/
abbrev Lane := BitVec 32

/-- R13: little-endian value of a run of bytes. -/
def leNat : List Byte → Nat
  | [] => 0
  | b :: r => b.toNat + 256 * leNat r

/-- R13: the `n` little-endian bytes of a number. -/
def leBytes : Nat → Nat → List Byte
  | 0, _ => []
  | n + 1, v => BitVec.ofNat 8 v :: leBytes n (v / 256)

/-- The list cut or zero-filled to `n` bytes. -/
def padTo (n : Nat) (l : List Byte) : List Byte :=
  l.take n ++ List.replicate (n - l.length) 0

end Sys2Proof
end

