-- ==== Sys2Proof/Syntax.lean ====
section
/-!
DEFINITION. The commands of the block: one constructor of `Instr` for each row of the opcode table, and the operand
types they share. A tile command is the issue of one bundle (R29, R75): it carries its own slot's fields, and in `co`
what the bundle's other slots hold.
-/
namespace Sys2Proof

/-- R24, R26: a tile named by wing and logical tile number (row x 24 + column). -/
structure Site where
  wing : Fin 2
  tile : BitVec 10
  deriving DecidableEq, Repr

/-- R83: the 16-bit row operand. -/
structure RowOp where
  handle : BitVec 8
  kind   : Bool
  index  : BitVec 6
  adv    : Bool
  deriving DecidableEq, Repr

/-- R83: the fields of a row operand held in a 16-bit field (`SRC` of `LDW`, `DST` of `STW`). -/
def RowOp.ofBits (b : BitVec 16) : RowOp :=
  { handle := b.extractLsb' 0 8, kind := b.getLsbD 8, index := b.extractLsb' 9 6, adv := b.getLsbD 15 }

/-- R146: accumulator operand. -/
structure AccOp where
  region : BitVec 4
  row    : BitVec 11
  deriving DecidableEq, Repr

/-- R93, R94, R97, R98: what the CTL slot holds. -/
inductive CtlOp where
  | brc (cond : BitVec 4) (sa sb : BitVec 6) (target : BitVec 17)
  | loop (csrc : Bool) (sc : BitVec 6) (imm : BitVec 16) (last : BitVec 17)
  | twait (kind : BitVec 4) (rowop : RowOp) (fid : BitVec 6) (sv : BitVec 6)
  | stepBegin
  | stepEnd
  | reserved
  deriving DecidableEq, Repr

/-- R100, R101: what the MEM slot holds. -/
inductive MemOp where
  | ldw (tkind : BitVec 2) (tgt : BitVec 6) (skind : BitVec 2) (src : BitVec 16) (woff : BitVec 6)
  | stw (src : BitVec 6) (dkind : BitVec 2) (dst : BitVec 16) (woff : BitVec 6)
  | reserved
  deriving DecidableEq, Repr

/-- R103, R106: what the Q slot holds (`nrows` is the number of rows minus one). -/
inductive QOp where
  | qld (ticket : BitVec 5) (nrows : BitVec 2) (rowop : RowOp) (addr : BitVec 6) (inc : Bool)
  | qst (ticket : BitVec 5) (nrows : BitVec 2) (rowop : RowOp) (addr : BitVec 6) (inc : Bool)
  | qwait (queue : Bool) (mask : BitVec 32)
  | reserved
  deriving DecidableEq, Repr

/-- R107, R110, R111: what the NET slot holds. -/
inductive NetOp where
  | send (rowop : RowOp) (nrows : BitVec 4) (dst : BitVec 6) (chan : BitVec 4) (flaglast mcast : Bool)
      (mgroup : BitVec 4)
  | post (rowop : RowOp) (nrows : BitVec 4) (dst : BitVec 6) (chan : BitVec 4) (seq : BitVec 6)
  | rdrem (rowop : RowOp) (nrows : BitVec 4) (src : BitVec 6) (merge : Bool)
  | bar (bid : BitVec 4) (wait : Bool)
  | flag (op : BitVec 4) (fid sv dst : BitVec 6) (remote : Bool) (chan : BitVec 4)
  | reserved
  deriving DecidableEq, Repr

/-- R114: the vector-form instructions of the VEC slot. -/
inductive VKind where
  | vld | vlda | vst | vqnt | vste | vbcast | vmovs | vresc
  | vadd | vsub | vmul | vfma | vmax | vmin | vabs | vneg | vcmplt | vcmpeq
  | viadd | visub | vimul | vshl | vshr | vand | vor | vxor | vsel | vcvtif | vcvtfi
  | vexp2 | vrcp | vrsq | vsigm | vrsum | vrmax | vtopk
  deriving DecidableEq, Repr

/-- R113, R114: the scalar-form instructions of the VEC slot. -/
inductive SKind where
  | vsadd | vssub | vsmul | vsand | vsor | vsxor | vsshl | vsshr | vsmin | vsmax | vsli
  deriving DecidableEq, Repr

/-- R112: the fields of the vector form. -/
structure VForm where
  vd : BitVec 4
  va : BitVec 4
  vb : BitVec 4
  vc : BitVec 4
  fmt : BitVec 4
  rmode : BitVec 2
  rowop : RowOp
  rowop2 : RowOp
  acc : AccOp
  immA : BitVec 8
  immB : BitVec 8
  immC : BitVec 8
  xe : Bool
  side : Bool
  sa : BitVec 6
  release : Bool
  deriving DecidableEq, Repr

/-- R113: the fields of the scalar form. -/
structure SForm where
  sd : BitVec 6
  sa : BitVec 6
  sb : BitVec 6
  h : Bool
  imm32 : BitVec 32
  deriving DecidableEq, Repr

/-- R112: what the VEC slot holds. -/
inductive VecOp where
  | vec (k : VKind) (f : VForm)
  | sca (k : SKind) (f : SForm)
  | reserved
  deriving DecidableEq, Repr

/-- R136, R137, R139: what the ARR slot holds (`count` is the number of vectors minus one). -/
inductive ArrOp where
  | mload (wfmt : BitVec 3) (rowop xrowop srowop : RowOp) (side : Bool)
  | mstream (afmt : BitVec 3) (rowop : RowOp) (xhandle : BitVec 8) (acc : AccOp) (count : BitVec 20)
      (hrowop : RowOp) (swap walk inl : Bool)
  | msparse (wfmt : BitVec 3) (rowop xrowop : RowOp)
  | reserved
  deriving DecidableEq, Repr

/-- R162, R163, R164: what the code finds in a row: corrected codewords, and the first uncorrectable one; `parity` is a parity
error in a tag, a handle or a window descriptor that the access uses. -/
structure RowErr where
  corrected : BitVec 6 := 0
  bad : Option (BitVec 5) := none
  parity : Bool := false
  deriving DecidableEq, Repr

/-- R75: a bundle. `none` is opcode 0x00 of a slot (R76). `met` says that the tile's wait limit commits at the moment
the bundle's last condition comes true, and that the condition wins (R91). `ecc` is what the code finds in the rows that
the bundle reads, `fetch` what it finds in the program row when the bundle's fetch reads it (R78, R163, R164). -/
structure Bundle where
  ctl : Option CtlOp := none
  mem : Option MemOp := none
  q   : Option QOp := none
  net : Option NetOp := none
  vec : Option VecOp := none
  arr : Option ArrOp := none
  met : Bool := false
  ecc : RowErr := {}
  fetch : RowErr := {}
  deriving DecidableEq, Repr

/-- R252 to R256: the sides of a silk-mesh router, in the cyclic order of R257. -/
inductive Dir where
  | tile | west | east | north | south | bridge | rowPort
  deriving DecidableEq, Repr

/-- R262: one requester of a merged read. -/
structure MergeReq where
  tile : BitVec 10
  wing : Fin 2
  row  : BitVec 14
  deriving DecidableEq, Repr

/-- R260, R261: a silk-mesh packet, header and flits (`data` is its payload bytes, `reqs` the fifth flit of a merged
reply). `found` is what the code finds in the row that the packet reads at its owner (R163, R164), `msg` the message of a flag channel
to which it belongs, on whose packets the destination gives verdicts (R346). -/
structure Packet where
  kind : BitVec 4
  place : BitVec 2 := 0
  dstTile : BitVec 10 := 0
  dstChip : BitVec 16 := 0
  srcTile : BitVec 10 := 0
  srcChip : BitVec 16 := 0
  srcKind : BitVec 2 := 0
  mcast : Bool := false
  flaglast : Bool := false
  chan : BitVec 4 := 0
  win : BitVec 4 := 0
  arg : BitVec 20 := 0
  axis : Bool := false
  index : BitVec 5 := 0
  lo : BitVec 5 := 0
  hi : BitVec 5 := 0
  rrow : BitVec 14 := 0
  status : BitVec 8 := 0
  /-- Offset in the destination wing that the sender named (row, word or place), and the target offset of a read's requester,
  carried for the fabric (R331). -/
  addr : BitVec 48 := 0
  raddr : BitVec 48 := 0
  data : List Byte := []
  reqs : List MergeReq := []
  found : RowErr := {}
  msg : Option (BitVec 8) := none
  deriving DecidableEq, Repr

/-- R263: what the symbol code of R162 finds on the link that a packet crosses; `row` is what it finds in the row that a packet
delivered to its tile reads there (R163). -/
structure LinkErr where
  corrected : BitVec 8 := 0
  bad : Bool := false
  row : RowErr := {}
  deriving DecidableEq, Repr

/-- R330: a fabric packet. `pcrcOk` is the outcome of its PCRC check, `tagOk` that of the edge tag (R588), `viaPair` says that it
arrived on the pair port (R284). -/
structure FPacket where
  kind : BitVec 4
  chan : BitVec 4 := 0
  order : Bool := false
  flag : Bool := false
  vclass : Bool := false
  vleg : Bool := false
  poison : Bool := false
  hops : BitVec 3 := 0
  dstChip : BitVec 16 := 0
  dstTile : BitVec 10 := 0
  dstKind : BitVec 2 := 0
  srcChip : BitVec 16 := 0
  srcTile : BitVec 10 := 0
  srcKind : BitVec 2 := 0
  midChip : BitVec 16 := 0
  epoch : BitVec 8 := 0
  pseq : BitVec 16 := 0
  msg : BitVec 8 := 0
  mcount : BitVec 16 := 0
  nflits : BitVec 4 := 0
  addr : BitVec 48 := 0
  arg : BitVec 32 := 0
  raddr : BitVec 48 := 0
  status : BitVec 8 := 0
  ctr : BitVec 64 := 0
  pcrcOk : Bool := true
  tagOk : Bool := true
  viaPair : Bool := false
  data : List Byte := []
  deriving DecidableEq, Repr

/-- R376: the fields of a HELLO record. -/
structure Hello where
  serial : BitVec 64
  wing : Bool
  port : BitVec 3
  role : BitVec 2
  grade : BitVec 8
  stepping : BitVec 8
  version : BitVec 8
  chip : BitVec 16
  plan : BitVec 64
  deriving DecidableEq, Repr

/-- R325, R375: the control records that a frame may carry. -/
inductive Control where
  | idle
  | ack (seq : BitVec 8)
  | nak (seq : BitVec 8)
  | poison (seq : BitVec 8)
  | hello (h : Hello)
  | sync (t3 t2 t1 : BitVec 64)
  | delayReq (t1 : BitVec 64)
  | stepDone (step : BitVec 64)
  | stepGo (step t : BitVec 64)
  | stop (epoch status : BitVec 8) (chip : BitVec 16)
  | reserved
  deriving DecidableEq, Repr

/-- R323: a frame of 72 bytes: its flit (a packet flit, the packet itself standing at its head flit, or the 64 bytes of a control
record) and its link word; `poison` is the mark of R327 on a flit whose head has already gone on. -/
structure Frame where
  seq : BitVec 8
  vc : BitVec 2
  tail : Bool
  crVc : BitVec 2
  crCount : BitVec 2
  head : Option FPacket
  ctrl : Option (List Byte)
  poison : Bool := false
  deriving DecidableEq, Repr

/-- R324: what the receiver's Reed-Solomon code and CRC find in a frame (corrected byte symbols, CRC outcome). -/
structure FrameCheck where
  corrected : BitVec 2 := 0
  crcOk : Bool := true
  deriving DecidableEq, Repr

/-- R292, R293, R304, R305: what a request meets at its controller: a refresh, failed tries of the command (3 means
that the second retry failed), corrected blocks, on-die corrections, and the first uncorrectable block. -/
structure HbmOut where
  refreshed : Bool := false
  fails : BitVec 2 := 0
  corrected : BitVec 8 := 0
  ondie : BitVec 8 := 0
  bad : Option (BitVec 6) := none
  deriving DecidableEq, Repr

/-- R15, R122, R180: who makes an access. -/
inductive Src where
  | program | hawk | host | loader
  deriving DecidableEq, Repr

/-- R502, R503: what a configuration request asks of the PCIe function: an identity field, the size of BAR2 (as a power of
two) through Resizable BAR, or anything else. -/
inductive ConfigReq where
  | vendorDevice | revisionClass | subsystem | serialNumber
  | resizeBar2 (log2 : BitVec 6)
  | other
  deriving DecidableEq, Repr

/-- R516: operands of SUBMIT. -/
structure SubmitArgs where
  reqId : BitVec 64
  seed : BitVec 64
  promptOff : BitVec 64
  promptLen : BitVec 32
  maxNew : BitVec 32
  stopToken : BitVec 32
  kind : BitVec 8
  dReq : BitVec 8
  scoreAddr : BitVec 64
  deriving DecidableEq, Repr

/-- R516: operands of PUBLISH_TABLE; `rows` is what the module reads at HOST_ADDR. -/
structure PublishArgs where
  set : BitVec 8
  version : BitVec 32
  minStep : BitVec 64
  hostAddr : BitVec 64
  length : BitVec 32
  data : List Byte
  deriving DecidableEq, Repr

/-- R516: operands of REPAIR_RELOAD; `data` is what the module reads at HOST_ADDR and `tagOk` whether the unit's tag
holds (R590). -/
structure RepairArgs where
  wing : BitVec 8
  offset : BitVec 64
  hostAddr : BitVec 64
  unit : BitVec 64
  data : List Byte
  tagOk : Bool
  deriving DecidableEq, Repr

/-- R516: a command of the command ring. `late` says that a CANCEL meets the commit of the running step and that the commit has
taken the lock (R433). -/
inductive RingCmd where
  | submit (a : SubmitArgs)
  | cancel (reqId : BitVec 64) (late : Bool)
  | publish (a : PublishArgs)
  | repair (a : RepairArgs)
  | reserved (opcode : BitVec 8)
  deriving DecidableEq, Repr

/-- R515: an entry of the command ring as one poll reads it. -/
structure RingEntry where
  phase : Bool
  vector : BitVec 8
  tag : BitVec 64
  cmd : RingCmd
  deriving DecidableEq, Repr

/-- R422: an entry of the step's token list. -/
structure Entry where
  tokenId : BitVec 32 := 0xFFFFFFFF
  slot : BitVec 14 := 0
  role : BitVec 2 := 3
  draftI : BitVec 3 := 0
  last : Bool := false
  score : Bool := false
  pos : BitVec 32 := 0
  seed : BitVec 64 := 0
  deriving DecidableEq, Repr

/-- R436: what HANDOFF carries. -/
structure HandoffArgs where
  reqId : BitVec 64
  seed : BitVec 64
  promptLen : BitVec 32
  maxNew : BitVec 32
  stopToken : BitVec 32
  dReq : BitVec 8
  firstToken : BitVec 32
  homeChip : BitVec 16
  vector : BitVec 8
  deriving DecidableEq, Repr

/-- R576: the trailer of a signed request, as its checks see it: the slot, the hash of the carried key, and whether
the signature holds over the request, the serial and the nonce. -/
structure Signed where
  slot : BitVec 8
  keyHash : BitVec 384
  sigOk : Bool
  deriving DecidableEq, Repr

/-- R583, R584: an instar copy, header fields and parts; the booleans are what its checks find. -/
structure Instar where
  magicOk : Bool
  seq : BitVec 32
  length : BitVec 32
  digestOk : Bool
  ownerSlot : BitVec 8
  ownerSigOk : Bool
  moduleTagOk : Bool
  ownerVer : BitVec 32
  serial : BitVec 64
  /-- WING, register offset and VALUE of each owner entry (R584). -/
  entries : List (Bool × Nat × BitVec 64)
  /-- The delay-line code of each of the 24 bands. -/
  codes : List (BitVec 8)
  otpCount : BitVec 32
  otpDigest : BitVec 384
  deriving DecidableEq, Repr

/-- R569: a chrysalis image, as its checks see it. -/
structure Chrysalis where
  magicOk : Bool
  keyHash : BitVec 384
  sigOk : Bool
  svn : BitVec 8
  version : BitVec 64
  length : BitVec 32
  digest : BitVec 384
  deriving DecidableEq, Repr

/-- R482, R484, R485, R495: the image of one tile. `regs` are the register images (offset, value), `program` the
program rows, `opened` the windows the image marks open (window, NOTIFY, FID), `resident` the resident rows. -/
structure TileImage where
  site : Site
  regs : List (BitVec 13 × BitVec 64)
  program : List (List Byte)
  resident : List (Nat × List Byte)
  opened : List (BitVec 4 × Bool × BitVec 6)
  entry : BitVec 17
  loadEntry : BitVec 17
  deriving DecidableEq, Repr

/-- R230: what the imago declares of a MoE layer: experts, choices per token, rows per token, the largest dispatch group, and
the expert slots (home chip and tile, window, expert, compiled place count). -/
structure LayerPlan where
  experts : BitVec 11
  chosen : BitVec 4
  nrows : BitVec 5
  tLim : BitVec 32
  slots : List (BitVec 16 × BitVec 10 × BitVec 4 × BitVec 11 × BitVec 17)
  deriving DecidableEq, Repr

/-- R482, R244: the first copy of a published table: where its two copies lie and what it holds; `layer` is the layer of a
placement table (R226), none for a table of another kind. -/
structure TableImage where
  site : Site
  set : BitVec 3
  version : BitVec 32
  handle : BitVec 8
  rows : List (List Byte)
  layer : Option LayerPlan := none
  deriving DecidableEq, Repr

/-- R481, R482, R486: an imago and its job description, as the loader of this module's wings checks and applies them,
after relocation (R490, R491). -/
structure Imago where
  digest : BitVec 384
  /-- The logical chip of this module's wing 0 (R490). -/
  lchip0 : BitVec 16
  magicOk : Bool
  format : BitVec 16
  gen : BitVec 8
  grade : BitVec 8
  modules : BitVec 16
  jobModules : BitVec 16
  profile : BitVec 8
  modeReq : BitVec 8
  wsvn : BitVec 32
  keySlot : BitVec 8
  sigOk : Bool
  enc : Bool
  tagsOk : Bool
  relocOk : Bool
  verdictsOk : Bool
  tiles : List TileImage
  tables : List TableImage
  /-- Fabric image: wing, register offset in the FB_ block, value (R482). -/
  fabric : List (Fin 2 × BitVec 20 × BitVec 64)
  /-- Regions of each wing: number, base and size in bytes, kind (R285). -/
  regions : List (Fin 2 × BitVec 4 × BitVec 39 × BitVec 39 × BitVec 4)
  /-- Reload image bytes of each wing, from offset 0 of its region of kind 5 (R493). -/
  reload : List (Fin 2 × List Byte)
  /-- Sizes of the partner wing's regions of kinds 1, 2, 4 and 7, partner chip, and the base of the partner's mirror region, of
  each wing (R302, R303). -/
  partnerBytes : List (Fin 2 × Nat)
  partnerChip : List (Fin 2 × BitVec 16)
  partnerMirror : List (Fin 2 × BitVec 39)
  /-- The module number, from which the chip numbers follow (R24, R372). -/
  modNum : BitVec 11
  group : BitVec 7
  firstStep : BitVec 64
  replay : Bool
  svJob : BitVec 64
  svStep : BitVec 64
  svLimits : BitVec 64
  svPages : BitVec 64
  /-- N_P and d of each wing (R297). -/
  pageShape : List (Fin 2 × Nat × Nat)
  /-- First page group and count of every intake module of the job (R297, R442). -/
  pageRanges : List (Nat × Nat)
  /-- The decode pool's intake modules, by the chip of their wing 0, in ascending module number; and the shipping map: for each
  page of a group of a wing of this module, its place in the group, the wing of the decode module that holds it there, its offset
  in group 0 of that wing, and the size of a group of that wing (R436). -/
  decodePool : List (BitVec 16)
  shipMap : List (Fin 2 × Nat × Fin 2 × BitVec 48 × Nat)
  scores : BitVec 8
  tLims : List (BitVec 32)
  strictStreams : Nat
  openMsgs : Nat
  msgPackets : Nat
  stackRows : Nat
  waitBound : Nat
  poolOverlap : Bool
  deriving DecidableEq, Repr

/-- R602, R604, R606 to R610: what the fabric manager decides for a restart. -/
structure RestartPlan where
  /-- The step f of R604. -/
  step : BitVec 64
  repeats : BitVec 2
  /-- The module is a prepared spare that takes another module's chips (R607). -/
  spare : Bool
  modNum : BitVec 11
  partnerChip : List (Fin 2 × BitVec 16)
  /-- R604: for a replaced module, the step held in the header of each wing's image in the partner's mirror region. -/
  mirrored : List (Fin 2 × BitVec 64)
  verdicts : List (Fin 2 × BitVec 16)
  /-- Routing entries of the bank not in force: wing, index, entry (R381). -/
  routes : List (Fin 2 × BitVec 13 × BitVec 64)
  /-- Granules rewritten from the mirror or another wing (R612): wing, granule, bytes. -/
  repairs : List (Fin 2 × Nat × List Byte)
  /-- The copy of R608 that a spare receives: wing, HBM offset, bytes. -/
  copies : List (Fin 2 × Nat × List Byte)
  /-- Slots whose page granules are lost on both sides (R612). -/
  lostSlots : List (BitVec 14)
  /-- The pair is lost as a whole (R614): every unfinished request ends with this status. -/
  lostJob : Option (BitVec 8)
  /-- A spare's imago, with which it was prepared (R606). -/
  img : Option Imago
  /-- The module takes over a failed module: its QUEUED and PREFILL slots are held (R613). -/
  promptHold : Bool
  /-- The slacks that the margin re-plan finds, wing 0's 12 bands first (R553). -/
  slacks : List (BitVec 8)
  deriving DecidableEq, Repr

/-- The commands: one constructor for each row of the opcode table. The docstring of each names its row and rule. -/
inductive Instr where
  /-- NOP (R76). -/
  | nop (u : Site)
  /-- BRC (R93). -/
  | brc (u : Site) (cond : BitVec 4) (sa sb : BitVec 6) (target : BitVec 17) (co : Bundle)
  /-- LOOP (R94). -/
  | loop (u : Site) (csrc : Bool) (sc : BitVec 6) (imm : BitVec 16) (last : BitVec 17) (co : Bundle)
  /-- TWAIT (R97). -/
  | twait (u : Site) (kind : BitVec 4) (rowop : RowOp) (fid sv : BitVec 6) (co : Bundle)
  /-- STEP_BEGIN (R98). -/
  | stepBegin (u : Site) (co : Bundle)
  /-- STEP_END (R98). -/
  | stepEnd (u : Site) (co : Bundle)
  /-- LDW (R100). -/
  | ldw (u : Site) (tkind : BitVec 2) (tgt : BitVec 6) (skind : BitVec 2) (src : BitVec 16) (woff : BitVec 6) (co : Bundle)
  /-- STW (R101). -/
  | stw (u : Site) (src : BitVec 6) (dkind : BitVec 2) (dst : BitVec 16) (woff : BitVec 6) (co : Bundle)
  /-- QLD (R105). -/
  | qld (u : Site) (ticket : BitVec 5) (nrows : BitVec 2) (rowop : RowOp) (addr : BitVec 6) (inc : Bool) (co : Bundle)
  /-- QST (R105). -/
  | qst (u : Site) (ticket : BitVec 5) (nrows : BitVec 2) (rowop : RowOp) (addr : BitVec 6) (inc : Bool) (co : Bundle)
  /-- QWAIT (R106). -/
  | qwait (u : Site) (queue : Bool) (mask : BitVec 32) (co : Bundle)
  /-- SEND (R107). -/
  | send (u : Site) (rowop : RowOp) (nrows : BitVec 4) (dst : BitVec 6) (chan : BitVec 4) (flaglast mcast : Bool) (mgroup : BitVec 4) (co : Bundle)
  /-- POST (R233). -/
  | post (u : Site) (rowop : RowOp) (nrows : BitVec 4) (dst : BitVec 6) (chan : BitVec 4) (seq : BitVec 6) (co : Bundle)
  /-- RDREM (R109). -/
  | rdrem (u : Site) (rowop : RowOp) (nrows : BitVec 4) (src : BitVec 6) (merge : Bool) (co : Bundle)
  /-- BAR (R110). -/
  | bar (u : Site) (bid : BitVec 4) (wait : Bool) (co : Bundle)
  /-- FLAG_SET (R111). -/
  | flagSet (u : Site) (fid sv dst : BitVec 6) (remote : Bool) (chan : BitVec 4) (co : Bundle)
  /-- FLAG_ADD (R111). -/
  | flagAdd (u : Site) (fid sv dst : BitVec 6) (remote : Bool) (chan : BitVec 4) (co : Bundle)
  /-- FLAG_WAIT_AT_LEAST (R111). -/
  | flagWaitAtLeast (u : Site) (fid sv dst : BitVec 6) (remote : Bool) (chan : BitVec 4) (co : Bundle)
  /-- FLAG_WAIT_EQUAL (R111). -/
  | flagWaitEqual (u : Site) (fid sv dst : BitVec 6) (remote : Bool) (chan : BitVec 4) (co : Bundle)
  /-- VLD (R115). -/
  | vld (u : Site) (f : VForm) (co : Bundle)
  /-- VLDA (R114). -/
  | vlda (u : Site) (f : VForm) (co : Bundle)
  /-- VST (R116). -/
  | vst (u : Site) (f : VForm) (co : Bundle)
  /-- VQNT (R117). -/
  | vqnt (u : Site) (f : VForm) (co : Bundle)
  /-- VSTE (R116). -/
  | vste (u : Site) (f : VForm) (co : Bundle)
  /-- VBCAST (R114). -/
  | vbcast (u : Site) (f : VForm) (co : Bundle)
  /-- VMOVS (R114). -/
  | vmovs (u : Site) (f : VForm) (co : Bundle)
  /-- VRESC (R118). -/
  | vresc (u : Site) (f : VForm) (co : Bundle)
  /-- VADD (R114). -/
  | vadd (u : Site) (f : VForm) (co : Bundle)
  /-- VSUB (R114). -/
  | vsub (u : Site) (f : VForm) (co : Bundle)
  /-- VMUL (R114). -/
  | vmul (u : Site) (f : VForm) (co : Bundle)
  /-- VFMA (R63). -/
  | vfma (u : Site) (f : VForm) (co : Bundle)
  /-- VMAX (R64). -/
  | vmax (u : Site) (f : VForm) (co : Bundle)
  /-- VMIN (R64). -/
  | vmin (u : Site) (f : VForm) (co : Bundle)
  /-- VABS (R114). -/
  | vabs (u : Site) (f : VForm) (co : Bundle)
  /-- VNEG (R114). -/
  | vneg (u : Site) (f : VForm) (co : Bundle)
  /-- VCMPLT (R114). -/
  | vcmplt (u : Site) (f : VForm) (co : Bundle)
  /-- VCMPEQ (R114). -/
  | vcmpeq (u : Site) (f : VForm) (co : Bundle)
  /-- VIADD (R114). -/
  | viadd (u : Site) (f : VForm) (co : Bundle)
  /-- VISUB (R114). -/
  | visub (u : Site) (f : VForm) (co : Bundle)
  /-- VIMUL (R114). -/
  | vimul (u : Site) (f : VForm) (co : Bundle)
  /-- VSHL (R114). -/
  | vshl (u : Site) (f : VForm) (co : Bundle)
  /-- VSHR (R114). -/
  | vshr (u : Site) (f : VForm) (co : Bundle)
  /-- VAND (R114). -/
  | vand (u : Site) (f : VForm) (co : Bundle)
  /-- VOR (R114). -/
  | vor (u : Site) (f : VForm) (co : Bundle)
  /-- VXOR (R114). -/
  | vxor (u : Site) (f : VForm) (co : Bundle)
  /-- VSEL (R114). -/
  | vsel (u : Site) (f : VForm) (co : Bundle)
  /-- VCVTIF (R114). -/
  | vcvtif (u : Site) (f : VForm) (co : Bundle)
  /-- VCVTFI (R114). -/
  | vcvtfi (u : Site) (f : VForm) (co : Bundle)
  /-- VEXP2 (R65). -/
  | vexp2 (u : Site) (f : VForm) (co : Bundle)
  /-- VRCP (R65). -/
  | vrcp (u : Site) (f : VForm) (co : Bundle)
  /-- VRSQ (R65). -/
  | vrsq (u : Site) (f : VForm) (co : Bundle)
  /-- VSIGM (R65). -/
  | vsigm (u : Site) (f : VForm) (co : Bundle)
  /-- VRSUM (R119). -/
  | vrsum (u : Site) (f : VForm) (co : Bundle)
  /-- VRMAX (R114). -/
  | vrmax (u : Site) (f : VForm) (co : Bundle)
  /-- VTOPK (R120). -/
  | vtopk (u : Site) (f : VForm) (co : Bundle)
  /-- VSADD (R114). -/
  | vsadd (u : Site) (f : SForm) (co : Bundle)
  /-- VSSUB (R114). -/
  | vssub (u : Site) (f : SForm) (co : Bundle)
  /-- VSMUL (R114). -/
  | vsmul (u : Site) (f : SForm) (co : Bundle)
  /-- VSAND (R114). -/
  | vsand (u : Site) (f : SForm) (co : Bundle)
  /-- VSOR (R114). -/
  | vsor (u : Site) (f : SForm) (co : Bundle)
  /-- VSXOR (R114). -/
  | vsxor (u : Site) (f : SForm) (co : Bundle)
  /-- VSSHL (R114). -/
  | vsshl (u : Site) (f : SForm) (co : Bundle)
  /-- VSSHR (R114). -/
  | vsshr (u : Site) (f : SForm) (co : Bundle)
  /-- VSMIN (R114). -/
  | vsmin (u : Site) (f : SForm) (co : Bundle)
  /-- VSMAX (R114). -/
  | vsmax (u : Site) (f : SForm) (co : Bundle)
  /-- VSLI (R114). -/
  | vsli (u : Site) (f : SForm) (co : Bundle)
  /-- MLOAD (R138). -/
  | mload (u : Site) (wfmt : BitVec 3) (rowop xrowop srowop : RowOp) (side : Bool) (co : Bundle)
  /-- MSPARSE (R137). -/
  | msparse (u : Site) (wfmt : BitVec 3) (rowop xrowop : RowOp) (co : Bundle)
  /-- MSTREAM (R139). -/
  | mstream (u : Site) (afmt : BitVec 3) (rowop : RowOp) (xhandle : BitVec 8) (acc : AccOp) (count : BitVec 20) (hrowop : RowOp) (swap walk inl : Bool) (co : Bundle)
  /-- STREAM_BEGIN_FEED (R143). -/
  | streamBeginFeed (u : Site)
  /-- VECTOR_FEED (R144). -/
  | vectorFeed (u : Site) (found : RowErr)
  /-- ACC_ROW_WRITE (R148). -/
  | accRowWrite (u : Site)
  /-- WEIGHT_FILL_COMPLETE (R138). -/
  | weightFillComplete (u : Site)
  /-- QLD_COMPLETE (R287). -/
  | qldComplete (u : Site) (ticket : BitVec 5) (o : HbmOut)
  /-- QST_COMPLETE (R287). -/
  | qstComplete (u : Site) (ticket : BitVec 5) (o : HbmOut) (tie : Bool)
  /-- WAIT_TIMEOUT (R90). -/
  | waitTimeout (u : Site) (tie : Bool)
  /-- INBOUND_ROW_LAND (R188). -/
  | inboundRowLand (u : Site)
  /-- INBOUND_HOLD_TIMEOUT (R188). -/
  | inboundHoldTimeout (u : Site) (tie : Bool)
  /-- SP_SCRUB (R165). -/
  | spScrub (u : Site) (row : BitVec 14) (found : RowErr)
  /-- MERGE_HOLD_EXPIRY (R189). -/
  | mergeHoldExpiry (u : Site) (row : BitVec 14)
  /-- FUSE_LOAD_COMPLETE (R21). -/
  | fuseLoadComplete
  /-- MESH_FORWARD (R257). -/
  | meshForward (u : Site) (out : Dir) (e : LinkErr) (tie : Bool)
  /-- ROW_WRITE (R185). -/
  | rowWrite (u : Site) (dir : Dir) (p : Packet) (tie : Bool)
  /-- ROW_POST (R186). -/
  | rowPost (u : Site) (dir : Dir) (p : Packet) (tie : Bool)
  /-- WORD_WRITE (R175). -/
  | wordWrite (u : Site) (dir : Dir) (p : Packet) (tie : Bool)
  /-- READ_REQ (R181). -/
  | readReq (u : Site) (dir : Dir) (p : Packet) (tie : Bool)
  /-- READ_DATA (R109). -/
  | readData (u : Site) (dir : Dir) (p : Packet) (tie : Bool)
  /-- READ_MERGED (R262). -/
  | readMerged (u : Site) (dir : Dir) (p : Packet) (tie : Bool)
  /-- READ_STATUS (R109). -/
  | readStatus (u : Site) (dir : Dir) (p : Packet) (tie : Bool)
  /-- WORD_READ (R181). -/
  | wordRead (u : Site) (dir : Dir) (p : Packet) (tie : Bool)
  /-- WORD_DATA (R331). -/
  | wordData (u : Site) (dir : Dir) (p : Packet) (tie : Bool)
  /-- BAR_ARRIVE (R267). -/
  | barArrive (u : Site) (dir : Dir) (p : Packet) (tie : Bool)
  /-- BAR_RELEASE (R267). -/
  | barRelease (u : Site) (dir : Dir) (p : Packet) (tie : Bool)
  /-- FLAG_OP (R270). -/
  | flagOp (u : Site) (dir : Dir) (p : Packet) (tie : Bool)
  /-- FRAME_RECEIVE (R326). -/
  | frameReceive (w : Fin 2) (p : Fin 8) (f : Frame) (chk : FrameCheck)
  /-- ACK (R325). -/
  | ack (w : Fin 2) (p : Fin 8) (seq : BitVec 8)
  /-- NAK (R326). -/
  | nak (w : Fin 2) (p : Fin 8) (seq : BitVec 8)
  /-- POISON (R327). -/
  | poison (w : Fin 2) (p : Fin 8) (seq : BitVec 8) (vc : BitVec 2) (tail : Bool)
  /-- LANE_LOCK_LOSS (R329). -/
  | laneLockLoss (w : Fin 2) (p : Fin 8) (lane : Fin 4)
  /-- PORT_TRAINED (R377). -/
  | portTrained (w : Fin 2) (p : Fin 8) (rtt : BitVec 12)
  /-- HELLO (R377). -/
  | hello (w : Fin 2) (p : Fin 8) (h : Hello)
  /-- HELLO_TIMER (R377). -/
  | helloTimer (w : Fin 2) (p : Fin 8)
  /-- FABRIC_PACKET_RECEIVE (R382). -/
  | fabricPacketReceive (w : Fin 2) (port : Fin 10) (p : FPacket)
  /-- HBM_WRITE (R284). -/
  | hbmWrite (w : Fin 2) (p : FPacket) (o : HbmOut) (tie : Bool)
  /-- COMPLETE (R346). -/
  | complete (w : Fin 2) (p : FPacket)
  /-- VERDICT (R346). -/
  | verdict (w : Fin 2) (chip : BitVec 16) (chan : BitVec 4) (dstKind : BitVec 2) (dstTile : BitVec 10) (msg : BitVec 8) (taken : Bool)
  /-- STRICT_ACK_TIMER (R343). -/
  | strictAckTimer (w : Fin 2) (chip : BitVec 16) (chan : BitVec 4)
  /-- FLAG_HOLD_TIMEOUT (R349). -/
  | flagHoldTimeout (w : Fin 2) (chip : BitVec 16) (chan : BitVec 4) (dstKind : BitVec 2) (dstTile : BitVec 10) (msg : BitVec 8) (tie : Bool)
  /-- SWEEP (R386). -/
  | sweep (w : Fin 2) (port : Fin 10) (p : FPacket)
  /-- OCC_SAMPLE (R385). -/
  | occSample (w : Fin 2) (out : Fin 9)
  /-- FB_BAR_LOCAL_ARRIVE (R352). -/
  | fbBarLocalArrive (w : Fin 2) (tile : BitVec 10) (bid : BitVec 4)
  /-- FB_BAR_CHILD_ARRIVE (R352). -/
  | fbBarChildArrive (w : Fin 2) (p : FPacket)
  /-- FB_BAR_PARENT_RELEASE (R352). -/
  | fbBarParentRelease (w : Fin 2) (p : FPacket)
  /-- FB_BAR_LOCAL_RELEASE (R352). -/
  | fbBarLocalRelease (w : Fin 2) (tile : BitVec 10) (bid : BitVec 4)
  /-- TIMESYNC_TIMER (R389). -/
  | timesyncTimer (w : Fin 2)
  /-- DELAY_REQ (R389). -/
  | delayReq (w : Fin 2) (port : Fin 9) (t1 : BitVec 64)
  /-- SYNC (R390). -/
  | sync (w : Fin 2) (port : Fin 9) (t3 t2 t1 : BitVec 64)
  /-- STEP_DONE (R393). -/
  | stepDone (w : Fin 2) (port : Fin 9) (step : BitVec 64)
  /-- STEP_GO (R394). -/
  | stepGo (w : Fin 2) (port : Fin 9) (step t : BitVec 64)
  /-- STEP_ADVANCE (R393). -/
  | stepAdvance (w : Fin 2)
  /-- STOP (R600). -/
  | stop (w : Fin 2) (p : Fin 8) (epoch status : BitVec 8) (chip : BitVec 16)
  /-- JOB_STOP (R599). -/
  | jobStop (w : Fin 2) (status : BitVec 8) (source : BitVec 4) (locus : BitVec 16)
  /-- OTHER_WING_STOP (R599). -/
  | otherWingStop (w : Fin 2)
  /-- SUBMIT (R415). -/
  | submit (vector : BitVec 8) (tag : BitVec 64) (a : SubmitArgs)
  /-- CANCEL (R417). -/
  | cancel (vector : BitVec 8) (tag reqId : BitVec 64) (late : Bool)
  /-- PUBLISH_TABLE (R517). -/
  | publishTable (vector : BitVec 8) (tag : BitVec 64) (a : PublishArgs)
  /-- REPAIR_RELOAD (R516). -/
  | repairReload (vector : BitVec 8) (tag : BitVec 64) (a : RepairArgs)
  /-- COMMAND_POLL (R514). -/
  | commandPoll (entries : List RingEntry) (cplHead : BitVec 32)
  /-- HEARTBEAT (R512). -/
  | heartbeat
  /-- STEP_BOUNDARY (R418). -/
  | stepBoundary (w : Fin 2)
  /-- BATCH_PART (R418). -/
  | batchPart (w : Fin 2) (q : BitVec 11) (step : BitVec 64) (part : List (BitVec 15 × Entry)) (clear : List (BitVec 14)) (pages : List (BitVec 14 × List (BitVec 32)))
  /-- MIRROR_ACK (R418). -/
  | mirrorAck (w : Fin 2)
  /-- ACK_TIMEOUT (R418). -/
  | ackTimeout (w : Fin 2)
  /-- CANCEL_FORWARD (R431). -/
  | cancelForward (w : Fin 2) (slot : BitVec 14)
  /-- HANDOFF (R436). -/
  | handoff (a : HandoffArgs)
  /-- HANDOFF_REPLY (R436). -/
  | handoffReply (reqId : BitVec 64) (status : BitVec 8) (chip : BitVec 16) (slot : BitVec 14) (groups : List (BitVec 32))
  /-- SHIP_DONE (R436). -/
  | shipDone (slot : BitVec 14) (cancelled : Bool)
  /-- LEDGER_SIGN_COMPLETE (R465). -/
  | ledgerSignComplete (w : Fin 2) (block : BitVec 48)
  /-- AU_LEDGER_EXPORT (R466). -/
  | auLedgerExport (w : Fin 2) (value : BitVec 64)
  /-- EVENT_DROP (R520). -/
  | eventDrop
  /-- MSIX_COALESCE_TIMER (R522). -/
  | msixCoalesceTimer (v : BitVec 6)
  /-- MSIX_UNMASK (R522). -/
  | msixUnmask (v : BitVec 6)
  /-- RING_ENABLE (R530). -/
  | ringEnable (value : BitVec 64)
  /-- TC_RUN (R124). -/
  | tcRun (u : Site) (src : Src) (value : BitVec 64)
  /-- SAT_CLEAR (R60). -/
  | satClear (u : Site) (src : Src) (value : BitVec 64)
  /-- WIN_OPEN (R183). -/
  | winOpen (u : Site) (src : Src) (win : BitVec 4) (notify : Bool) (fid : BitVec 6) (tie : Bool)
  /-- WIN_CLOSE (R182). -/
  | winClose (u : Site) (src : Src) (win : BitVec 4) (tie : Bool)
  /-- TC_TAG_EMPTY (R174). -/
  | tcTagEmpty (u : Site) (src : Src) (value : BitVec 64)
  /-- TC_GATHER_SEAL (R178). -/
  | tcGatherSeal (u : Site) (src : Src) (value : BitVec 64)
  /-- VIOL_COUNT_CLEAR (R199). -/
  | violCountClear (u : Site) (value : BitVec 64)
  /-- CM_CANCEL_SET (R300). -/
  | cmCancelSet (w : Fin 2) (slot : BitVec 14) (tie : Bool)
  /-- CM_CANCEL_CLR (R315). -/
  | cmCancelClr (w : Fin 2) (slot : BitVec 14)
  /-- SPAN_ARM (R299). -/
  | spanArm (w : Fin 2) (value : BitVec 64) (tie : Bool)
  /-- PUB_ARM (R246). -/
  | pubArm (w : Fin 2) (set : BitVec 3) (tie : Bool)
  /-- PUB_CANCEL (R251). -/
  | pubCancel (w : Fin 2) (set : BitVec 3) (tie : Bool)
  /-- ROUTE_ARM (R384). -/
  | routeArm (w : Fin 2) (value : BitVec 64)
  /-- OCC_CLEAR (R401). -/
  | occClear (w : Fin 2) (value : BitVec 64)
  /-- FB_JOB_WRITE (R384). -/
  | fbJobWrite (w : Fin 2) (value : BitVec 64)
  /-- TB_STEP_DONE_WRITE (R393). -/
  | tbStepDoneWrite (w : Fin 2) (value : BitVec 64)
  /-- TB_TIME_WRITE (R406). -/
  | tbTimeWrite (w : Fin 2) (value : BitVec 64)
  /-- PW_BUDGET_WRITE (R540). -/
  | pwBudgetWrite (value : BitVec 64)
  /-- TIER_DOWN (R549). -/
  | tierDown (t : Fin 8)
  /-- TIER_GATE_SHUT (R549). -/
  | tierGateShut (t : Fin 8)
  /-- TIER_POWER_OFF (R549). -/
  | tierPowerOff (t : Fin 8)
  /-- TIER_UP (R551). -/
  | tierUp (t : Fin 8)
  /-- TIER_POWER_UP_DONE (R551). -/
  | tierPowerUpDone (t : Fin 8)
  /-- WW_REPLAN (R553). -/
  | wwReplan (w : Fin 2) (slacks : List (BitVec 8))
  /-- WW_PERIOD_EXPIRY (R553). -/
  | wwPeriodExpiry (w : Fin 2) (slacks : List (BitVec 8))
  /-- WINGWEAR_MEASURE (R552). -/
  | wingwearMeasure (w : Fin 2) (band : Fin 12) (slack drift : BitVec 8) (beatPs : BitVec 10)
  /-- ARBITER_EPOCH (R544). -/
  | arbiterEpoch
  /-- POWER_REQUEST (R544). -/
  | powerRequest (dom : Fin 50) (watts : BitVec 11)
  /-- POWER_RELEASE (R545). -/
  | powerRelease (dom : Fin 50) (peak100 : BitVec 11)
  /-- REDUCTION_ACK (R546). -/
  | reductionAck (dom : Fin 50)
  /-- BAND_VOLTAGE_CONTROL (R543). -/
  | bandVoltageControl (dom : Fin 50) (beats draws : List (BitVec 11)) (draw : BitVec 11)
  /-- BAND_HOT (R547). -/
  | bandHot (dom : Fin 50) (celsius : BitVec 8)
  /-- THERMAL_CLAMP_STEP (R547). -/
  | thermalClampStep (dom : Fin 50) (celsius : BitVec 8)
  /-- HBM_REFRESH (R292). -/
  | hbmRefresh (w : Fin 2) (stack : Fin 10) (bank : BitVec 8) (ends : Bool)
  /-- CM_SCRUB (R306). -/
  | cmScrub (w : Fin 2) (granule : BitVec 28) (o : HbmOut)
  /-- HAWK_HBM_ACCESS (R283). -/
  | hawkHbmAccess (w : Fin 2) (write : Bool) (off : BitVec 48) (len : Nat) (data : List Byte) (outs : List HbmOut) (tie : Bool)
  /-- BAR2_WRITE (R508). -/
  | bar2Write (off : BitVec 39) (data : List Byte) (outs : List HbmOut) (tie : Bool)
  /-- BAR2_READ (R509). -/
  | bar2Read (off : BitVec 39) (len : Nat) (outs : List HbmOut) (re : RowErr)
  /-- REGISTER_WRITE (R15). -/
  | registerWrite (w : Fin 2) (src : Src) (off : BitVec 25) (bytes : Nat) (isRead : Bool) (value : BitVec 64)
  /-- BAD_ACCESS_CLEAR (R528). -/
  | badAccessClear (value : BitVec 64)
  /-- CF_JOB_STOP (R616). -/
  | cfJobStop (w : Fin 2) (value : BitVec 64)
  /-- CF_RESET (R636). -/
  | cfReset (w : Fin 2) (src : Src) (value : BitVec 64)
  /-- CONFIG_REQUEST (R571). -/
  | configRequest (r : ConfigReq)
  /-- FUNCTION_LEVEL_RESET (R523). -/
  | functionLevelReset
  /-- HOT_RESET (R523). -/
  | hotReset
  /-- PCIE_LINK_DOWN (R523). -/
  | pcieLinkDown
  /-- D3HOT_ENTRY (R523). -/
  | d3hotEntry
  /-- PERST_N (R523). -/
  | perstN (low : Bool)
  /-- GET_INFO (R577). -/
  | getInfo
  /-- READ_OTP_LOG (R577). -/
  | readOtpLog
  /-- GET_NONCE (R576). -/
  | getNonce
  /-- NONCE_LAPSE (R576). -/
  | nonceLapse
  /-- LEDGER_CERT (R577). -/
  | ledgerCert (slot : BitVec 8)
  /-- OWNER_CLAIM (R577). -/
  | ownerClaim (slot : BitVec 8) (keyHash : BitVec 384)
  /-- OWNER_ADD (R579). -/
  | ownerAdd (sg : Signed) (slot : BitVec 8) (keyHash : BitVec 384)
  /-- OWNER_REVOKE (R581). -/
  | ownerRevoke (sg : Signed) (slot : BitVec 8)
  /-- ROLLBACK_COMMIT (R579). -/
  | rollbackCommit (sg : Signed)
  /-- WSVN_RAISE (R579). -/
  | wsvnRaise (sg : Signed) (new : BitVec 32)
  /-- DEBUG_UNLOCK (R582). -/
  | debugUnlock (sg : Signed)
  /-- DEBUG_DISABLE (R582). -/
  | debugDisable (sg : Signed)
  /-- INSTAR_WRITE (R585). -/
  | instarWrite (part : Instar)
  /-- CHRYSALIS_WRITE (R570). -/
  | chrysalisWrite (off : BitVec 32) (len : BitVec 32) (img : Chrysalis) (final : Bool)
  /-- WEIGHT_KEY (R573). -/
  | weightKey (sg : Signed) (key : BitVec 256) (unwraps : Bool)
  /-- EDGE_KEY (R589). -/
  | edgeKey (sg : Signed) (w : Fin 2) (key : BitVec 256) (unwraps : Bool)
  /-- ZEROISE (R577). -/
  | zeroise (sg : Signed)
  /-- ENTROPY_HEALTH_FAIL (R567). -/
  | entropyHealthFail
  /-- GET_VERSION (R574). -/
  | getVersion
  /-- GET_CAPABILITIES (R574). -/
  | getCapabilities
  /-- NEGOTIATE_ALGORITHMS (R574). -/
  | negotiateAlgorithms (p384 sha384 : Bool)
  /-- GET_DIGESTS (R574). -/
  | getDigests
  /-- GET_CERTIFICATE (R574). -/
  | getCertificate (slot : BitVec 8)
  /-- CHALLENGE (R574). -/
  | challenge (slot : BitVec 8) (nonce : BitVec 256)
  /-- GET_MEASUREMENTS (R574). -/
  | getMeasurements (index : BitVec 8) (signed : Bool) (nonce : BitVec 256)
  /-- SET_ENDPOINT_ID (R524). -/
  | setEndpointId (eid : BitVec 8)
  /-- GET_SENSOR_READING (R525). -/
  | getSensorReading (id : BitVec 16) (measured : BitVec 16)
  /-- SET_NUMERIC_EFFECTER_VALUE (R525). -/
  | setNumericEffecterValue (id : BitVec 16) (watts : BitVec 16)
  /-- FIRMWARE_UPDATE (R524). -/
  | firmwareUpdate (img : Chrysalis)
  /-- FRU_READ (R524). -/
  | fruRead (addr : BitVec 7) (off : BitVec 13) (len : Nat)
  /-- FRU_WRITE (R524). -/
  | fruWrite (addr : BitVec 7) (off : BitVec 13) (data : List Byte)
  /-- PWR_EN_RISE (R632). -/
  | pwrEnRise (p54ok : Bool)
  /-- PWR_EN_FALL (R633). -/
  | pwrEnFall (low1s : Bool)
  /-- UNDER_V (R634). -/
  | underV
  /-- OVER_V (R634). -/
  | overV
  /-- REG_FAULT (R634). -/
  | regFault
  /-- THERMAL (R635). -/
  | thermal
  /-- MOD_RST_N (R631). -/
  | modRstN (low : Bool)
  /-- SVC_RST_N (R626). -/
  | svcRstN (low : Bool)
  /-- BOOT (R570). -/
  | boot (katOk entropyOk : Bool)
  /-- ADDR_SEL_CHANGE (R623). -/
  | addrSelChange (sel : BitVec 2)
  /-- FL_SEL_N (R626). -/
  | flSelN (low : Bool)
  /-- JOB_LOAD (R495). -/
  | jobLoad (img : Imago) (slacks : List (BitVec 8))
  /-- JOB_RESTART (R610). -/
  | jobRestart (plan : RestartPlan)
  /-- BRIDGE_LINK_HANDSHAKE (R278). -/
  | bridgeLinkHandshake (w : Fin 2) (row : Fin 24)
  /-- BRIDGE_LINK_LOST (R601). -/
  | bridgeLinkLost (w : Fin 2) (row : Fin 24)
  /-- HBM_STACK_TRAINED (R282). -/
  | hbmStackTrained (w : Fin 2) (stack : Fin 10)
  /-- HBM_STACK_HOT (R292). -/
  | hbmStackHot (w : Fin 2) (stack : Fin 10) (hot : Bool)
  /-- PCIE_LINK_UP (R527). -/
  | pcieLinkUp (speed : BitVec 4) (width : BitVec 6) (flit : Bool)
  /-- MOD_REFCLK_RANGE (R631). -/
  | modRefclkRange (inRange : Bool)
  /-- P3V3_AUX (R23). -/
  | p3v3Aux (up : Bool)
  /-- JTAG_ACCESS (R582). -/
  | jtagAccess (regAccess write : Bool) (w : Fin 2) (off : BitVec 25) (value : BitVec 64)
  deriving DecidableEq, Repr

end Sys2Proof
end

