-- ==== Sys2Proof/Decode.lean ====
section
/-!
DEFINITION. The decoder of table words. The block's commands come from outside; its opcode table gives no row any bits,
so no word spells a command.
-/
namespace Sys2Proof

/-- The command that a word spells by the bits of the opcode table: the table gives no bits to any row. -/
def decodeTableWord (_nbits _w : Nat) : Option Instr := none

end Sys2Proof
end

