-- ==== Sys2Proof/Config.lean ====
section
/-!
DEFINITION. What the spec leaves open: free values, each an opaque constant applied to what it depends on, so that no
proof can see a value of it; and the functions that the spec names from other standards without giving them (ECDSA,
certificates), opaque as well (log entries 5 and 7). Every statement holds whatever they are.
-/
namespace Sys2Proof

/-- ECDSA P-384 signature by the key of number `key` over a digest, with the random number the DRBG draws (R465). -/
opaque Config.sign : Nat → BitVec 384 → Nat → BitVec 768

/-- The public key of a derived key pair (R572): ledger key k is number k, the alias key 4, the identity key 5. -/
opaque Config.publicKey : Nat → BitVec 776

/-- The alias certificate chain (R574), as bytes. -/
opaque Config.certChain : BitVec 384 → List Byte

/-- The certificate of ledger public key `k` by the alias key of a booted image (R577), with the random number drawn. -/
opaque Config.ledgerCert : Nat → BitVec 384 → Nat → List Byte

/-- How an HBM domain shares its wing's ceiling of `h / 2` (R541: the spec gives the sum alone). -/
opaque Config.hbmCeil : Nat → Nat → Nat

/-- A nonce that the DRBG draws at its n-th request (R576, R577). -/
opaque Config.nonce : Nat → BitVec 256

/-- The seed of the valiant shift register, from the router's chip number (R383: the spec does not say how). -/
opaque Config.valiantSeed : BitVec 16 → BitVec 32

/-- What a measured or reported quantity reads as when the spec gives it no value (R525 sensors before any report). -/
opaque Config.freeWord : Nat → BitVec 64

/-- The module's fused serial number (R376, R502). -/
opaque Config.serial : BitVec 64

/-- The measurement of the boot ROM version (R574). -/
opaque Config.romVersion : BitVec 384

end Sys2Proof
end

