-- ==== Sys2Proof/Machine/Numbers.lean ====
section
/-!
DEFINITION. The exact arithmetic of the codes (02): floating-point values as exact dyadic numbers, rounding in the four
modes of R55, the storage codes of R38 with the range rules of R48, FP32 operations (R63), orderings (R64), conversions,
quantisation (R62) and the rescale step (R56 to R58, R70).
-/
namespace Sys2Proof.Machine

/-- A number read as two's complement in `n` bits. -/
def signedOf (n v : Nat) : Int := if v % 2 ^ n < 2 ^ (n - 1) then ((v % 2 ^ n : Nat) : Int) else ((v % 2 ^ n : Nat) : Int) - (2 ^ n : Nat)

/-- The low `n` bits of an integer, two's complement. -/
def bitsOfInt (n : Nat) (v : Int) : Nat := (v % ((2 ^ n : Nat) : Int)).toNat

/-- Numeric events of an operation: a mask of the flags of `TC_NUM_FLAGS` (R71) and saturation events (R59). -/
structure Ev where
  flags : Nat := 0
  sat : Nat := 0
  deriving DecidableEq, Repr

/-- Both operations' events. -/
def Ev.join (a b : Ev) : Ev := ⟨a.flags ||| b.flags, a.sat + b.sat⟩

def Ev.none : Ev := ⟨0, 0⟩
def evNV : Ev := ⟨1, 0⟩
def evDZ : Ev := ⟨2, 0⟩
def evOF : Ev := ⟨4, 0⟩
def evUF : Ev := ⟨8, 0⟩
/-- R59: one saturation event; SAT sets with it. -/
def evSat : Ev := ⟨16, 1⟩

/-- An exact value, or an infinity or NaN. A finite value is `m * 2^e` with its sign, which a zero keeps. -/
inductive Fp where
  | nan
  | inf (neg : Bool)
  | fin (neg : Bool) (m : Nat) (e : Int)
  deriving DecidableEq, Repr

/-- R46, R47: a binary floating-point code: bits of a significand with its leading one, exponent of the subnormal
spacing, width, largest finite code, code of infinity where there is one, code of the NaN produced. -/
structure FpFmt where
  prec : Nat
  qmin : Int
  width : Nat
  maxCode : Nat
  infCode : Option Nat
  nanCode : Nat
  deriving DecidableEq, Repr

def fmt32 : FpFmt := ⟨24, -149, 32, 0x7F7FFFFF, some 0x7F800000, 0x7FC00000⟩
def fmtBf16 : FpFmt := ⟨8, -133, 16, 0x7F7F, some 0x7F80, 0x7FC0⟩
def fmtE4m3 : FpFmt := ⟨4, -9, 8, 0x7E, none, 0x7F⟩
def fmtE5m2 : FpFmt := ⟨3, -16, 8, 0x7B, some 0x7C, 0x7E⟩

/-- The value of a code. A magnitude above the largest finite code and other than infinity's is a NaN. -/
def FpFmt.decode (f : FpFmt) (c : Nat) : Fp :=
  let h := 2 ^ (f.width - 1)
  let neg := c / h % 2 == 1
  let a := c % h
  if a ≤ f.maxCode then
    let x := a / 2 ^ (f.prec - 1)
    let r := a % 2 ^ (f.prec - 1)
    if x = 0 then .fin neg r f.qmin else .fin neg (r + 2 ^ (f.prec - 1)) (f.qmin + (x - 1 : Nat))
  else if f.infCode = some a then .inf neg
  else .nan

/-- R55: `m * 2^-k` rounded to an integer magnitude; mode 0 nearest even, 1 nearest away, 2 toward zero, 3 toward minus
infinity of a value of sign `neg`. -/
def roundMag (mode : Nat) (neg : Bool) (m k : Nat) : Nat :=
  let q := m / 2 ^ k
  let r := m % 2 ^ k
  let up := match mode with
    | 0 => decide (2 ^ k < 2 * r) || (decide (2 * r = 2 ^ k) && q % 2 == 1)
    | 1 => decide (2 ^ k ≤ 2 * r)
    | 2 => false
    | _ => neg && r != 0
  if up then q + 1 else q

/-- The spacing exponent at which a magnitude `m * 2^e` is rounded. -/
def FpFmt.quantum (f : FpFmt) (m : Nat) (e : Int) : Int := max ((Nat.log2 m : Int) + e - (f.prec - 1 : Nat)) f.qmin

/-- R48: the code of an exact value in a format, rounded once, with the events. A NaN entering a code narrower than
FP32 sets NV; `f32` says that the target is FP32, which carries a NaN without a flag (R71). -/
def FpFmt.encode (f : FpFmt) (mode : Nat) (v : Fp) : Nat × Ev :=
  let sgn (n : Bool) (c : Nat) : Nat := if n then c + 2 ^ (f.width - 1) else c
  match v with
  | .nan => (f.nanCode, if f.width = 32 then Ev.none else evNV)
  | .inf neg => match f.infCode with
    | some c => (sgn neg c, Ev.none)
    | none => (sgn neg f.maxCode, evSat)
  | .fin neg m e =>
    if m = 0 then (sgn neg 0, Ev.none)
    else
      let q := f.quantum m e
      let k := (q - e).toNat
      let r := if q ≤ e then m * 2 ^ (e - q).toNat else roundMag mode neg m k
      let code := r + (q - f.qmin).toNat * 2 ^ (f.prec - 1)
      if f.maxCode < code then
        if f.width = 8 then (sgn neg f.maxCode, evSat)
        else if mode = 2 ∨ (mode = 3 ∧ neg = false) then (sgn neg f.maxCode, Ev.none)
        else (sgn neg (f.infCode.getD f.maxCode), evOF)
      else
        let exact := decide (q ≤ e) || m % 2 ^ k == 0
        (sgn neg code, if exact || decide (2 ^ (f.prec - 1) ≤ code) then Ev.none else evUF)

/-! ### FP32 operations (R63) -/

/-- The value of an FP32 lane. -/
def fp (x : Lane) : Fp := fmt32.decode x.toNat

/-- fp32(v): the FP32 lane of an exact value in a mode. -/
def toFp (mode : Nat) (v : Fp) : Lane × Ev :=
  let r := fmt32.encode mode v
  (BitVec.ofNat 32 r.1, r.2)

/-- The canonical NaN (R47). -/
def nanLane : Lane := 0x7FC00000

/-- A signed integer times a power of two; `zneg` is the sign of an exact zero. -/
def dyad (zneg : Bool) (m e : Int) : Fp := .fin (if m = 0 then zneg else decide (m < 0)) m.natAbs e

/-- The signed significand at a lower exponent. -/
def scaleTo (neg : Bool) (m : Nat) (e lo : Int) : Int :=
  let v : Int := (m * 2 ^ (e - lo).toNat : Nat)
  if neg then -v else v

/-- The exact sum of two values; an exact zero has the sign IEEE 754 gives in the mode. `none` is an invalid sum. -/
def Fp.add (mode : Nat) : Fp → Fp → Option Fp
  | .nan, _ => some .nan
  | _, .nan => some .nan
  | .inf a, .inf b => if a = b then some (.inf a) else none
  | .inf a, .fin .. => some (.inf a)
  | .fin .., .inf b => some (.inf b)
  | .fin na ma ea, .fin nb mb eb =>
    let lo := min ea eb
    let z := if ma = 0 ∧ mb = 0 ∧ na = nb then na else decide (mode = 3)
    some (dyad z (scaleTo na ma ea lo + scaleTo nb mb eb lo) lo)

/-- The exact product; `none` is an infinity times a zero. -/
def Fp.mul : Fp → Fp → Option Fp
  | .nan, _ => some .nan
  | _, .nan => some .nan
  | .inf a, .inf b => some (.inf (a != b))
  | .inf a, .fin b m _ => if m = 0 then none else some (.inf (a != b))
  | .fin b m _, .inf a => if m = 0 then none else some (.inf (a != b))
  | .fin na ma ea, .fin nb mb eb => some (.fin (na != nb) (ma * mb) (ea + eb))

/-- The value with its sign inverted. -/
def Fp.neg : Fp → Fp
  | .nan => .nan
  | .inf a => .inf (!a)
  | .fin a m e => .fin (!a) m e

/-- Times a power of two, exactly. -/
def Fp.scale (k : Int) : Fp → Fp
  | .fin a m e => .fin a m (e + k)
  | v => v

/-- Rounds the result of an operation; an invalid one is the canonical NaN with NV. -/
def finish (mode : Nat) : Option Fp → Lane × Ev
  | some v => toFp mode v
  | none => (nanLane, evNV)

def fpAdd (mode : Nat) (a b : Lane) : Lane × Ev := finish mode (Fp.add mode (fp a) (fp b))
def fpSub (mode : Nat) (a b : Lane) : Lane × Ev := finish mode (Fp.add mode (fp a) (fp b).neg)
def fpMul (mode : Nat) (a b : Lane) : Lane × Ev := finish mode (Fp.mul (fp a) (fp b))

/-- R63: an infinity times a zero is invalid whatever the addend. -/
def fpFma (mode : Nat) (a b c : Lane) : Lane × Ev :=
  match Fp.mul (fp a) (fp b) with
  | none => (nanLane, evNV)
  | some p => finish mode (Fp.add mode p (fp c))

/-- R53: one level of the tree: sums of adjacent pairs. -/
def pairSums : List Lane → List Lane × Ev
  | a :: b :: r =>
    let x := fpAdd 0 a b
    let y := pairSums r
    (x.1 :: y.1, x.2.join y.2)
  | l => (l, Ev.none)

/-- The sum of a list in the fixed tree of R53 and R119: `n` levels of adjacent pairs. -/
def treeSum : Nat → List Lane → List Lane × Ev
  | 0, l => (l, Ev.none)
  | n + 1, l =>
    let x := pairSums l
    let y := treeSum n x.1
    (y.1, x.2.join y.2)

/-! ### Orderings (R64) -/

def isNan (x : Lane) : Bool := decide (0x7F800000 < x.toNat % 2 ^ 31)

/-- A NaN lies below every other value and equals every NaN; zeros are equal. -/
def fpKey (x : Lane) : Int :=
  let a : Nat := x.toNat % 2 ^ 31
  if 0x7F800000 < a then -4294967296 else if x.toNat < 2 ^ 31 then Int.ofNat a else -Int.ofNat a

def fpLess (a b : Lane) : Bool := decide (fpKey a < fpKey b)
def fpEq (a b : Lane) : Bool := decide (fpKey a = fpKey b)

def fpMax (a b : Lane) : Lane :=
  if isNan a then (if isNan b then nanLane else b) else if isNan b then a
  else if fpEq a b then (if a = 0 ∨ b = 0 then 0 else a)
  else if fpLess a b then b else a

def fpMin (a b : Lane) : Lane :=
  if isNan a then (if isNan b then nanLane else b) else if isNan b then a
  else if fpEq a b then (if a = 0x80000000 ∨ b = 0x80000000 then 0x80000000 else a)
  else if fpLess a b then a else b

/-! ### Conversions -/

/-- An exact value rounded to an integer, `none` for a NaN or infinity. -/
def Fp.toInt (mode : Nat) : Fp → Option Int
  | .fin neg m e =>
    let r := if 0 ≤ e then m * 2 ^ e.toNat else roundMag mode neg m (-e).toNat
    some (if neg then -(r : Int) else (r : Int))
  | _ => none

/-- `VCVTIF`. -/
def cvtIF (mode : Nat) (x : Lane) : Lane × Ev := toFp mode (dyad false x.toInt 0)

/-- `VCVTFI`: out of range clamps with NV, NaN gives 0 with NV. -/
def cvtFI (mode : Nat) (x : Lane) : Lane × Ev :=
  match fp x with
  | .nan => (0, evNV)
  | .inf neg => (if neg then 0x80000000 else 0x7FFFFFFF, evNV)
  | v =>
    let i := (v.toInt mode).getD 0
    if 2 ^ 31 ≤ i then (0x7FFFFFFF, evNV)
    else if i < -(2 ^ 31) then (0x80000000, evNV)
    else (BitVec.ofInt 32 i, Ev.none)

/-- Widening of a narrower code to FP32, exact; a NaN becomes the canonical NaN without a flag (R115). -/
def widen (f : FpFmt) (c : Nat) : Lane := (toFp 0 (f.decode c)).1

/-- R54: the floating-point codes of OUT_FMT and FMT: 4 E4M3, 5 E5M2, 6 BF16, 7 FP32. -/
def fpFmtOf (fmt : Nat) : FpFmt :=
  if fmt = 4 then fmtE4m3 else if fmt = 5 then fmtE5m2 else if fmt = 6 then fmtBf16 else fmt32

/-- R56: the limit L of an integer code: 0 int4, 1 int8, 2 int16, 3 int32. -/
def intLimit (fmt : Nat) : Nat := if fmt = 0 then 7 else if fmt = 1 then 127 else if fmt = 2 then 32767 else 2147483647

/-- R116: an int32 lane clamped to the limit of an integer code, without a flag. -/
def clampInt (fmt : Nat) (x : Lane) : Int := max (-(intLimit fmt : Int)) (min (intLimit fmt : Int) x.toInt)

/-! ### Quantisation (R62) -/

/-- |x| of the finite lanes as exact magnitudes. -/
def finMags (xs : List Lane) : List (Nat × Int) :=
  xs.filterMap (fun x => match fp x with | .fin _ m e => some (m, e) | _ => none)

/-- The smallest exponent within the bounds at which every finite magnitude rounds to at most L. -/
def quantExp (mode limit : Nat) (mags : List (Nat × Int)) : Nat → Int → Int → Int
  | 0, _, hi => hi
  | n + 1, e, hi =>
    if hi < e then hi
    else if mags.all (fun p =>
        decide ((if 0 ≤ p.2 - e then p.1 * 2 ^ (p.2 - e).toNat else roundMag mode false p.1 (e - p.2).toNat) ≤ limit))
      then e
    else quantExp mode limit mags n (e + 1) hi

/-- R62: one lane at the block's exponent. -/
def quantCode (mode limit : Nat) (e : Int) (x : Lane) : Lane × Ev :=
  match fp x with
  | .nan => (0, evNV.join evSat)
  | .inf neg => (BitVec.ofInt 32 (if neg then -(limit : Int) else limit), evSat)
  | v =>
    let c := ((v.scale (-e)).toInt mode).getD 0
    if limit < c.natAbs then (BitVec.ofInt 32 (if c < 0 then -(limit : Int) else limit), evSat)
    else (BitVec.ofInt 32 c, Ev.none)

/-- R62: 32 lanes quantised as a block: codes, exponent, events. -/
def quantBlock (mode fmt : Nat) (lo hi : Int) (xs : List Lane) : List Lane × Int × Ev :=
  let e := quantExp mode (intLimit fmt) (finMags xs) 256 lo hi
  let cs := xs.map (quantCode mode (intLimit fmt) e)
  (cs.map (·.1), e, cs.foldl (fun a c => a.join c.2) Ev.none)

/-! ### Groups and accumulation (R49 to R53, R69) -/

/-- R49: one block added to an int32 accumulator. -/
def intBlock (acc : Int × Ev) (b : Int × Int) : Int × Ev :=
  let c : Int := if 0 ≤ b.2 then b.1 * 2 ^ b.2.toNat else b.1.fdiv (2 ^ (-b.2).toNat)
  let lost := decide (b.2 < 0) && decide (b.1 % (2 ^ (-b.2).toNat : Int) ≠ 0)
  let ev := if lost then acc.2.join evSat else acc.2
  let t := acc.1 + c
  if 2 ^ 31 - 1 < t then (2 ^ 31 - 1, ev.join evSat)
  else if t < -(2 ^ 31) then (-(2 ^ 31), ev.join evSat)
  else (t, ev)

/-- R49: a group's blocks, block 0 first. -/
def intAccumulate (acc : Lane) (blocks : List (Int × Int)) : Lane × Ev :=
  let r := blocks.foldl intBlock (acc.toInt, Ev.none)
  (BitVec.ofInt 32 r.1, r.2)

/-- R51, R69: the FP8 group sum in the exact window, rounded once. -/
def fp8Group (fa fw : FpFmt) (prods : List (Nat × Nat)) : Lane × Ev :=
  let vs := prods.map (fun p => (fa.decode p.1, fw.decode p.2))
  let ps := vs.map (fun p => Fp.mul p.1 p.2)
  if ps.any (fun p => p = none || p = some .nan) then (nanLane, evNV)
  else
    let pos := ps.any (fun p => p = some (.inf false))
    let neg := ps.any (fun p => p = some (.inf true))
    if pos && neg then (nanLane, evNV)
    else if pos then (0x7F800000, Ev.none)
    else if neg then (0xFF800000, Ev.none)
    else
      let sum := ps.foldl (fun (a : Int) p => match p with
        | some (.fin n m e) => a + scaleTo n m e (-32)
        | _ => a) 0
      toFp 0 (dyad false sum (-32))

/-- R53: the BF16 group sum: products rounded to FP32, then the fixed tree of six levels. -/
def bf16Group (prods : List (Nat × Nat)) : Lane × Ev :=
  let ps := prods.map (fun p => finish 0 (Fp.mul (fmtBf16.decode p.1) (fmtBf16.decode p.2)))
  let t := treeSum 6 (ps.map (·.1))
  (t.1.headD 0, (ps.foldl (fun a p => a.join p.2) Ev.none).join t.2)

/-! ### Rescaling (R54 to R58, R70) -/

/-- R54: the header fields a rescale uses. -/
structure RescaleHeader where
  eAcc : Int
  eOut : Int
  outFmt : Nat
  accFp : Bool
  deriving DecidableEq, Repr

def RescaleHeader.ofRow (row : List Byte) : RescaleHeader :=
  let v := leNat (row.take 4)
  { eAcc := signedOf 8 v, eOut := signedOf 8 (v / 2 ^ 8), outFmt := v / 2 ^ 16 % 16, accFp := v / 2 ^ 20 % 2 == 1 }

/-- R55: an entry. -/
structure RescaleEntry where
  mult : Nat
  shift : Nat
  rmode : Nat
  bias : Nat
  deriving DecidableEq, Repr

/-- R54: the entry at place `i` of an entry row. -/
def RescaleEntry.ofRow (row : List Byte) (i : Nat) : RescaleEntry :=
  let v := leNat ((row.drop (8 * i)).take 8)
  { mult := v % 2 ^ 16, shift := v / 2 ^ 16 % 64, rmode := v / 2 ^ 22 % 4, bias := v / 2 ^ 24 % 2 ^ 32 }

/-- R56, R57, R70: an exact z (already in units of the output code) becomes an integer output code. -/
def outInt (fmt mode : Nat) (z : Fp) : Lane × Ev :=
  let lim := intLimit fmt
  match z with
  | .nan => (0, evNV.join evSat)
  | .inf neg => (BitVec.ofInt 32 (if neg then -(lim : Int) else lim), evSat)
  | v =>
    let y := (v.toInt mode).getD 0
    if lim < y.natAbs then (BitVec.ofInt 32 (if y < 0 then -(lim : Int) else lim), evSat)
    else (BitVec.ofInt 32 y, Ev.none)

/-- R56, R57, R70: an exact z rounded once to a floating-point OUT_FMT, held exactly in FP32. -/
def outFloat (fmt mode : Nat) (z : Fp) : Lane × Ev :=
  match z with
  | .nan => (nanLane, evNV)
  | v =>
    let f := fpFmtOf fmt
    let r := f.encode mode v
    (widen f r.1, r.2)

/-- R56, R70: a z (in units of the output code, `up` the exponent that a floating-point output adds) as the output. -/
def outClass (h : RescaleHeader) (e : RescaleEntry) (up : Int) (z : Fp) : Lane × Ev :=
  if h.outFmt ≤ 3 then outInt h.outFmt e.rmode z else outFloat h.outFmt e.rmode (z.scale up)

/-- R70: an int32 accumulator at a bound. -/
def outBound (h : RescaleHeader) (e : RescaleEntry) (neg : Bool) : Lane × Ev :=
  if h.outFmt ≤ 3 then outInt h.outFmt e.rmode (.inf neg)
  else
    let f := fpFmtOf h.outFmt
    if f.width = 8 then (widen f (if neg then f.maxCode + 128 else f.maxCode), evSat)
    else (if neg then 0xFF800000 else 0x7F800000, evSat.join evOF)

/-- R56, R70: an int32 accumulator with its side accumulator. DEDUCED (log entry 18): where the accumulator stands at a bound
and fp32(side × M) is an infinity or a NaN, two rows of R70 apply, and the class of the side product decides. -/
def rescaleInt (h : RescaleHeader) (e : RescaleEntry) (acc side : Lane) : Lane × Ev :=
  let a := acc.toInt
  let sm := finish 0 (Fp.mul (fp side) (.fin false e.mult 0))
  match fp sm.1 with
  | .fin n m x =>
    if a = -(2 ^ 31) ∨ a = 2 ^ 31 - 1 then outBound h e (decide (a < 0))
    else
      let z1 := dyad false (a * e.mult + signedOf 32 e.bias) (-(e.shift : Int))
      let z := (Fp.add 0 z1 (.fin n m (x - h.eAcc - e.shift))).getD .nan
      let z := match z with | .fin s mm ee => if mm = 0 then .fin false 0 ee else .fin s mm ee | v => v
      let r := outClass h e h.eOut z
      (r.1, sm.2.join r.2)
  | v =>
    let r := outClass h e 0 v
    (r.1, (sm.2.join ⟨r.2.flags, 0⟩).join evSat)

/-- R57, R70: an FP32 accumulator: an infinity or a NaN gives the row of its class, a finite one the fused step. DESIGN CHOICE
(log entry 59): R57 and R70 give no class for a finite accumulator with an M or a B that is an infinity or a NaN; the
model forms the sum as IEEE 754 does and takes the row of the class of z. -/
def rescaleFp (h : RescaleHeader) (e : RescaleEntry) (acc : Lane) : Lane × Ev :=
  match fp acc with
  | .fin n m x =>
    let z := match Fp.mul (.fin n m x) (fmtBf16.decode e.mult) with
      | none => Fp.nan
      | some p => (Fp.add e.rmode (p.scale (-(e.shift : Int))) (fmt32.decode e.bias)).getD .nan
    if h.outFmt ≤ 3 then outInt h.outFmt e.rmode (z.scale (-h.eOut)) else outFloat h.outFmt e.rmode z
  | v => outClass h e 0 v

/-- R118: one lane of a rescaled row; `typ` is the row's type after R148 (1 int32, 2 FP32). -/
def rescale (h : RescaleHeader) (e : RescaleEntry) (typ : Nat) (acc side : Lane) : Lane × Ev :=
  if 8 ≤ h.outFmt then (0, evNV)
  else if typ = 2 then rescaleFp h e acc else rescaleInt h e acc side

end Sys2Proof.Machine
end

