-- ==== Sys2Proof/Machine/RegMap.lean ====
section
/-!
DEFINITION. The register map (R14, R504, R505): where every register of the module lies, its fields, their access codes
(R17), reset tokens (R20), cold values, and whether a warm reset keeps them. Rows follow the spec's register tables.
-/
namespace Sys2Proof.Machine

/-- R505: the register blocks; `mb` is the pair of registers in the cocoon mailbox region (R575). -/
inductive Block where
  | tile | cf | hi | sv | au | tb | mx | pw | ww | sc | fb | cm | mb
  deriving DecidableEq, Repr

/-- Where a field lies: block, offset of its register, stride between registers of one name, lowest bit, width. -/
structure Fld where
  blk : Block
  off : Nat
  stride : Nat
  lo : Nat
  width : Nat
  deriving DecidableEq, Repr

/-- R17: the access codes. -/
inductive Access where
  | rw | ro | w1c | wo | rwl | otp
  deriving DecidableEq, Repr

/-- R20: the cold reset token. -/
inductive Token where
  | num | cfg | fuse
  deriving DecidableEq, Repr

/-- A row of a register map: the field, access, token, cold value, and whether a warm reset keeps it. -/
structure FieldRow where
  fld : Fld
  acc : Access
  tok : Token
  cold : Nat
  kept : Bool
  deriving DecidableEq, Repr

/-- A register (or `count` registers `stride` bytes apart) and its fields. -/
structure RegRow where
  name : String
  off : Nat
  stride : Nat
  count : Nat
  fields : List FieldRow
  deriving DecidableEq, Repr

/-! ### Fields of the tile block -/

/-! TC_PC, R123 (03) -/
def Reg.TC_PC.PC : Fld := ⟨.tile, 0x0, 0x8, 0, 17⟩
/-! TC_RUN, R124 (03) -/
def Reg.TC_RUN.RUN : Fld := ⟨.tile, 0x8, 0x8, 0, 1⟩
def Reg.TC_RUN.ENTRY : Fld := ⟨.tile, 0x8, 0x8, 17, 17⟩
/-! TC_BEAT_COUNT, R125 (03) -/
def Reg.TC_BEAT_COUNT.BEATS : Fld := ⟨.tile, 0x10, 0x8, 0, 32⟩
/-! TC_WAIT_LIMIT, R126 (03) -/
def Reg.TC_WAIT_LIMIT.LIMIT_US : Fld := ⟨.tile, 0x18, 0x8, 0, 24⟩
/-! TC_WAIT_STATE, R127 (03) -/
def Reg.TC_WAIT_STATE.WAITING : Fld := ⟨.tile, 0x20, 0x8, 0, 1⟩
def Reg.TC_WAIT_STATE.CAUSE : Fld := ⟨.tile, 0x20, 0x8, 1, 4⟩
def Reg.TC_WAIT_STATE.PC : Fld := ⟨.tile, 0x20, 0x8, 5, 17⟩
/-! TC_FAULT, R128 (03) -/
def Reg.TC_FAULT.VALID : Fld := ⟨.tile, 0x28, 0x8, 0, 1⟩
def Reg.TC_FAULT.STATUS : Fld := ⟨.tile, 0x28, 0x8, 1, 8⟩
def Reg.TC_FAULT.CAUSE : Fld := ⟨.tile, 0x28, 0x8, 9, 4⟩
def Reg.TC_FAULT.PC : Fld := ⟨.tile, 0x28, 0x8, 13, 17⟩
/-! TC_STEP_LOCAL, R129 (03) -/
def Reg.TC_STEP_LOCAL.STEP : Fld := ⟨.tile, 0x30, 0x8, 0, 64⟩
/-! TC_WIN_CTL, R192 (05) -/
def Reg.TC_WIN_CTL.WIN : Fld := ⟨.tile, 0x38, 0x8, 0, 4⟩
def Reg.TC_WIN_CTL.OP : Fld := ⟨.tile, 0x38, 0x8, 4, 2⟩
def Reg.TC_WIN_CTL.NOTIFY : Fld := ⟨.tile, 0x38, 0x8, 6, 1⟩
def Reg.TC_WIN_CTL.FID : Fld := ⟨.tile, 0x38, 0x8, 7, 6⟩
/-! TC_WIN_STATE, R193 (05) -/
def Reg.TC_WIN_STATE.STATE : Fld := ⟨.tile, 0x40, 0x8, 0, 32⟩
/-! TC_TAG_EMPTY, R194 (05) -/
def Reg.TC_TAG_EMPTY.HANDLE : Fld := ⟨.tile, 0x48, 0x8, 0, 8⟩
def Reg.TC_TAG_EMPTY.FIRST : Fld := ⟨.tile, 0x48, 0x8, 8, 14⟩
def Reg.TC_TAG_EMPTY.COUNT_M1 : Fld := ⟨.tile, 0x48, 0x8, 22, 14⟩
/-! TC_GATHER_SEAL, R195 (05) -/
def Reg.TC_GATHER_SEAL.HANDLE : Fld := ⟨.tile, 0x50, 0x8, 0, 8⟩
def Reg.TC_GATHER_SEAL.ROW : Fld := ⟨.tile, 0x50, 0x8, 8, 14⟩
/-! TC_TABLE_SEL, R250 (07) -/
def Reg.TC_TABLE_SEL.ACTIVE : Fld := ⟨.tile, 0x58, 0x8, 0, 8⟩
def Reg.TC_TABLE_SEL.SEEN_GEN : Fld := ⟨.tile, 0x58, 0x8, 8, 32⟩
/-! TC_NUM_FLAGS, R71 (02) -/
def Reg.TC_NUM_FLAGS.NV : Fld := ⟨.tile, 0x100, 0x8, 0, 1⟩
def Reg.TC_NUM_FLAGS.DZ : Fld := ⟨.tile, 0x100, 0x8, 1, 1⟩
def Reg.TC_NUM_FLAGS.OF : Fld := ⟨.tile, 0x100, 0x8, 2, 1⟩
def Reg.TC_NUM_FLAGS.UF : Fld := ⟨.tile, 0x100, 0x8, 3, 1⟩
def Reg.TC_NUM_FLAGS.SAT : Fld := ⟨.tile, 0x100, 0x8, 4, 1⟩
def Reg.TC_NUM_FLAGS.ESC_ACT : Fld := ⟨.tile, 0x100, 0x8, 5, 1⟩
def Reg.TC_NUM_FLAGS.ESC_UNMATCHED : Fld := ⟨.tile, 0x100, 0x8, 6, 1⟩
def Reg.TC_NUM_FLAGS.ESC_ORDER : Fld := ⟨.tile, 0x100, 0x8, 7, 1⟩
/-! TC_SAT_COUNT, R72 (02) -/
def Reg.TC_SAT_COUNT.COUNT : Fld := ⟨.tile, 0x108, 0x8, 0, 32⟩
def Reg.TC_SAT_COUNT.OVER : Fld := ⟨.tile, 0x108, 0x8, 32, 1⟩
/-! TC_SAT_CTL, R73 (02) -/
def Reg.TC_SAT_CTL.LIMIT : Fld := ⟨.tile, 0x110, 0x8, 0, 32⟩
def Reg.TC_SAT_CTL.CLEAR : Fld := ⟨.tile, 0x110, 0x8, 32, 1⟩
/-! TC_WIDE_RUNS, R74 (02) -/
def Reg.TC_WIDE_RUNS.RUNS : Fld := ⟨.tile, 0x118, 0x8, 0, 16⟩
/-! TC_GEN0, R85 (03) -/
def Reg.TC_GEN0.BASE : Fld := ⟨.tile, 0x200, 0x20, 0, 20⟩
/-! TC_GEN1, R85 (03) -/
def Reg.TC_GEN1.N0 : Fld := ⟨.tile, 0x208, 0x20, 0, 16⟩
def Reg.TC_GEN1.N1 : Fld := ⟨.tile, 0x208, 0x20, 16, 16⟩
def Reg.TC_GEN1.N2 : Fld := ⟨.tile, 0x208, 0x20, 32, 16⟩
def Reg.TC_GEN1.N3 : Fld := ⟨.tile, 0x208, 0x20, 48, 16⟩
/-! TC_GEN2, R85 (03) -/
def Reg.TC_GEN2.S0 : Fld := ⟨.tile, 0x210, 0x20, 0, 32⟩
def Reg.TC_GEN2.S1 : Fld := ⟨.tile, 0x210, 0x20, 32, 32⟩
/-! TC_GEN3, R85 (03) -/
def Reg.TC_GEN3.S2 : Fld := ⟨.tile, 0x218, 0x20, 0, 32⟩
def Reg.TC_GEN3.S3 : Fld := ⟨.tile, 0x218, 0x20, 32, 32⟩
/-! AY_REGION, R155 (04) -/
def Reg.AY_REGION.BASE : Fld := ⟨.tile, 0x400, 0x8, 0, 11⟩
def Reg.AY_REGION.ROWS_M1 : Fld := ⟨.tile, 0x400, 0x8, 11, 11⟩
def Reg.AY_REGION.SIDE : Fld := ⟨.tile, 0x400, 0x8, 22, 1⟩
def Reg.AY_REGION.VALID : Fld := ⟨.tile, 0x400, 0x8, 23, 1⟩
/-! AY_STATUS, R156 (04) -/
def Reg.AY_STATUS.FEEDER : Fld := ⟨.tile, 0x480, 0x8, 0, 2⟩
def Reg.AY_STATUS.SHADOW : Fld := ⟨.tile, 0x480, 0x8, 2, 2⟩
def Reg.AY_STATUS.ACTIVE_FMT : Fld := ⟨.tile, 0x480, 0x8, 4, 3⟩
def Reg.AY_STATUS.ACTIVE_SPARSE : Fld := ⟨.tile, 0x480, 0x8, 7, 1⟩
def Reg.AY_STATUS.ACTIVE_SIDE : Fld := ⟨.tile, 0x480, 0x8, 8, 8⟩
/-! AY_SKIP_COUNT, R157 (04) -/
def Reg.AY_SKIP_COUNT.SKIPPED : Fld := ⟨.tile, 0x488, 0x8, 0, 32⟩
/-! AY_FED_COUNT, R158 (04) -/
def Reg.AY_FED_COUNT.FED : Fld := ⟨.tile, 0x490, 0x8, 0, 48⟩
/-! SP_HANDLE, R196 (05) -/
def Reg.SP_HANDLE.BASE : Fld := ⟨.tile, 0x800, 0x8, 0, 14⟩
def Reg.SP_HANDLE.ROWS_M1 : Fld := ⟨.tile, 0x800, 0x8, 14, 14⟩
def Reg.SP_HANDLE.MODE : Fld := ⟨.tile, 0x800, 0x8, 28, 2⟩
def Reg.SP_HANDLE.READS_M1 : Fld := ⟨.tile, 0x800, 0x8, 30, 4⟩
def Reg.SP_HANDLE.STEPCLR : Fld := ⟨.tile, 0x800, 0x8, 34, 1⟩
def Reg.SP_HANDLE.OWNER : Fld := ⟨.tile, 0x800, 0x8, 35, 2⟩
def Reg.SP_HANDLE.VALID : Fld := ⟨.tile, 0x800, 0x8, 37, 1⟩
/-! SP_WIN0, R197 (05) -/
def Reg.SP_WIN0.HANDLE : Fld := ⟨.tile, 0x1000, 0x10, 0, 8⟩
def Reg.SP_WIN0.FIRST : Fld := ⟨.tile, 0x1000, 0x10, 8, 14⟩
def Reg.SP_WIN0.COUNT_M1 : Fld := ⟨.tile, 0x1000, 0x10, 22, 14⟩
def Reg.SP_WIN0.ONESHOT : Fld := ⟨.tile, 0x1000, 0x10, 36, 1⟩
def Reg.SP_WIN0.ADMIT_NET : Fld := ⟨.tile, 0x1000, 0x10, 37, 1⟩
def Reg.SP_WIN0.ADMIT_HAWK : Fld := ⟨.tile, 0x1000, 0x10, 38, 1⟩
def Reg.SP_WIN0.ADMIT_HOST : Fld := ⟨.tile, 0x1000, 0x10, 39, 1⟩
/-! SP_WIN1, R197 (05) -/
def Reg.SP_WIN1.CHIP_LO : Fld := ⟨.tile, 0x1008, 0x10, 0, 16⟩
def Reg.SP_WIN1.CHIP_HI : Fld := ⟨.tile, 0x1008, 0x10, 16, 16⟩
def Reg.SP_WIN1.ADMITTED : Fld := ⟨.tile, 0x1008, 0x10, 32, 15⟩
def Reg.SP_WIN1.LANDED : Fld := ⟨.tile, 0x1008, 0x10, 47, 15⟩
/-! SP_MERGE_CTL, R198 (05) -/
def Reg.SP_MERGE_CTL.HOLD : Fld := ⟨.tile, 0x1100, 0x8, 0, 4⟩
def Reg.SP_MERGE_CTL.ENABLE : Fld := ⟨.tile, 0x1100, 0x8, 4, 1⟩
/-! SP_VIOL_COUNT, R199 (05) -/
def Reg.SP_VIOL_COUNT.COUNT : Fld := ⟨.tile, 0x1108, 0x8, 0, 32⟩
def Reg.SP_VIOL_COUNT.CLEAR : Fld := ⟨.tile, 0x1108, 0x8, 32, 1⟩
/-! SP_VIOL_FIRST, R200 (05) -/
def Reg.SP_VIOL_FIRST.VALID : Fld := ⟨.tile, 0x1110, 0x8, 0, 1⟩
def Reg.SP_VIOL_FIRST.REASON : Fld := ⟨.tile, 0x1110, 0x8, 1, 4⟩
def Reg.SP_VIOL_FIRST.SRC_CHIP : Fld := ⟨.tile, 0x1110, 0x8, 5, 16⟩
def Reg.SP_VIOL_FIRST.SRC_TILE : Fld := ⟨.tile, 0x1110, 0x8, 21, 10⟩
def Reg.SP_VIOL_FIRST.SRC_KIND : Fld := ⟨.tile, 0x1110, 0x8, 31, 2⟩
def Reg.SP_VIOL_FIRST.ROW : Fld := ⟨.tile, 0x1110, 0x8, 33, 14⟩
/-! SP_ECC_STATUS, R201 (05) -/
def Reg.SP_ECC_STATUS.CORRECTED : Fld := ⟨.tile, 0x1118, 0x8, 0, 32⟩
def Reg.SP_ECC_STATUS.UE_VALID : Fld := ⟨.tile, 0x1118, 0x8, 32, 1⟩
def Reg.SP_ECC_STATUS.UE_ROW : Fld := ⟨.tile, 0x1118, 0x8, 33, 14⟩
def Reg.SP_ECC_STATUS.UE_CODEWORD : Fld := ⟨.tile, 0x1118, 0x8, 47, 5⟩
def Reg.SP_ECC_STATUS.UE_SCRUB : Fld := ⟨.tile, 0x1118, 0x8, 52, 1⟩
def Reg.SP_ECC_STATUS.UE_PARITY : Fld := ⟨.tile, 0x1118, 0x8, 53, 1⟩
/-! SP_SCRUB_CTL, R202 (05) -/
def Reg.SP_SCRUB_CTL.PERIOD_MS : Fld := ⟨.tile, 0x1120, 0x8, 0, 16⟩
/-! MX_BAR_CFG, R272 (08) -/
def Reg.MX_BAR_CFG.PARENT : Fld := ⟨.tile, 0x1800, 0x8, 0, 3⟩
def Reg.MX_BAR_CFG.CHILD : Fld := ⟨.tile, 0x1800, 0x8, 3, 6⟩
def Reg.MX_BAR_CFG.LOCAL : Fld := ⟨.tile, 0x1800, 0x8, 9, 1⟩
def Reg.MX_BAR_CFG.VALID : Fld := ⟨.tile, 0x1800, 0x8, 10, 1⟩
/-! MX_BAR_STATE, R273 (08) -/
def Reg.MX_BAR_STATE.ARRIVED : Fld := ⟨.tile, 0x1880, 0x8, 0, 3⟩
def Reg.MX_BAR_STATE.WAITREL : Fld := ⟨.tile, 0x1880, 0x8, 3, 1⟩
def Reg.MX_BAR_STATE.PENDING : Fld := ⟨.tile, 0x1880, 0x8, 4, 3⟩
def Reg.MX_BAR_STATE.GEN : Fld := ⟨.tile, 0x1880, 0x8, 7, 16⟩
/-! MX_FLAG, R274 (08) -/
def Reg.MX_FLAG.VALUE : Fld := ⟨.tile, 0x1900, 0x8, 0, 32⟩
/-! MX_MCAST, R275 (08) -/
def Reg.MX_MCAST.AXIS : Fld := ⟨.tile, 0x1B00, 0x8, 0, 1⟩
def Reg.MX_MCAST.INDEX : Fld := ⟨.tile, 0x1B00, 0x8, 1, 5⟩
def Reg.MX_MCAST.LO : Fld := ⟨.tile, 0x1B00, 0x8, 6, 5⟩
def Reg.MX_MCAST.HI : Fld := ⟨.tile, 0x1B00, 0x8, 11, 5⟩
def Reg.MX_MCAST.VALID : Fld := ⟨.tile, 0x1B00, 0x8, 16, 1⟩
/-! MX_ROUTER_STATUS, R276 (08) -/
def Reg.MX_ROUTER_STATUS.CORRECTED : Fld := ⟨.tile, 0x1B80, 0x8, 0, 32⟩
def Reg.MX_ROUTER_STATUS.BAD_ARRIVALS : Fld := ⟨.tile, 0x1B80, 0x8, 32, 8⟩
def Reg.MX_ROUTER_STATUS.UE_VALID : Fld := ⟨.tile, 0x1B80, 0x8, 40, 1⟩
def Reg.MX_ROUTER_STATUS.UE_DIR : Fld := ⟨.tile, 0x1B80, 0x8, 41, 3⟩
def Reg.MX_ROUTER_STATUS.UE_KIND : Fld := ⟨.tile, 0x1B80, 0x8, 44, 1⟩
/-! CM_Q_STATE, R319 (09) -/
def Reg.CM_Q_STATE.LD_INUSE : Fld := ⟨.tile, 0x1C00, 0x8, 0, 32⟩
def Reg.CM_Q_STATE.ST_INUSE : Fld := ⟨.tile, 0x1C00, 0x8, 32, 32⟩
/-! ### Fields of the cf block -/

/-! CF_WING_ID, R28 (01) -/
def Reg.CF_WING_ID.WING : Fld := ⟨.cf, 0x0, 0x8, 0, 1⟩
def Reg.CF_WING_ID.GRADE : Fld := ⟨.cf, 0x0, 0x8, 8, 8⟩
def Reg.CF_WING_ID.STEPPING : Fld := ⟨.cf, 0x0, 0x8, 16, 8⟩
def Reg.CF_WING_ID.LOGICAL_TILES : Fld := ⟨.cf, 0x0, 0x8, 24, 10⟩
def Reg.CF_WING_ID.HBM_STACKS : Fld := ⟨.cf, 0x0, 0x8, 34, 4⟩
def Reg.CF_WING_ID.FABRIC_PORTS : Fld := ⟨.cf, 0x0, 0x8, 38, 4⟩
def Reg.CF_WING_ID.COCOON_PRESENT : Fld := ⟨.cf, 0x0, 0x8, 42, 1⟩
def Reg.CF_WING_ID.PCIE_PRESENT : Fld := ⟨.cf, 0x0, 0x8, 43, 1⟩
/-! CF_PROFILE, R499 (14) -/
def Reg.CF_PROFILE.PROFILE : Fld := ⟨.cf, 0x40, 0x8, 0, 4⟩
def Reg.CF_PROFILE.PADDED : Fld := ⟨.cf, 0x40, 0x8, 4, 1⟩
/-! CF_UNIT_LAT, R500 (14) -/
def Reg.CF_UNIT_LAT.LAT_0 : Fld := ⟨.cf, 0x48, 0x8, 0, 4⟩
def Reg.CF_UNIT_LAT.LAT_1 : Fld := ⟨.cf, 0x48, 0x8, 4, 4⟩
def Reg.CF_UNIT_LAT.LAT_2 : Fld := ⟨.cf, 0x48, 0x8, 8, 4⟩
def Reg.CF_UNIT_LAT.LAT_3 : Fld := ⟨.cf, 0x48, 0x8, 12, 4⟩
def Reg.CF_UNIT_LAT.LAT_4 : Fld := ⟨.cf, 0x48, 0x8, 16, 4⟩
def Reg.CF_UNIT_LAT.LAT_5 : Fld := ⟨.cf, 0x48, 0x8, 20, 4⟩
def Reg.CF_UNIT_LAT.LAT_6 : Fld := ⟨.cf, 0x48, 0x8, 24, 4⟩
def Reg.CF_UNIT_LAT.LAT_7 : Fld := ⟨.cf, 0x48, 0x8, 28, 4⟩
def Reg.CF_UNIT_LAT.LAT_8 : Fld := ⟨.cf, 0x48, 0x8, 32, 4⟩
def Reg.CF_UNIT_LAT.LAT_9 : Fld := ⟨.cf, 0x48, 0x8, 36, 4⟩
/-! CF_LOAD_STATUS, R501 (14) -/
def Reg.CF_LOAD_STATUS.VALID : Fld := ⟨.cf, 0x50, 0x8, 0, 1⟩
def Reg.CF_LOAD_STATUS.STATUS : Fld := ⟨.cf, 0x50, 0x8, 1, 8⟩
def Reg.CF_LOAD_STATUS.CHECK : Fld := ⟨.cf, 0x50, 0x8, 9, 4⟩
def Reg.CF_LOAD_STATUS.LCHIP : Fld := ⟨.cf, 0x50, 0x8, 13, 16⟩
def Reg.CF_LOAD_STATUS.TILE : Fld := ⟨.cf, 0x50, 0x8, 29, 10⟩
def Reg.CF_LOAD_STATUS.CLASS : Fld := ⟨.cf, 0x50, 0x8, 39, 4⟩
/-! CF_INSTAR_STATUS, R596 (17) -/
def Reg.CF_INSTAR_STATUS.IN_FORCE : Fld := ⟨.cf, 0x58, 0x8, 0, 2⟩
def Reg.CF_INSTAR_STATUS.SEQ : Fld := ⟨.cf, 0x58, 0x8, 2, 32⟩
def Reg.CF_INSTAR_STATUS.VALID_A : Fld := ⟨.cf, 0x58, 0x8, 34, 1⟩
def Reg.CF_INSTAR_STATUS.VALID_B : Fld := ⟨.cf, 0x58, 0x8, 35, 1⟩
def Reg.CF_INSTAR_STATUS.TARGET : Fld := ⟨.cf, 0x58, 0x8, 36, 1⟩
def Reg.CF_INSTAR_STATUS.SAFE : Fld := ⟨.cf, 0x58, 0x8, 37, 1⟩
/-! CF_JOB_STOP, R616 (18) -/
def Reg.CF_JOB_STOP.STOP : Fld := ⟨.cf, 0x60, 0x8, 0, 1⟩
def Reg.CF_JOB_STOP.STATUS : Fld := ⟨.cf, 0x60, 0x8, 1, 8⟩
/-! CF_STOP_RECORD0, R617 (18) -/
def Reg.CF_STOP_RECORD0.VALID : Fld := ⟨.cf, 0x68, 0x8, 0, 1⟩
def Reg.CF_STOP_RECORD0.STATUS : Fld := ⟨.cf, 0x68, 0x8, 1, 8⟩
def Reg.CF_STOP_RECORD0.SOURCE : Fld := ⟨.cf, 0x68, 0x8, 9, 4⟩
def Reg.CF_STOP_RECORD0.LOCUS : Fld := ⟨.cf, 0x68, 0x8, 13, 16⟩
def Reg.CF_STOP_RECORD0.CHIP : Fld := ⟨.cf, 0x68, 0x8, 29, 16⟩
/-! CF_STOP_RECORD1, R617 (18) -/
def Reg.CF_STOP_RECORD1.TIME : Fld := ⟨.cf, 0x70, 0x8, 0, 64⟩
/-! CF_STOP_RECORD2, R617 (18) -/
def Reg.CF_STOP_RECORD2.STEP : Fld := ⟨.cf, 0x78, 0x8, 0, 64⟩
/-! CF_RESET, R641 (19) -/
def Reg.CF_RESET.WARM : Fld := ⟨.cf, 0x80, 0x8, 0, 1⟩
def Reg.CF_RESET.KEY : Fld := ⟨.cf, 0x80, 0x8, 8, 8⟩
/-! CF_RESET_CAUSE, R642 (19) -/
def Reg.CF_RESET_CAUSE.CAUSE : Fld := ⟨.cf, 0x88, 0x8, 0, 4⟩
def Reg.CF_RESET_CAUSE.LATCH : Fld := ⟨.cf, 0x88, 0x8, 4, 4⟩
def Reg.CF_RESET_CAUSE.ADDR_SEL : Fld := ⟨.cf, 0x88, 0x8, 8, 2⟩
/-! ### Fields of the hi block -/

/-! HI_LINK_STATUS, R527 (15) -/
def Reg.HI_LINK_STATUS.SPEED : Fld := ⟨.hi, 0x0, 0x8, 0, 4⟩
def Reg.HI_LINK_STATUS.WIDTH : Fld := ⟨.hi, 0x0, 0x8, 4, 6⟩
def Reg.HI_LINK_STATUS.FLIT : Fld := ⟨.hi, 0x0, 0x8, 10, 1⟩
def Reg.HI_LINK_STATUS.UP : Fld := ⟨.hi, 0x0, 0x8, 11, 1⟩
def Reg.HI_LINK_STATUS.DOWN_EVENTS : Fld := ⟨.hi, 0x0, 0x8, 12, 16⟩
/-! HI_BAD_ACCESS_COUNT, R528 (15) -/
def Reg.HI_BAD_ACCESS_COUNT.COUNT : Fld := ⟨.hi, 0x8, 0x8, 0, 32⟩
def Reg.HI_BAD_ACCESS_COUNT.CLEAR : Fld := ⟨.hi, 0x8, 0x8, 32, 1⟩
def Reg.HI_BAD_ACCESS_COUNT.BAR : Fld := ⟨.hi, 0x8, 0x8, 33, 2⟩
def Reg.HI_BAD_ACCESS_COUNT.REASON : Fld := ⟨.hi, 0x8, 0x8, 35, 3⟩
/-! HI_CMD_RING_BASE, R529 (15) -/
def Reg.HI_CMD_RING_BASE.ADDR : Fld := ⟨.hi, 0x10, 0x8, 0, 64⟩
/-! HI_CPL_RING_BASE, R529 (15) -/
def Reg.HI_CPL_RING_BASE.ADDR : Fld := ⟨.hi, 0x18, 0x8, 0, 64⟩
/-! HI_CTRL_PAGE, R529 (15) -/
def Reg.HI_CTRL_PAGE.ADDR : Fld := ⟨.hi, 0x20, 0x8, 0, 64⟩
/-! HI_RING_CTL, R530 (15) -/
def Reg.HI_RING_CTL.ENABLE : Fld := ⟨.hi, 0x28, 0x8, 0, 1⟩
def Reg.HI_RING_CTL.CMD_LOG2 : Fld := ⟨.hi, 0x28, 0x8, 1, 5⟩
def Reg.HI_RING_CTL.CPL_LOG2 : Fld := ⟨.hi, 0x28, 0x8, 6, 5⟩
def Reg.HI_RING_CTL.RUNNING : Fld := ⟨.hi, 0x28, 0x8, 11, 1⟩
def Reg.HI_RING_CTL.CPL_FULL : Fld := ⟨.hi, 0x28, 0x8, 12, 1⟩
def Reg.HI_RING_CTL.RING_FAULT : Fld := ⟨.hi, 0x28, 0x8, 13, 1⟩
def Reg.HI_RING_CTL.EVT_LOST : Fld := ⟨.hi, 0x28, 0x8, 14, 8⟩
/-! HI_RING_STATUS, R531 (15) -/
def Reg.HI_RING_STATUS.CMD_HEAD : Fld := ⟨.hi, 0x30, 0x8, 0, 32⟩
def Reg.HI_RING_STATUS.CPL_TAIL : Fld := ⟨.hi, 0x30, 0x8, 32, 32⟩
/-! HI_POLL_CTL, R532 (15) -/
def Reg.HI_POLL_CTL.PERIOD_NS : Fld := ⟨.hi, 0x38, 0x8, 0, 16⟩
/-! HI_MSIX_COAL, R533 (15) -/
def Reg.HI_MSIX_COAL.COUNT : Fld := ⟨.hi, 0x40, 0x8, 0, 8⟩
def Reg.HI_MSIX_COAL.TIME_US : Fld := ⟨.hi, 0x40, 0x8, 8, 16⟩
/-! HI_BAR2_AP, R534 (15) -/
def Reg.HI_BAR2_AP.OFFSET : Fld := ⟨.hi, 0x100, 0x8, 0, 48⟩
def Reg.HI_BAR2_AP.WING : Fld := ⟨.hi, 0x100, 0x8, 48, 1⟩
def Reg.HI_BAR2_AP.VALID : Fld := ⟨.hi, 0x100, 0x8, 49, 1⟩
/-! ### Fields of the sv block -/

/-! SV_JOB_CFG, R439 (12) -/
def Reg.SV_JOB_CFG.SLOT_LO : Fld := ⟨.sv, 0x0, 0x8, 0, 14⟩
def Reg.SV_JOB_CFG.SLOT_HI : Fld := ⟨.sv, 0x0, 0x8, 14, 14⟩
def Reg.SV_JOB_CFG.INTAKE : Fld := ⟨.sv, 0x0, 0x8, 28, 1⟩
def Reg.SV_JOB_CFG.POOL : Fld := ⟨.sv, 0x0, 0x8, 29, 2⟩
def Reg.SV_JOB_CFG.MODE : Fld := ⟨.sv, 0x0, 0x8, 31, 1⟩
def Reg.SV_JOB_CFG.QINDEX : Fld := ⟨.sv, 0x0, 0x8, 32, 11⟩
def Reg.SV_JOB_CFG.QCOUNT : Fld := ⟨.sv, 0x0, 0x8, 43, 12⟩
/-! SV_STEP_CFG, R440 (12) -/
def Reg.SV_STEP_CFG.TOKENS : Fld := ⟨.sv, 0x8, 0x8, 0, 15⟩
def Reg.SV_STEP_CFG.CHUNK_MAX : Fld := ⟨.sv, 0x8, 0x8, 15, 15⟩
def Reg.SV_STEP_CFG.PROMPT_MIN : Fld := ⟨.sv, 0x8, 0x8, 30, 15⟩
def Reg.SV_STEP_CFG.D_MAX : Fld := ⟨.sv, 0x8, 0x8, 45, 3⟩
/-! SV_LIMITS, R441 (12) -/
def Reg.SV_LIMITS.ACK_US : Fld := ⟨.sv, 0x10, 0x8, 0, 24⟩
def Reg.SV_LIMITS.LMAX : Fld := ⟨.sv, 0x10, 0x8, 24, 32⟩
/-! SV_COMMITTED, R443 (12) -/
def Reg.SV_COMMITTED.STEP : Fld := ⟨.sv, 0x18, 0x8, 0, 64⟩
/-! SV_MIRRORED, R443 (12) -/
def Reg.SV_MIRRORED.STEP : Fld := ⟨.sv, 0x20, 0x8, 0, 64⟩
/-! SV_RELEASED, R443 (12) -/
def Reg.SV_RELEASED.STEP : Fld := ⟨.sv, 0x28, 0x8, 0, 64⟩
/-! SV_SLOTS, R444 (12) -/
def Reg.SV_SLOTS.FREE : Fld := ⟨.sv, 0x30, 0x8, 0, 15⟩
def Reg.SV_SLOTS.WAITING : Fld := ⟨.sv, 0x30, 0x8, 15, 15⟩
def Reg.SV_SLOTS.ACTIVE : Fld := ⟨.sv, 0x30, 0x8, 30, 15⟩
def Reg.SV_SLOTS.RECLAIM : Fld := ⟨.sv, 0x30, 0x8, 45, 15⟩
/-! SV_PAGE_RANGE, R442 (12) -/
def Reg.SV_PAGE_RANGE.FIRST : Fld := ⟨.sv, 0x38, 0x8, 0, 32⟩
def Reg.SV_PAGE_RANGE.COUNT : Fld := ⟨.sv, 0x38, 0x8, 32, 32⟩
/-! SV_RESTART, R618 (18) -/
def Reg.SV_RESTART.COUNT : Fld := ⟨.sv, 0x40, 0x8, 0, 16⟩
def Reg.SV_RESTART.REPEAT : Fld := ⟨.sv, 0x40, 0x8, 16, 2⟩
def Reg.SV_RESTART.AHEAD : Fld := ⟨.sv, 0x40, 0x8, 18, 1⟩
def Reg.SV_RESTART.SPARE : Fld := ⟨.sv, 0x40, 0x8, 19, 1⟩
/-! SV_RESUME_STEP, R619 (18) -/
def Reg.SV_RESUME_STEP.STEP : Fld := ⟨.sv, 0x48, 0x8, 0, 64⟩
/-! SV_TABLE_PUB0, R251 (07) -/
def Reg.SV_TABLE_PUB0.SWAP_STEP : Fld := ⟨.sv, 0x800, 0x10, 0, 64⟩
/-! SV_TABLE_PUB1, R251 (07) -/
def Reg.SV_TABLE_PUB1.ARM : Fld := ⟨.sv, 0x808, 0x10, 0, 1⟩
def Reg.SV_TABLE_PUB1.CANCEL : Fld := ⟨.sv, 0x808, 0x10, 1, 1⟩
def Reg.SV_TABLE_PUB1.GEN : Fld := ⟨.sv, 0x808, 0x10, 2, 4⟩
def Reg.SV_TABLE_PUB1.STATE : Fld := ⟨.sv, 0x808, 0x10, 6, 2⟩
def Reg.SV_TABLE_PUB1.REFUSED : Fld := ⟨.sv, 0x808, 0x10, 8, 1⟩
/-! ### Fields of the au block -/

/-! AU_TDC, R474 (13) -/
def Reg.AU_TDC.PENDING : Fld := ⟨.au, 0x0, 0x8, 0, 32⟩
/-! AU_TDC_TOTAL, R475 (13) -/
def Reg.AU_TDC_TOTAL.TOTAL : Fld := ⟨.au, 0x8, 0x8, 0, 64⟩
/-! AU_LEDGER_CTL, R476 (13) -/
def Reg.AU_LEDGER_CTL.NSLOTS : Fld := ⟨.au, 0x10, 0x8, 0, 16⟩
def Reg.AU_LEDGER_CTL.KEY_SLOT : Fld := ⟨.au, 0x10, 0x8, 16, 2⟩
/-! AU_LEDGER_EXPORT, R477 (13) -/
def Reg.AU_LEDGER_EXPORT.BLOCK : Fld := ⟨.au, 0x18, 0x8, 0, 48⟩
/-! AU_LEDGER_STATUS, R478 (13) -/
def Reg.AU_LEDGER_STATUS.OPEN_BLOCK : Fld := ⟨.au, 0x20, 0x8, 0, 48⟩
def Reg.AU_LEDGER_STATUS.FULL : Fld := ⟨.au, 0x20, 0x8, 48, 1⟩
def Reg.AU_LEDGER_STATUS.SIGN_FAIL : Fld := ⟨.au, 0x20, 0x8, 49, 1⟩
def Reg.AU_LEDGER_STATUS.SIGN_PENDING : Fld := ⟨.au, 0x20, 0x8, 50, 4⟩
/-! AU_REPLAY, R479 (13) -/
def Reg.AU_REPLAY.ENABLE : Fld := ⟨.au, 0x28, 0x8, 0, 1⟩
def Reg.AU_REPLAY.BREAK : Fld := ⟨.au, 0x28, 0x8, 1, 1⟩
def Reg.AU_REPLAY.BROKEN : Fld := ⟨.au, 0x28, 0x8, 2, 1⟩
def Reg.AU_REPLAY.TILE : Fld := ⟨.au, 0x28, 0x8, 3, 10⟩
def Reg.AU_REPLAY.BEAT : Fld := ⟨.au, 0x28, 0x8, 13, 32⟩
/-! AU_BREAK_STEP, R480 (13) -/
def Reg.AU_BREAK_STEP.STEP : Fld := ⟨.au, 0x30, 0x8, 0, 64⟩
/-! ### Fields of the tb block -/

/-! TB_TIME, R406 (11) -/
def Reg.TB_TIME.TIME : Fld := ⟨.tb, 0x0, 0x8, 0, 64⟩
/-! TB_STEP, R406 (11) -/
def Reg.TB_STEP.STEP : Fld := ⟨.tb, 0x8, 0x8, 0, 64⟩
/-! TB_TREE, R407 (11) -/
def Reg.TB_TREE.PARENT : Fld := ⟨.tb, 0x10, 0x8, 0, 4⟩
def Reg.TB_TREE.CHILDREN : Fld := ⟨.tb, 0x10, 0x8, 4, 9⟩
def Reg.TB_TREE.LEVEL : Fld := ⟨.tb, 0x10, 0x8, 13, 3⟩
/-! TB_STATUS, R408 (11) -/
def Reg.TB_STATUS.LOCKED : Fld := ⟨.tb, 0x18, 0x8, 0, 1⟩
def Reg.TB_STATUS.HOLDOVER : Fld := ⟨.tb, 0x18, 0x8, 1, 1⟩
def Reg.TB_STATUS.OUT_OF_BOUND : Fld := ⟨.tb, 0x18, 0x8, 2, 1⟩
def Reg.TB_STATUS.OFFSET : Fld := ⟨.tb, 0x18, 0x8, 3, 32⟩
def Reg.TB_STATUS.DELAY : Fld := ⟨.tb, 0x18, 0x8, 35, 16⟩
def Reg.TB_STATUS.LATE_GO : Fld := ⟨.tb, 0x18, 0x8, 51, 8⟩
/-! TB_STEP_LEAD, R409 (11) -/
def Reg.TB_STEP_LEAD.LEAD_NS : Fld := ⟨.tb, 0x20, 0x8, 0, 20⟩
/-! TB_STEP_DONE, R409 (11) -/
def Reg.TB_STEP_DONE.STEP : Fld := ⟨.tb, 0x28, 0x8, 0, 64⟩
/-! ### Fields of the mx block -/

/-! MX_REPAIR, R277 (08) -/
def Reg.MX_REPAIR.SITE_0 : Fld := ⟨.mx, 0x0, 0x8, 0, 5⟩
def Reg.MX_REPAIR.SITE_1 : Fld := ⟨.mx, 0x0, 0x8, 5, 5⟩
def Reg.MX_REPAIR.SITE_2 : Fld := ⟨.mx, 0x0, 0x8, 10, 5⟩
def Reg.MX_REPAIR.SITE_3 : Fld := ⟨.mx, 0x0, 0x8, 15, 5⟩
def Reg.MX_REPAIR.SITE_4 : Fld := ⟨.mx, 0x0, 0x8, 20, 5⟩
def Reg.MX_REPAIR.SITE_5 : Fld := ⟨.mx, 0x0, 0x8, 25, 5⟩
def Reg.MX_REPAIR.SITE_6 : Fld := ⟨.mx, 0x0, 0x8, 30, 5⟩
def Reg.MX_REPAIR.SITE_7 : Fld := ⟨.mx, 0x0, 0x8, 35, 5⟩
def Reg.MX_REPAIR.SITE_8 : Fld := ⟨.mx, 0x0, 0x8, 40, 5⟩
def Reg.MX_REPAIR.SITE_9 : Fld := ⟨.mx, 0x0, 0x8, 45, 5⟩
def Reg.MX_REPAIR.SITE_10 : Fld := ⟨.mx, 0x0, 0x8, 50, 5⟩
def Reg.MX_REPAIR.SITE_11 : Fld := ⟨.mx, 0x0, 0x8, 55, 5⟩
/-! MX_BRIDGE_STATUS, R278 (08) -/
def Reg.MX_BRIDGE_STATUS.LINK_OK : Fld := ⟨.mx, 0x10, 0x8, 0, 24⟩
def Reg.MX_BRIDGE_STATUS.UE_VALID : Fld := ⟨.mx, 0x10, 0x8, 24, 1⟩
def Reg.MX_BRIDGE_STATUS.UE_ROW : Fld := ⟨.mx, 0x10, 0x8, 25, 5⟩
def Reg.MX_BRIDGE_STATUS.CORRECTED : Fld := ⟨.mx, 0x10, 0x8, 30, 32⟩
/-! ### Fields of the pw block -/

/-! PW_BUDGET, R558 (16) -/
def Reg.PW_BUDGET.BUDGET_W : Fld := ⟨.pw, 0x0, 0x8, 0, 11⟩
def Reg.PW_BUDGET.HBM_CAP_W : Fld := ⟨.pw, 0x0, 0x8, 11, 9⟩
def Reg.PW_BUDGET.REFUSED : Fld := ⟨.pw, 0x0, 0x8, 20, 1⟩
/-! PW_TARGET, R559 (16) -/
def Reg.PW_TARGET.BEAT_PS : Fld := ⟨.pw, 0x8, 0x8, 0, 10⟩
def Reg.PW_TARGET.VMAX_MV : Fld := ⟨.pw, 0x8, 0x8, 10, 10⟩
/-! PW_STATUS, R560 (16) -/
def Reg.PW_STATUS.GRANTED_W : Fld := ⟨.pw, 0x10, 0x8, 0, 11⟩
def Reg.PW_STATUS.FREE_W : Fld := ⟨.pw, 0x10, 0x8, 11, 11⟩
def Reg.PW_STATUS.REFUSALS : Fld := ⟨.pw, 0x10, 0x8, 22, 32⟩
def Reg.PW_STATUS.LOWERING : Fld := ⟨.pw, 0x10, 0x8, 54, 1⟩
/-! PW_DOMAIN, R561 (16) -/
def Reg.PW_DOMAIN.CEIL_W : Fld := ⟨.pw, 0x100, 0x8, 0, 11⟩
def Reg.PW_DOMAIN.DRAW_W : Fld := ⟨.pw, 0x100, 0x8, 11, 11⟩
def Reg.PW_DOMAIN.VOLT_MV : Fld := ⟨.pw, 0x100, 0x8, 22, 10⟩
def Reg.PW_DOMAIN.FLOOR_W : Fld := ⟨.pw, 0x100, 0x8, 32, 8⟩
def Reg.PW_DOMAIN.ON : Fld := ⟨.pw, 0x100, 0x8, 40, 1⟩
def Reg.PW_DOMAIN.HELD : Fld := ⟨.pw, 0x100, 0x8, 41, 1⟩
def Reg.PW_DOMAIN.REFUSED : Fld := ⟨.pw, 0x100, 0x8, 42, 1⟩
def Reg.PW_DOMAIN.HOT : Fld := ⟨.pw, 0x100, 0x8, 43, 1⟩
/-! PW_TIER_CTL, R562 (16) -/
def Reg.PW_TIER_CTL.DOWN : Fld := ⟨.pw, 0x300, 0x8, 0, 8⟩
def Reg.PW_TIER_CTL.OFF : Fld := ⟨.pw, 0x300, 0x8, 8, 8⟩
def Reg.PW_TIER_CTL.PENDING : Fld := ⟨.pw, 0x300, 0x8, 16, 8⟩
/-! ### Fields of the ww block -/

/-! WW_CTL, R563 (16) -/
def Reg.WW_CTL.DRIFT_THR : Fld := ⟨.ww, 0x0, 0x8, 0, 8⟩
def Reg.WW_CTL.GUARD : Fld := ⟨.ww, 0x0, 0x8, 8, 8⟩
def Reg.WW_CTL.PERIOD_H : Fld := ⟨.ww, 0x0, 0x8, 16, 8⟩
def Reg.WW_CTL.REPLAN : Fld := ⟨.ww, 0x0, 0x8, 24, 1⟩
/-! WW_STATUS, R564 (16) -/
def Reg.WW_STATUS.REPLANS : Fld := ⟨.ww, 0x8, 0x8, 0, 32⟩
def Reg.WW_STATUS.WORN : Fld := ⟨.ww, 0x8, 0x8, 32, 1⟩
def Reg.WW_STATUS.LAST_CAUSE : Fld := ⟨.ww, 0x8, 0x8, 33, 2⟩
/-! WW_BAND, R565 (16) -/
def Reg.WW_BAND.CODE : Fld := ⟨.ww, 0x100, 0x8, 0, 8⟩
def Reg.WW_BAND.CODE_BOL : Fld := ⟨.ww, 0x100, 0x8, 8, 8⟩
def Reg.WW_BAND.CODE_LIMIT : Fld := ⟨.ww, 0x100, 0x8, 16, 8⟩
def Reg.WW_BAND.SLACK : Fld := ⟨.ww, 0x100, 0x8, 24, 8⟩
def Reg.WW_BAND.DRIFT : Fld := ⟨.ww, 0x100, 0x8, 32, 8⟩
def Reg.WW_BAND.BEAT_PS : Fld := ⟨.ww, 0x100, 0x8, 40, 10⟩
/-! ### Fields of the sc block -/

/-! SC_BOOT_STATUS, R592 (17) -/
def Reg.SC_BOOT_STATUS.BANK : Fld := ⟨.sc, 0x0, 0x8, 0, 1⟩
def Reg.SC_BOOT_STATUS.SVN : Fld := ⟨.sc, 0x0, 0x8, 1, 7⟩
def Reg.SC_BOOT_STATUS.SAFE : Fld := ⟨.sc, 0x0, 0x8, 8, 1⟩
def Reg.SC_BOOT_STATUS.RECOVERY : Fld := ⟨.sc, 0x0, 0x8, 9, 1⟩
def Reg.SC_BOOT_STATUS.KAT_OK : Fld := ⟨.sc, 0x0, 0x8, 10, 1⟩
def Reg.SC_BOOT_STATUS.ENTROPY_OK : Fld := ⟨.sc, 0x0, 0x8, 11, 1⟩
def Reg.SC_BOOT_STATUS.DEBUG_UNLOCKED : Fld := ⟨.sc, 0x0, 0x8, 12, 1⟩
/-! SC_OTP_STATE, R593 (17) -/
def Reg.SC_OTP_STATE.ROLLBACK : Fld := ⟨.sc, 0x8, 0x8, 0, 7⟩
def Reg.SC_OTP_STATE.WSVN : Fld := ⟨.sc, 0x8, 0x8, 7, 6⟩
def Reg.SC_OTP_STATE.SLOT_WRITTEN : Fld := ⟨.sc, 0x8, 0x8, 13, 4⟩
def Reg.SC_OTP_STATE.SLOT_REVOKED : Fld := ⟨.sc, 0x8, 0x8, 17, 4⟩
def Reg.SC_OTP_STATE.DEBUG_DISABLED : Fld := ⟨.sc, 0x8, 0x8, 21, 1⟩
def Reg.SC_OTP_STATE.LOG_USED : Fld := ⟨.sc, 0x8, 0x8, 22, 8⟩
/-! SC_EDGE_STATUS, R594 (17) -/
def Reg.SC_EDGE_STATUS.KEY_VALID : Fld := ⟨.sc, 0x10, 0x8, 0, 2⟩
def Reg.SC_EDGE_STATUS.AUTH_FAILS : Fld := ⟨.sc, 0x10, 0x8, 2, 30⟩
def Reg.SC_EDGE_STATUS.REPLAYS : Fld := ⟨.sc, 0x10, 0x8, 32, 30⟩
/-! ### Fields of the fb block -/

/-! FB_PORT_CFG, R358 (10) -/
def Reg.FB_PORT_CFG.ROLE : Fld := ⟨.fb, 0x0, 0x8, 0, 2⟩
/-! FB_PORT_STATUS, R359 (10) -/
def Reg.FB_PORT_STATUS.STATE : Fld := ⟨.fb, 0x40, 0x8, 0, 3⟩
def Reg.FB_PORT_STATUS.LANES_OK : Fld := ⟨.fb, 0x40, 0x8, 3, 4⟩
def Reg.FB_PORT_STATUS.RTT_NS : Fld := ⟨.fb, 0x40, 0x8, 7, 12⟩
def Reg.FB_PORT_STATUS.DOWN_EVENT : Fld := ⟨.fb, 0x40, 0x8, 19, 1⟩
/-! FB_PORT_ERR, R360 (10) -/
def Reg.FB_PORT_ERR.CORRECTED : Fld := ⟨.fb, 0x80, 0x8, 0, 32⟩
def Reg.FB_PORT_ERR.RETRIES : Fld := ⟨.fb, 0x80, 0x8, 32, 16⟩
def Reg.FB_PORT_ERR.POISONED : Fld := ⟨.fb, 0x80, 0x8, 48, 16⟩
/-! FB_CHAN_CFG, R361 (10) -/
def Reg.FB_CHAN_CFG.ORDER : Fld := ⟨.fb, 0x100, 0x8, 0, 16⟩
def Reg.FB_CHAN_CFG.CLASS : Fld := ⟨.fb, 0x100, 0x8, 16, 16⟩
/-! FB_JOB, R362 (10) -/
def Reg.FB_JOB.EPOCH : Fld := ⟨.fb, 0x108, 0x8, 0, 8⟩
def Reg.FB_JOB.LOADED : Fld := ⟨.fb, 0x108, 0x8, 8, 1⟩
/-! FB_HOLD_LIMIT, R363 (10) -/
def Reg.FB_HOLD_LIMIT.LIMIT_US : Fld := ⟨.fb, 0x110, 0x8, 0, 24⟩
/-! FB_DROP_COUNT, R364 (10) -/
def Reg.FB_DROP_COUNT.DISCARDED : Fld := ⟨.fb, 0x118, 0x8, 0, 32⟩
def Reg.FB_DROP_COUNT.LATE : Fld := ⟨.fb, 0x118, 0x8, 32, 32⟩
/-! FB_ORDER_STATUS, R365 (10) -/
def Reg.FB_ORDER_STATUS.OPEN_MSGS : Fld := ⟨.fb, 0x120, 0x8, 0, 13⟩
def Reg.FB_ORDER_STATUS.REORDER_FLITS : Fld := ⟨.fb, 0x120, 0x8, 13, 15⟩
def Reg.FB_ORDER_STATUS.HELD_FLAGS : Fld := ⟨.fb, 0x120, 0x8, 28, 12⟩
/-! FB_CHIP_ID, R397 (11) -/
def Reg.FB_CHIP_ID.CHIP : Fld := ⟨.fb, 0x128, 0x8, 0, 16⟩
def Reg.FB_CHIP_ID.GROUP : Fld := ⟨.fb, 0x128, 0x8, 16, 7⟩
/-! FB_PLAN_ID, R398 (11) -/
def Reg.FB_PLAN_ID.PLAN : Fld := ⟨.fb, 0x130, 0x8, 0, 64⟩
/-! FB_PORT_VERDICT, R399 (11) -/
def Reg.FB_PORT_VERDICT.VERDICT : Fld := ⟨.fb, 0x138, 0x8, 0, 16⟩
/-! FB_ROUTE_CTL, R400 (11) -/
def Reg.FB_ROUTE_CTL.ACTIVE : Fld := ⟨.fb, 0x140, 0x8, 0, 1⟩
def Reg.FB_ROUTE_CTL.ARM : Fld := ⟨.fb, 0x140, 0x8, 1, 1⟩
def Reg.FB_ROUTE_CTL.ARMED : Fld := ⟨.fb, 0x140, 0x8, 2, 1⟩
def Reg.FB_ROUTE_CTL.VAL_COUNT : Fld := ⟨.fb, 0x140, 0x8, 3, 9⟩
/-! FB_OCC_CTL, R401 (11) -/
def Reg.FB_OCC_CTL.SAMPLE_NS : Fld := ⟨.fb, 0x148, 0x8, 0, 10⟩
def Reg.FB_OCC_CTL.CLEAR : Fld := ⟨.fb, 0x148, 0x8, 10, 1⟩
/-! FB_MCAST, R366 (10) -/
def Reg.FB_MCAST.CHIP_A : Fld := ⟨.fb, 0x200, 0x8, 0, 16⟩
def Reg.FB_MCAST.CHIP_B : Fld := ⟨.fb, 0x200, 0x8, 16, 16⟩
def Reg.FB_MCAST.CHIP_C : Fld := ⟨.fb, 0x200, 0x8, 32, 16⟩
def Reg.FB_MCAST.COUNT : Fld := ⟨.fb, 0x200, 0x8, 48, 2⟩
def Reg.FB_MCAST.VALID : Fld := ⟨.fb, 0x200, 0x8, 50, 1⟩
/-! FB_NBR0, R402 (11) -/
def Reg.FB_NBR0.SERIAL : Fld := ⟨.fb, 0x300, 0x10, 0, 64⟩
/-! FB_NBR1, R402 (11) -/
def Reg.FB_NBR1.CHIP : Fld := ⟨.fb, 0x308, 0x10, 0, 16⟩
def Reg.FB_NBR1.WING : Fld := ⟨.fb, 0x308, 0x10, 16, 1⟩
def Reg.FB_NBR1.PORT : Fld := ⟨.fb, 0x308, 0x10, 17, 3⟩
def Reg.FB_NBR1.GRADE : Fld := ⟨.fb, 0x308, 0x10, 20, 8⟩
def Reg.FB_NBR1.STEPPING : Fld := ⟨.fb, 0x308, 0x10, 28, 8⟩
def Reg.FB_NBR1.ROLE : Fld := ⟨.fb, 0x308, 0x10, 36, 2⟩
def Reg.FB_NBR1.VALID : Fld := ⟨.fb, 0x308, 0x10, 38, 1⟩
def Reg.FB_NBR1.CHANGED : Fld := ⟨.fb, 0x308, 0x10, 39, 1⟩
def Reg.FB_NBR1.PLAN_MATCH : Fld := ⟨.fb, 0x308, 0x10, 40, 1⟩
/-! FB_BAR0, R367 (10) -/
def Reg.FB_BAR0.LOCAL_TILE : Fld := ⟨.fb, 0x400, 0x40, 0, 10⟩
def Reg.FB_BAR0.BID : Fld := ⟨.fb, 0x400, 0x40, 10, 4⟩
def Reg.FB_BAR0.NCHILD : Fld := ⟨.fb, 0x400, 0x40, 14, 3⟩
def Reg.FB_BAR0.HAS_PARENT : Fld := ⟨.fb, 0x400, 0x40, 17, 1⟩
def Reg.FB_BAR0.VALID : Fld := ⟨.fb, 0x400, 0x40, 18, 1⟩
/-! FB_BAR1, R367 (10) -/
def Reg.FB_BAR1.PARENT_CHIP : Fld := ⟨.fb, 0x408, 0x40, 0, 16⟩
def Reg.FB_BAR1.PARENT_TILE : Fld := ⟨.fb, 0x408, 0x40, 16, 10⟩
def Reg.FB_BAR1.ARRIVED : Fld := ⟨.fb, 0x408, 0x40, 26, 3⟩
def Reg.FB_BAR1.WAITREL : Fld := ⟨.fb, 0x408, 0x40, 29, 1⟩
def Reg.FB_BAR1.PENDING : Fld := ⟨.fb, 0x408, 0x40, 30, 3⟩
def Reg.FB_BAR1.GEN : Fld := ⟨.fb, 0x408, 0x40, 33, 16⟩
/-! FB_BAR2, R367 (10) -/
def Reg.FB_BAR2.CHILD_CHIP : Fld := ⟨.fb, 0x410, 0x40, 0, 16⟩
def Reg.FB_BAR2.CHILD_TILE : Fld := ⟨.fb, 0x410, 0x40, 16, 10⟩
/-! FB_BAR3, R367 (10) -/
def Reg.FB_BAR3.CHILD_CHIP : Fld := ⟨.fb, 0x418, 0x40, 0, 16⟩
def Reg.FB_BAR3.CHILD_TILE : Fld := ⟨.fb, 0x418, 0x40, 16, 10⟩
/-! FB_BAR4, R367 (10) -/
def Reg.FB_BAR4.CHILD_CHIP : Fld := ⟨.fb, 0x420, 0x40, 0, 16⟩
def Reg.FB_BAR4.CHILD_TILE : Fld := ⟨.fb, 0x420, 0x40, 16, 10⟩
/-! FB_BAR5, R367 (10) -/
def Reg.FB_BAR5.CHILD_CHIP : Fld := ⟨.fb, 0x428, 0x40, 0, 16⟩
def Reg.FB_BAR5.CHILD_TILE : Fld := ⟨.fb, 0x428, 0x40, 16, 10⟩
/-! FB_BAR6, R367 (10) -/
def Reg.FB_BAR6.CHILD_CHIP : Fld := ⟨.fb, 0x430, 0x40, 0, 16⟩
def Reg.FB_BAR6.CHILD_TILE : Fld := ⟨.fb, 0x430, 0x40, 16, 10⟩
/-! FB_BAR7, R367 (10) -/
def Reg.FB_BAR7.CHILD_CHIP : Fld := ⟨.fb, 0x438, 0x40, 0, 16⟩
def Reg.FB_BAR7.CHILD_TILE : Fld := ⟨.fb, 0x438, 0x40, 16, 10⟩
/-! FB_VAL, R403 (11) -/
def Reg.FB_VAL.CHIP0 : Fld := ⟨.fb, 0x800, 0x8, 0, 16⟩
def Reg.FB_VAL.CHIP1 : Fld := ⟨.fb, 0x800, 0x8, 16, 16⟩
def Reg.FB_VAL.CHIP2 : Fld := ⟨.fb, 0x800, 0x8, 32, 16⟩
def Reg.FB_VAL.CHIP3 : Fld := ⟨.fb, 0x800, 0x8, 48, 16⟩
/-! FB_OCC_HIST, R404 (11) -/
def Reg.FB_OCC_HIST.BIN_EVEN : Fld := ⟨.fb, 0xA00, 0x8, 0, 32⟩
def Reg.FB_OCC_HIST.BIN_ODD : Fld := ⟨.fb, 0xA00, 0x8, 32, 32⟩
/-! FB_ROUTE_BANK0, R405 (11) -/
def Reg.FB_ROUTE_BANK0.PORTS : Fld := ⟨.fb, 0x10000, 0x8, 0, 9⟩
def Reg.FB_ROUTE_BANK0.LIVE : Fld := ⟨.fb, 0x10000, 0x8, 9, 1⟩
def Reg.FB_ROUTE_BANK0.GROUP : Fld := ⟨.fb, 0x10000, 0x8, 10, 7⟩
def Reg.FB_ROUTE_BANK0.DIST : Fld := ⟨.fb, 0x10000, 0x8, 17, 2⟩
/-! FB_ROUTE_BANK1, R405 (11) -/
def Reg.FB_ROUTE_BANK1.PORTS : Fld := ⟨.fb, 0x20000, 0x8, 0, 9⟩
def Reg.FB_ROUTE_BANK1.LIVE : Fld := ⟨.fb, 0x20000, 0x8, 9, 1⟩
def Reg.FB_ROUTE_BANK1.GROUP : Fld := ⟨.fb, 0x20000, 0x8, 10, 7⟩
def Reg.FB_ROUTE_BANK1.DIST : Fld := ⟨.fb, 0x20000, 0x8, 17, 2⟩
/-! ### Fields of the cm block -/

/-! CM_REGION, R308 (09) -/
def Reg.CM_REGION.BASE : Fld := ⟨.cm, 0x0, 0x8, 0, 18⟩
def Reg.CM_REGION.SIZE : Fld := ⟨.cm, 0x0, 0x8, 18, 18⟩
def Reg.CM_REGION.KIND : Fld := ⟨.cm, 0x0, 0x8, 36, 4⟩
def Reg.CM_REGION.VALID : Fld := ⟨.cm, 0x0, 0x8, 40, 1⟩
/-! CM_STATUS, R309 (09) -/
def Reg.CM_STATUS.TRAINED : Fld := ⟨.cm, 0x80, 0x8, 0, 10⟩
def Reg.CM_STATUS.FAILED : Fld := ⟨.cm, 0x80, 0x8, 10, 10⟩
def Reg.CM_STATUS.HOT : Fld := ⟨.cm, 0x80, 0x8, 20, 10⟩
def Reg.CM_STATUS.JOB : Fld := ⟨.cm, 0x80, 0x8, 30, 1⟩
/-! CM_ECC_STATUS, R310 (09) -/
def Reg.CM_ECC_STATUS.CORRECTED : Fld := ⟨.cm, 0x88, 0x8, 0, 32⟩
def Reg.CM_ECC_STATUS.ONDIE : Fld := ⟨.cm, 0x88, 0x8, 32, 24⟩
def Reg.CM_ECC_STATUS.POISONED : Fld := ⟨.cm, 0x88, 0x8, 56, 8⟩
/-! CM_ECC_UE, R311 (09) -/
def Reg.CM_ECC_UE.VALID : Fld := ⟨.cm, 0x90, 0x8, 0, 1⟩
def Reg.CM_ECC_UE.GRANULE : Fld := ⟨.cm, 0x90, 0x8, 1, 28⟩
def Reg.CM_ECC_UE.BLOCK : Fld := ⟨.cm, 0x90, 0x8, 29, 6⟩
def Reg.CM_ECC_UE.SOURCE : Fld := ⟨.cm, 0x90, 0x8, 35, 2⟩
/-! CM_SCRUB_CTL, R312 (09) -/
def Reg.CM_SCRUB_CTL.PERIOD_H : Fld := ⟨.cm, 0x98, 0x8, 0, 8⟩
/-! CM_TIMING_COUNT, R313 (09) -/
def Reg.CM_TIMING_COUNT.REFRESH_WAITS : Fld := ⟨.cm, 0xA0, 0x8, 0, 40⟩
def Reg.CM_TIMING_COUNT.RETRIES : Fld := ⟨.cm, 0xA0, 0x8, 40, 24⟩
/-! CM_VIOL, R314 (09) -/
def Reg.CM_VIOL.VALID : Fld := ⟨.cm, 0xA8, 0x8, 0, 1⟩
def Reg.CM_VIOL.SRC_KIND : Fld := ⟨.cm, 0xA8, 0x8, 1, 2⟩
def Reg.CM_VIOL.SRC_CHIP : Fld := ⟨.cm, 0xA8, 0x8, 3, 16⟩
def Reg.CM_VIOL.SRC_TILE : Fld := ⟨.cm, 0xA8, 0x8, 19, 10⟩
def Reg.CM_VIOL.REASON : Fld := ⟨.cm, 0xA8, 0x8, 29, 2⟩
def Reg.CM_VIOL.COUNT : Fld := ⟨.cm, 0xA8, 0x8, 31, 14⟩
/-! CM_CANCEL_SET, R315 (09) -/
def Reg.CM_CANCEL_SET.SLOT : Fld := ⟨.cm, 0xB0, 0x8, 0, 14⟩
/-! CM_CANCEL_CLR, R315 (09) -/
def Reg.CM_CANCEL_CLR.SLOT : Fld := ⟨.cm, 0xB8, 0x8, 0, 14⟩
/-! CM_SPAN_STEP, R316 (09) -/
def Reg.CM_SPAN_STEP.STEP : Fld := ⟨.cm, 0xC0, 0x8, 0, 64⟩
/-! CM_SPAN_CTL, R316 (09) -/
def Reg.CM_SPAN_CTL.ARM : Fld := ⟨.cm, 0xC8, 0x8, 0, 1⟩
def Reg.CM_SPAN_CTL.ARMED : Fld := ⟨.cm, 0xC8, 0x8, 1, 1⟩
def Reg.CM_SPAN_CTL.ACTIVE : Fld := ⟨.cm, 0xC8, 0x8, 2, 1⟩
def Reg.CM_SPAN_CTL.REFUSED : Fld := ⟨.cm, 0xC8, 0x8, 3, 1⟩
def Reg.CM_SPAN_CTL.COUNT0 : Fld := ⟨.cm, 0xC8, 0x8, 4, 16⟩
def Reg.CM_SPAN_CTL.COUNT1 : Fld := ⟨.cm, 0xC8, 0x8, 20, 16⟩
/-! CM_FILTER_COUNT, R318 (09) -/
def Reg.CM_FILTER_COUNT.FILTERED : Fld := ⟨.cm, 0xD0, 0x8, 0, 32⟩
/-! CM_MIRROR_CTL, R318 (09) -/
def Reg.CM_MIRROR_CTL.PARTNER_CHIP : Fld := ⟨.cm, 0xD8, 0x8, 0, 16⟩
/-! CM_CANCEL_MAP, R315 (09) -/
def Reg.CM_CANCEL_MAP.MAP : Fld := ⟨.cm, 0x400, 0x8, 0, 64⟩
/-! CM_SPAN_BANK, R317 (09) -/
def Reg.CM_SPAN_BANK.FIRST : Fld := ⟨.cm, 0x100000, 0x8, 0, 28⟩
def Reg.CM_SPAN_BANK.COUNT_M1 : Fld := ⟨.cm, 0x100000, 0x8, 28, 20⟩
def Reg.CM_SPAN_BANK.SLOT : Fld := ⟨.cm, 0x100000, 0x8, 48, 14⟩
/-! ### Fields of the mb block -/

/-! SC_MB_DOORBELL, R595 (17) -/
def Reg.SC_MB_DOORBELL.LENGTH : Fld := ⟨.mb, 0x20000, 0x8, 0, 17⟩
/-! SC_MB_STATUS, R595 (17) -/
def Reg.SC_MB_STATUS.BUSY : Fld := ⟨.mb, 0x20008, 0x8, 0, 1⟩
def Reg.SC_MB_STATUS.DONE : Fld := ⟨.mb, 0x20008, 0x8, 1, 1⟩
def Reg.SC_MB_STATUS.STATUS : Fld := ⟨.mb, 0x20008, 0x8, 2, 8⟩
def Reg.SC_MB_STATUS.RESP_LEN : Fld := ⟨.mb, 0x20008, 0x8, 10, 17⟩
def Reg.SC_MB_STATUS.OVERRUN : Fld := ⟨.mb, 0x20008, 0x8, 27, 1⟩

/-! ### The map, block by block -/

/-- The registers of the tile block. -/
def tileRegs : List RegRow :=
  [
    ⟨"TC_PC", 0x0, 0x8, 1,
      [⟨Reg.TC_PC.PC, .ro, .num, 0, false⟩]⟩,
    ⟨"TC_RUN", 0x8, 0x8, 1,
      [⟨Reg.TC_RUN.RUN, .rw, .num, 0, false⟩, ⟨Reg.TC_RUN.ENTRY, .rw, .num, 0, false⟩]⟩,
    ⟨"TC_BEAT_COUNT", 0x10, 0x8, 1,
      [⟨Reg.TC_BEAT_COUNT.BEATS, .ro, .num, 0, false⟩]⟩,
    ⟨"TC_WAIT_LIMIT", 0x18, 0x8, 1,
      [⟨Reg.TC_WAIT_LIMIT.LIMIT_US, .rw, .cfg, 2000, true⟩]⟩,
    ⟨"TC_WAIT_STATE", 0x20, 0x8, 1,
      [⟨Reg.TC_WAIT_STATE.WAITING, .ro, .num, 0, false⟩, ⟨Reg.TC_WAIT_STATE.CAUSE, .ro, .num, 0, false⟩, ⟨Reg.TC_WAIT_STATE.PC, .ro, .num, 0, false⟩]⟩,
    ⟨"TC_FAULT", 0x28, 0x8, 1,
      [⟨Reg.TC_FAULT.VALID, .w1c, .num, 0, true⟩, ⟨Reg.TC_FAULT.STATUS, .ro, .num, 0, true⟩, ⟨Reg.TC_FAULT.CAUSE, .ro, .num, 0, true⟩, ⟨Reg.TC_FAULT.PC, .ro, .num, 0, true⟩]⟩,
    ⟨"TC_STEP_LOCAL", 0x30, 0x8, 1,
      [⟨Reg.TC_STEP_LOCAL.STEP, .rw, .num, 0, false⟩]⟩,
    ⟨"TC_WIN_CTL", 0x38, 0x8, 1,
      [⟨Reg.TC_WIN_CTL.WIN, .wo, .num, 0, false⟩, ⟨Reg.TC_WIN_CTL.OP, .wo, .num, 0, false⟩, ⟨Reg.TC_WIN_CTL.NOTIFY, .wo, .num, 0, false⟩, ⟨Reg.TC_WIN_CTL.FID, .wo, .num, 0, false⟩]⟩,
    ⟨"TC_WIN_STATE", 0x40, 0x8, 1,
      [⟨Reg.TC_WIN_STATE.STATE, .ro, .num, 0, false⟩]⟩,
    ⟨"TC_TAG_EMPTY", 0x48, 0x8, 1,
      [⟨Reg.TC_TAG_EMPTY.HANDLE, .wo, .num, 0, false⟩, ⟨Reg.TC_TAG_EMPTY.FIRST, .wo, .num, 0, false⟩, ⟨Reg.TC_TAG_EMPTY.COUNT_M1, .wo, .num, 0, false⟩]⟩,
    ⟨"TC_GATHER_SEAL", 0x50, 0x8, 1,
      [⟨Reg.TC_GATHER_SEAL.HANDLE, .wo, .num, 0, false⟩, ⟨Reg.TC_GATHER_SEAL.ROW, .wo, .num, 0, false⟩]⟩,
    ⟨"TC_TABLE_SEL", 0x58, 0x8, 1,
      [⟨Reg.TC_TABLE_SEL.ACTIVE, .rw, .num, 0, false⟩, ⟨Reg.TC_TABLE_SEL.SEEN_GEN, .rw, .num, 0, false⟩]⟩,
    ⟨"TC_NUM_FLAGS", 0x100, 0x8, 1,
      [⟨Reg.TC_NUM_FLAGS.NV, .w1c, .num, 0, false⟩, ⟨Reg.TC_NUM_FLAGS.DZ, .w1c, .num, 0, false⟩, ⟨Reg.TC_NUM_FLAGS.OF, .w1c, .num, 0, false⟩, ⟨Reg.TC_NUM_FLAGS.UF, .w1c, .num, 0, false⟩, ⟨Reg.TC_NUM_FLAGS.SAT, .w1c, .num, 0, false⟩, ⟨Reg.TC_NUM_FLAGS.ESC_ACT, .w1c, .num, 0, false⟩, ⟨Reg.TC_NUM_FLAGS.ESC_UNMATCHED, .w1c, .num, 0, false⟩, ⟨Reg.TC_NUM_FLAGS.ESC_ORDER, .w1c, .num, 0, false⟩]⟩,
    ⟨"TC_SAT_COUNT", 0x108, 0x8, 1,
      [⟨Reg.TC_SAT_COUNT.COUNT, .ro, .num, 0, false⟩, ⟨Reg.TC_SAT_COUNT.OVER, .ro, .num, 0, false⟩]⟩,
    ⟨"TC_SAT_CTL", 0x110, 0x8, 1,
      [⟨Reg.TC_SAT_CTL.LIMIT, .rw, .num, 4294967295, false⟩, ⟨Reg.TC_SAT_CTL.CLEAR, .wo, .num, 0, false⟩]⟩,
    ⟨"TC_WIDE_RUNS", 0x118, 0x8, 1,
      [⟨Reg.TC_WIDE_RUNS.RUNS, .ro, .num, 0, false⟩]⟩,
    ⟨"TC_GEN0", 0x200, 0x20, 8,
      [⟨Reg.TC_GEN0.BASE, .rw, .num, 0, false⟩]⟩,
    ⟨"TC_GEN1", 0x208, 0x20, 8,
      [⟨Reg.TC_GEN1.N0, .rw, .num, 0, false⟩, ⟨Reg.TC_GEN1.N1, .rw, .num, 0, false⟩, ⟨Reg.TC_GEN1.N2, .rw, .num, 0, false⟩, ⟨Reg.TC_GEN1.N3, .rw, .num, 0, false⟩]⟩,
    ⟨"TC_GEN2", 0x210, 0x20, 8,
      [⟨Reg.TC_GEN2.S0, .rw, .num, 0, false⟩, ⟨Reg.TC_GEN2.S1, .rw, .num, 0, false⟩]⟩,
    ⟨"TC_GEN3", 0x218, 0x20, 8,
      [⟨Reg.TC_GEN3.S2, .rw, .num, 0, false⟩, ⟨Reg.TC_GEN3.S3, .rw, .num, 0, false⟩]⟩,
    ⟨"AY_REGION", 0x400, 0x8, 16,
      [⟨Reg.AY_REGION.BASE, .rw, .num, 0, false⟩, ⟨Reg.AY_REGION.ROWS_M1, .rw, .num, 0, false⟩, ⟨Reg.AY_REGION.SIDE, .rw, .num, 0, false⟩, ⟨Reg.AY_REGION.VALID, .rw, .num, 0, false⟩]⟩,
    ⟨"AY_STATUS", 0x480, 0x8, 1,
      [⟨Reg.AY_STATUS.FEEDER, .ro, .num, 0, false⟩, ⟨Reg.AY_STATUS.SHADOW, .ro, .num, 0, false⟩, ⟨Reg.AY_STATUS.ACTIVE_FMT, .ro, .num, 0, false⟩, ⟨Reg.AY_STATUS.ACTIVE_SPARSE, .ro, .num, 0, false⟩, ⟨Reg.AY_STATUS.ACTIVE_SIDE, .ro, .num, 0, false⟩]⟩,
    ⟨"AY_SKIP_COUNT", 0x488, 0x8, 1,
      [⟨Reg.AY_SKIP_COUNT.SKIPPED, .ro, .num, 0, false⟩]⟩,
    ⟨"AY_FED_COUNT", 0x490, 0x8, 1,
      [⟨Reg.AY_FED_COUNT.FED, .ro, .num, 0, false⟩]⟩,
    ⟨"SP_HANDLE", 0x800, 0x8, 256,
      [⟨Reg.SP_HANDLE.BASE, .rw, .num, 0, false⟩, ⟨Reg.SP_HANDLE.ROWS_M1, .rw, .num, 0, false⟩, ⟨Reg.SP_HANDLE.MODE, .rw, .num, 0, false⟩, ⟨Reg.SP_HANDLE.READS_M1, .rw, .num, 0, false⟩, ⟨Reg.SP_HANDLE.STEPCLR, .rw, .num, 0, false⟩, ⟨Reg.SP_HANDLE.OWNER, .rw, .num, 0, false⟩, ⟨Reg.SP_HANDLE.VALID, .rw, .num, 0, false⟩]⟩,
    ⟨"SP_WIN0", 0x1000, 0x10, 16,
      [⟨Reg.SP_WIN0.HANDLE, .rw, .num, 0, false⟩, ⟨Reg.SP_WIN0.FIRST, .rw, .num, 0, false⟩, ⟨Reg.SP_WIN0.COUNT_M1, .rw, .num, 0, false⟩, ⟨Reg.SP_WIN0.ONESHOT, .rw, .num, 0, false⟩, ⟨Reg.SP_WIN0.ADMIT_NET, .rw, .num, 0, false⟩, ⟨Reg.SP_WIN0.ADMIT_HAWK, .rw, .num, 0, false⟩, ⟨Reg.SP_WIN0.ADMIT_HOST, .rw, .num, 0, false⟩]⟩,
    ⟨"SP_WIN1", 0x1008, 0x10, 16,
      [⟨Reg.SP_WIN1.CHIP_LO, .rw, .num, 0, false⟩, ⟨Reg.SP_WIN1.CHIP_HI, .rw, .num, 0, false⟩, ⟨Reg.SP_WIN1.ADMITTED, .ro, .num, 0, false⟩, ⟨Reg.SP_WIN1.LANDED, .ro, .num, 0, false⟩]⟩,
    ⟨"SP_MERGE_CTL", 0x1100, 0x8, 1,
      [⟨Reg.SP_MERGE_CTL.HOLD, .rw, .cfg, 4, true⟩, ⟨Reg.SP_MERGE_CTL.ENABLE, .rw, .cfg, 1, true⟩]⟩,
    ⟨"SP_VIOL_COUNT", 0x1108, 0x8, 1,
      [⟨Reg.SP_VIOL_COUNT.COUNT, .ro, .num, 0, true⟩, ⟨Reg.SP_VIOL_COUNT.CLEAR, .wo, .num, 0, false⟩]⟩,
    ⟨"SP_VIOL_FIRST", 0x1110, 0x8, 1,
      [⟨Reg.SP_VIOL_FIRST.VALID, .w1c, .num, 0, true⟩, ⟨Reg.SP_VIOL_FIRST.REASON, .ro, .num, 0, true⟩, ⟨Reg.SP_VIOL_FIRST.SRC_CHIP, .ro, .num, 0, true⟩, ⟨Reg.SP_VIOL_FIRST.SRC_TILE, .ro, .num, 0, true⟩, ⟨Reg.SP_VIOL_FIRST.SRC_KIND, .ro, .num, 0, true⟩, ⟨Reg.SP_VIOL_FIRST.ROW, .ro, .num, 0, true⟩]⟩,
    ⟨"SP_ECC_STATUS", 0x1118, 0x8, 1,
      [⟨Reg.SP_ECC_STATUS.CORRECTED, .ro, .num, 0, true⟩, ⟨Reg.SP_ECC_STATUS.UE_VALID, .w1c, .num, 0, true⟩, ⟨Reg.SP_ECC_STATUS.UE_ROW, .ro, .num, 0, true⟩, ⟨Reg.SP_ECC_STATUS.UE_CODEWORD, .ro, .num, 0, true⟩, ⟨Reg.SP_ECC_STATUS.UE_SCRUB, .ro, .num, 0, true⟩, ⟨Reg.SP_ECC_STATUS.UE_PARITY, .ro, .num, 0, true⟩]⟩,
    ⟨"SP_SCRUB_CTL", 0x1120, 0x8, 1,
      [⟨Reg.SP_SCRUB_CTL.PERIOD_MS, .rw, .cfg, 256, true⟩]⟩,
    ⟨"MX_BAR_CFG", 0x1800, 0x8, 16,
      [⟨Reg.MX_BAR_CFG.PARENT, .rw, .num, 0, false⟩, ⟨Reg.MX_BAR_CFG.CHILD, .rw, .num, 0, false⟩, ⟨Reg.MX_BAR_CFG.LOCAL, .rw, .num, 0, false⟩, ⟨Reg.MX_BAR_CFG.VALID, .rw, .num, 0, false⟩]⟩,
    ⟨"MX_BAR_STATE", 0x1880, 0x8, 16,
      [⟨Reg.MX_BAR_STATE.ARRIVED, .ro, .num, 0, false⟩, ⟨Reg.MX_BAR_STATE.WAITREL, .ro, .num, 0, false⟩, ⟨Reg.MX_BAR_STATE.PENDING, .ro, .num, 0, false⟩, ⟨Reg.MX_BAR_STATE.GEN, .ro, .num, 0, false⟩]⟩,
    ⟨"MX_FLAG", 0x1900, 0x8, 64,
      [⟨Reg.MX_FLAG.VALUE, .rw, .num, 0, false⟩]⟩,
    ⟨"MX_MCAST", 0x1B00, 0x8, 16,
      [⟨Reg.MX_MCAST.AXIS, .rw, .num, 0, false⟩, ⟨Reg.MX_MCAST.INDEX, .rw, .num, 0, false⟩, ⟨Reg.MX_MCAST.LO, .rw, .num, 0, false⟩, ⟨Reg.MX_MCAST.HI, .rw, .num, 0, false⟩, ⟨Reg.MX_MCAST.VALID, .rw, .num, 0, false⟩]⟩,
    ⟨"MX_ROUTER_STATUS", 0x1B80, 0x8, 1,
      [⟨Reg.MX_ROUTER_STATUS.CORRECTED, .ro, .num, 0, true⟩, ⟨Reg.MX_ROUTER_STATUS.BAD_ARRIVALS, .ro, .num, 0, true⟩, ⟨Reg.MX_ROUTER_STATUS.UE_VALID, .w1c, .num, 0, true⟩, ⟨Reg.MX_ROUTER_STATUS.UE_DIR, .ro, .num, 0, true⟩, ⟨Reg.MX_ROUTER_STATUS.UE_KIND, .ro, .num, 0, true⟩]⟩,
    ⟨"CM_Q_STATE", 0x1C00, 0x8, 1,
      [⟨Reg.CM_Q_STATE.LD_INUSE, .ro, .num, 0, false⟩, ⟨Reg.CM_Q_STATE.ST_INUSE, .ro, .num, 0, false⟩]⟩]

/-- The registers of the cf block. -/
def cfRegs : List RegRow :=
  [
    ⟨"CF_WING_ID", 0x0, 0x8, 1,
      [⟨Reg.CF_WING_ID.WING, .ro, .fuse, 0, true⟩, ⟨Reg.CF_WING_ID.GRADE, .ro, .fuse, 0, true⟩, ⟨Reg.CF_WING_ID.STEPPING, .ro, .fuse, 0, true⟩, ⟨Reg.CF_WING_ID.LOGICAL_TILES, .ro, .fuse, 0, true⟩, ⟨Reg.CF_WING_ID.HBM_STACKS, .ro, .fuse, 0, true⟩, ⟨Reg.CF_WING_ID.FABRIC_PORTS, .ro, .fuse, 0, true⟩, ⟨Reg.CF_WING_ID.COCOON_PRESENT, .ro, .fuse, 0, true⟩, ⟨Reg.CF_WING_ID.PCIE_PRESENT, .ro, .fuse, 0, true⟩]⟩,
    ⟨"CF_PROFILE", 0x40, 0x8, 1,
      [⟨Reg.CF_PROFILE.PROFILE, .rw, .num, 0, true⟩, ⟨Reg.CF_PROFILE.PADDED, .ro, .num, 0, true⟩]⟩,
    ⟨"CF_UNIT_LAT", 0x48, 0x8, 1,
      [⟨Reg.CF_UNIT_LAT.LAT_0, .ro, .fuse, 1, true⟩, ⟨Reg.CF_UNIT_LAT.LAT_1, .ro, .fuse, 2, true⟩, ⟨Reg.CF_UNIT_LAT.LAT_2, .ro, .fuse, 2, true⟩, ⟨Reg.CF_UNIT_LAT.LAT_3, .ro, .fuse, 3, true⟩, ⟨Reg.CF_UNIT_LAT.LAT_4, .ro, .fuse, 4, true⟩, ⟨Reg.CF_UNIT_LAT.LAT_5, .ro, .fuse, 5, true⟩, ⟨Reg.CF_UNIT_LAT.LAT_6, .ro, .fuse, 6, true⟩, ⟨Reg.CF_UNIT_LAT.LAT_7, .ro, .fuse, 10, true⟩, ⟨Reg.CF_UNIT_LAT.LAT_8, .ro, .fuse, 4, true⟩, ⟨Reg.CF_UNIT_LAT.LAT_9, .ro, .fuse, 2, true⟩]⟩,
    ⟨"CF_LOAD_STATUS", 0x50, 0x8, 1,
      [⟨Reg.CF_LOAD_STATUS.VALID, .w1c, .num, 0, true⟩, ⟨Reg.CF_LOAD_STATUS.STATUS, .ro, .num, 0, true⟩, ⟨Reg.CF_LOAD_STATUS.CHECK, .ro, .num, 0, true⟩, ⟨Reg.CF_LOAD_STATUS.LCHIP, .ro, .num, 0, true⟩, ⟨Reg.CF_LOAD_STATUS.TILE, .ro, .num, 0, true⟩, ⟨Reg.CF_LOAD_STATUS.CLASS, .ro, .num, 0, true⟩]⟩,
    ⟨"CF_INSTAR_STATUS", 0x58, 0x8, 1,
      [⟨Reg.CF_INSTAR_STATUS.IN_FORCE, .ro, .num, 0, false⟩, ⟨Reg.CF_INSTAR_STATUS.SEQ, .ro, .num, 0, false⟩, ⟨Reg.CF_INSTAR_STATUS.VALID_A, .ro, .num, 0, false⟩, ⟨Reg.CF_INSTAR_STATUS.VALID_B, .ro, .num, 0, false⟩, ⟨Reg.CF_INSTAR_STATUS.TARGET, .ro, .num, 0, false⟩, ⟨Reg.CF_INSTAR_STATUS.SAFE, .ro, .num, 0, false⟩]⟩,
    ⟨"CF_JOB_STOP", 0x60, 0x8, 1,
      [⟨Reg.CF_JOB_STOP.STOP, .wo, .num, 0, false⟩, ⟨Reg.CF_JOB_STOP.STATUS, .wo, .num, 0, false⟩]⟩,
    ⟨"CF_STOP_RECORD0", 0x68, 0x8, 1,
      [⟨Reg.CF_STOP_RECORD0.VALID, .w1c, .num, 0, true⟩, ⟨Reg.CF_STOP_RECORD0.STATUS, .ro, .num, 0, true⟩, ⟨Reg.CF_STOP_RECORD0.SOURCE, .ro, .num, 0, true⟩, ⟨Reg.CF_STOP_RECORD0.LOCUS, .ro, .num, 0, true⟩, ⟨Reg.CF_STOP_RECORD0.CHIP, .ro, .num, 0, true⟩]⟩,
    ⟨"CF_STOP_RECORD1", 0x70, 0x8, 1,
      [⟨Reg.CF_STOP_RECORD1.TIME, .ro, .num, 0, true⟩]⟩,
    ⟨"CF_STOP_RECORD2", 0x78, 0x8, 1,
      [⟨Reg.CF_STOP_RECORD2.STEP, .ro, .num, 0, true⟩]⟩,
    ⟨"CF_RESET", 0x80, 0x8, 1,
      [⟨Reg.CF_RESET.WARM, .wo, .num, 0, false⟩, ⟨Reg.CF_RESET.KEY, .wo, .num, 0, false⟩]⟩,
    ⟨"CF_RESET_CAUSE", 0x88, 0x8, 1,
      [⟨Reg.CF_RESET_CAUSE.CAUSE, .ro, .num, 0, true⟩, ⟨Reg.CF_RESET_CAUSE.LATCH, .ro, .num, 0, true⟩, ⟨Reg.CF_RESET_CAUSE.ADDR_SEL, .ro, .num, 0, true⟩]⟩]

/-- The registers of the hi block. -/
def hiRegs : List RegRow :=
  [
    ⟨"HI_LINK_STATUS", 0x0, 0x8, 1,
      [⟨Reg.HI_LINK_STATUS.SPEED, .ro, .num, 0, false⟩, ⟨Reg.HI_LINK_STATUS.WIDTH, .ro, .num, 0, false⟩, ⟨Reg.HI_LINK_STATUS.FLIT, .ro, .num, 0, false⟩, ⟨Reg.HI_LINK_STATUS.UP, .ro, .num, 0, false⟩, ⟨Reg.HI_LINK_STATUS.DOWN_EVENTS, .ro, .num, 0, true⟩]⟩,
    ⟨"HI_BAD_ACCESS_COUNT", 0x8, 0x8, 1,
      [⟨Reg.HI_BAD_ACCESS_COUNT.COUNT, .ro, .num, 0, true⟩, ⟨Reg.HI_BAD_ACCESS_COUNT.CLEAR, .wo, .num, 0, false⟩, ⟨Reg.HI_BAD_ACCESS_COUNT.BAR, .ro, .num, 0, true⟩, ⟨Reg.HI_BAD_ACCESS_COUNT.REASON, .ro, .num, 0, true⟩]⟩,
    ⟨"HI_CMD_RING_BASE", 0x10, 0x8, 1,
      [⟨Reg.HI_CMD_RING_BASE.ADDR, .rw, .num, 0, true⟩]⟩,
    ⟨"HI_CPL_RING_BASE", 0x18, 0x8, 1,
      [⟨Reg.HI_CPL_RING_BASE.ADDR, .rw, .num, 0, true⟩]⟩,
    ⟨"HI_CTRL_PAGE", 0x20, 0x8, 1,
      [⟨Reg.HI_CTRL_PAGE.ADDR, .rw, .num, 0, true⟩]⟩,
    ⟨"HI_RING_CTL", 0x28, 0x8, 1,
      [⟨Reg.HI_RING_CTL.ENABLE, .rw, .num, 0, false⟩, ⟨Reg.HI_RING_CTL.CMD_LOG2, .rw, .num, 6, true⟩, ⟨Reg.HI_RING_CTL.CPL_LOG2, .rw, .num, 8, true⟩, ⟨Reg.HI_RING_CTL.RUNNING, .ro, .num, 0, false⟩, ⟨Reg.HI_RING_CTL.CPL_FULL, .ro, .num, 0, false⟩, ⟨Reg.HI_RING_CTL.RING_FAULT, .w1c, .num, 0, false⟩, ⟨Reg.HI_RING_CTL.EVT_LOST, .ro, .num, 0, true⟩]⟩,
    ⟨"HI_RING_STATUS", 0x30, 0x8, 1,
      [⟨Reg.HI_RING_STATUS.CMD_HEAD, .ro, .num, 0, false⟩, ⟨Reg.HI_RING_STATUS.CPL_TAIL, .ro, .num, 0, false⟩]⟩,
    ⟨"HI_POLL_CTL", 0x38, 0x8, 1,
      [⟨Reg.HI_POLL_CTL.PERIOD_NS, .rw, .cfg, 500, true⟩]⟩,
    ⟨"HI_MSIX_COAL", 0x40, 0x8, 1,
      [⟨Reg.HI_MSIX_COAL.COUNT, .rw, .cfg, 16, true⟩, ⟨Reg.HI_MSIX_COAL.TIME_US, .rw, .cfg, 20, true⟩]⟩,
    ⟨"HI_BAR2_AP", 0x100, 0x8, 8,
      [⟨Reg.HI_BAR2_AP.OFFSET, .rw, .num, 0, false⟩, ⟨Reg.HI_BAR2_AP.WING, .rw, .num, 0, false⟩, ⟨Reg.HI_BAR2_AP.VALID, .rw, .num, 0, false⟩]⟩]

/-- The registers of the sv block. -/
def svRegs : List RegRow :=
  [
    ⟨"SV_JOB_CFG", 0x0, 0x8, 1,
      [⟨Reg.SV_JOB_CFG.SLOT_LO, .rw, .num, 0, false⟩, ⟨Reg.SV_JOB_CFG.SLOT_HI, .rw, .num, 0, false⟩, ⟨Reg.SV_JOB_CFG.INTAKE, .rw, .num, 0, false⟩, ⟨Reg.SV_JOB_CFG.POOL, .rw, .num, 0, false⟩, ⟨Reg.SV_JOB_CFG.MODE, .rw, .num, 0, false⟩, ⟨Reg.SV_JOB_CFG.QINDEX, .rw, .num, 0, false⟩, ⟨Reg.SV_JOB_CFG.QCOUNT, .rw, .num, 0, false⟩]⟩,
    ⟨"SV_STEP_CFG", 0x8, 0x8, 1,
      [⟨Reg.SV_STEP_CFG.TOKENS, .rw, .num, 0, false⟩, ⟨Reg.SV_STEP_CFG.CHUNK_MAX, .rw, .num, 0, false⟩, ⟨Reg.SV_STEP_CFG.PROMPT_MIN, .rw, .num, 0, false⟩, ⟨Reg.SV_STEP_CFG.D_MAX, .rw, .num, 0, false⟩]⟩,
    ⟨"SV_LIMITS", 0x10, 0x8, 1,
      [⟨Reg.SV_LIMITS.ACK_US, .rw, .cfg, 2000, true⟩, ⟨Reg.SV_LIMITS.LMAX, .rw, .num, 0, false⟩]⟩,
    ⟨"SV_COMMITTED", 0x18, 0x8, 1,
      [⟨Reg.SV_COMMITTED.STEP, .ro, .num, 0, false⟩]⟩,
    ⟨"SV_MIRRORED", 0x20, 0x8, 1,
      [⟨Reg.SV_MIRRORED.STEP, .ro, .num, 0, false⟩]⟩,
    ⟨"SV_RELEASED", 0x28, 0x8, 1,
      [⟨Reg.SV_RELEASED.STEP, .ro, .num, 0, false⟩]⟩,
    ⟨"SV_SLOTS", 0x30, 0x8, 1,
      [⟨Reg.SV_SLOTS.FREE, .ro, .num, 0, false⟩, ⟨Reg.SV_SLOTS.WAITING, .ro, .num, 0, false⟩, ⟨Reg.SV_SLOTS.ACTIVE, .ro, .num, 0, false⟩, ⟨Reg.SV_SLOTS.RECLAIM, .ro, .num, 0, false⟩]⟩,
    ⟨"SV_PAGE_RANGE", 0x38, 0x8, 1,
      [⟨Reg.SV_PAGE_RANGE.FIRST, .rw, .num, 0, false⟩, ⟨Reg.SV_PAGE_RANGE.COUNT, .rw, .num, 0, false⟩]⟩,
    ⟨"SV_RESTART", 0x40, 0x8, 1,
      [⟨Reg.SV_RESTART.COUNT, .rw, .num, 0, true⟩, ⟨Reg.SV_RESTART.REPEAT, .rw, .num, 0, true⟩, ⟨Reg.SV_RESTART.AHEAD, .rw, .num, 0, false⟩, ⟨Reg.SV_RESTART.SPARE, .rw, .num, 0, true⟩]⟩,
    ⟨"SV_RESUME_STEP", 0x48, 0x8, 1,
      [⟨Reg.SV_RESUME_STEP.STEP, .rw, .num, 0, true⟩]⟩,
    ⟨"SV_TABLE_PUB0", 0x800, 0x10, 8,
      [⟨Reg.SV_TABLE_PUB0.SWAP_STEP, .rw, .num, 0, false⟩]⟩,
    ⟨"SV_TABLE_PUB1", 0x808, 0x10, 8,
      [⟨Reg.SV_TABLE_PUB1.ARM, .wo, .num, 0, false⟩, ⟨Reg.SV_TABLE_PUB1.CANCEL, .wo, .num, 0, false⟩, ⟨Reg.SV_TABLE_PUB1.GEN, .ro, .num, 0, false⟩, ⟨Reg.SV_TABLE_PUB1.STATE, .ro, .num, 0, false⟩, ⟨Reg.SV_TABLE_PUB1.REFUSED, .w1c, .num, 0, false⟩]⟩]

/-- The registers of the au block. -/
def auRegs : List RegRow :=
  [
    ⟨"AU_TDC", 0x0, 0x8, 1,
      [⟨Reg.AU_TDC.PENDING, .ro, .num, 0, true⟩]⟩,
    ⟨"AU_TDC_TOTAL", 0x8, 0x8, 1,
      [⟨Reg.AU_TDC_TOTAL.TOTAL, .ro, .num, 0, true⟩]⟩,
    ⟨"AU_LEDGER_CTL", 0x10, 0x8, 1,
      [⟨Reg.AU_LEDGER_CTL.NSLOTS, .rw, .num, 0, true⟩, ⟨Reg.AU_LEDGER_CTL.KEY_SLOT, .rw, .num, 0, true⟩]⟩,
    ⟨"AU_LEDGER_EXPORT", 0x18, 0x8, 1,
      [⟨Reg.AU_LEDGER_EXPORT.BLOCK, .rw, .num, 0, true⟩]⟩,
    ⟨"AU_LEDGER_STATUS", 0x20, 0x8, 1,
      [⟨Reg.AU_LEDGER_STATUS.OPEN_BLOCK, .ro, .num, 0, true⟩, ⟨Reg.AU_LEDGER_STATUS.FULL, .ro, .num, 0, false⟩, ⟨Reg.AU_LEDGER_STATUS.SIGN_FAIL, .w1c, .num, 0, true⟩, ⟨Reg.AU_LEDGER_STATUS.SIGN_PENDING, .ro, .num, 0, false⟩]⟩,
    ⟨"AU_REPLAY", 0x28, 0x8, 1,
      [⟨Reg.AU_REPLAY.ENABLE, .rw, .num, 0, false⟩, ⟨Reg.AU_REPLAY.BREAK, .rw, .num, 0, false⟩, ⟨Reg.AU_REPLAY.BROKEN, .ro, .num, 0, false⟩, ⟨Reg.AU_REPLAY.TILE, .rw, .num, 0, false⟩, ⟨Reg.AU_REPLAY.BEAT, .rw, .num, 0, false⟩]⟩,
    ⟨"AU_BREAK_STEP", 0x30, 0x8, 1,
      [⟨Reg.AU_BREAK_STEP.STEP, .rw, .num, 0, false⟩]⟩]

/-- The registers of the tb block. -/
def tbRegs : List RegRow :=
  [
    ⟨"TB_TIME", 0x0, 0x8, 1,
      [⟨Reg.TB_TIME.TIME, .rw, .num, 0, true⟩]⟩,
    ⟨"TB_STEP", 0x8, 0x8, 1,
      [⟨Reg.TB_STEP.STEP, .rw, .num, 0, false⟩]⟩,
    ⟨"TB_TREE", 0x10, 0x8, 1,
      [⟨Reg.TB_TREE.PARENT, .rw, .cfg, 0, true⟩, ⟨Reg.TB_TREE.CHILDREN, .rw, .cfg, 0, true⟩, ⟨Reg.TB_TREE.LEVEL, .rw, .cfg, 0, true⟩]⟩,
    ⟨"TB_STATUS", 0x18, 0x8, 1,
      [⟨Reg.TB_STATUS.LOCKED, .ro, .num, 0, false⟩, ⟨Reg.TB_STATUS.HOLDOVER, .ro, .num, 0, false⟩, ⟨Reg.TB_STATUS.OUT_OF_BOUND, .w1c, .num, 0, false⟩, ⟨Reg.TB_STATUS.OFFSET, .ro, .num, 0, false⟩, ⟨Reg.TB_STATUS.DELAY, .ro, .num, 0, false⟩, ⟨Reg.TB_STATUS.LATE_GO, .ro, .num, 0, true⟩]⟩,
    ⟨"TB_STEP_LEAD", 0x20, 0x8, 1,
      [⟨Reg.TB_STEP_LEAD.LEAD_NS, .rw, .cfg, 2000, true⟩]⟩,
    ⟨"TB_STEP_DONE", 0x28, 0x8, 1,
      [⟨Reg.TB_STEP_DONE.STEP, .wo, .num, 0, false⟩]⟩]

/-- The registers of the mx block. -/
def mxRegs : List RegRow :=
  [
    ⟨"MX_REPAIR", 0x0, 0x8, 2,
      [⟨Reg.MX_REPAIR.SITE_0, .ro, .fuse, 24, true⟩, ⟨Reg.MX_REPAIR.SITE_1, .ro, .fuse, 24, true⟩, ⟨Reg.MX_REPAIR.SITE_2, .ro, .fuse, 24, true⟩, ⟨Reg.MX_REPAIR.SITE_3, .ro, .fuse, 24, true⟩, ⟨Reg.MX_REPAIR.SITE_4, .ro, .fuse, 24, true⟩, ⟨Reg.MX_REPAIR.SITE_5, .ro, .fuse, 24, true⟩, ⟨Reg.MX_REPAIR.SITE_6, .ro, .fuse, 24, true⟩, ⟨Reg.MX_REPAIR.SITE_7, .ro, .fuse, 24, true⟩, ⟨Reg.MX_REPAIR.SITE_8, .ro, .fuse, 24, true⟩, ⟨Reg.MX_REPAIR.SITE_9, .ro, .fuse, 24, true⟩, ⟨Reg.MX_REPAIR.SITE_10, .ro, .fuse, 24, true⟩, ⟨Reg.MX_REPAIR.SITE_11, .ro, .fuse, 24, true⟩]⟩,
    ⟨"MX_BRIDGE_STATUS", 0x10, 0x8, 1,
      [⟨Reg.MX_BRIDGE_STATUS.LINK_OK, .ro, .num, 0, false⟩, ⟨Reg.MX_BRIDGE_STATUS.UE_VALID, .w1c, .num, 0, true⟩, ⟨Reg.MX_BRIDGE_STATUS.UE_ROW, .ro, .num, 0, true⟩, ⟨Reg.MX_BRIDGE_STATUS.CORRECTED, .ro, .num, 0, true⟩]⟩]

/-- The registers of the pw block. -/
def pwRegs : List RegRow :=
  [
    ⟨"PW_BUDGET", 0x0, 0x8, 1,
      [⟨Reg.PW_BUDGET.BUDGET_W, .rw, .cfg, 1800, true⟩, ⟨Reg.PW_BUDGET.HBM_CAP_W, .rw, .cfg, 480, true⟩, ⟨Reg.PW_BUDGET.REFUSED, .w1c, .num, 0, false⟩]⟩,
    ⟨"PW_TARGET", 0x8, 0x8, 1,
      [⟨Reg.PW_TARGET.BEAT_PS, .rw, .cfg, 500, true⟩, ⟨Reg.PW_TARGET.VMAX_MV, .rw, .cfg, 850, true⟩]⟩,
    ⟨"PW_STATUS", 0x10, 0x8, 1,
      [⟨Reg.PW_STATUS.GRANTED_W, .ro, .num, 0, false⟩, ⟨Reg.PW_STATUS.FREE_W, .ro, .num, 0, false⟩, ⟨Reg.PW_STATUS.REFUSALS, .ro, .num, 0, true⟩, ⟨Reg.PW_STATUS.LOWERING, .ro, .num, 0, false⟩]⟩,
    ⟨"PW_DOMAIN", 0x100, 0x8, 50,
      [⟨Reg.PW_DOMAIN.CEIL_W, .ro, .num, 0, false⟩, ⟨Reg.PW_DOMAIN.DRAW_W, .ro, .num, 0, false⟩, ⟨Reg.PW_DOMAIN.VOLT_MV, .ro, .num, 0, false⟩, ⟨Reg.PW_DOMAIN.FLOOR_W, .ro, .fuse, 0, true⟩, ⟨Reg.PW_DOMAIN.ON, .ro, .num, 0, false⟩, ⟨Reg.PW_DOMAIN.HELD, .ro, .num, 0, false⟩, ⟨Reg.PW_DOMAIN.REFUSED, .w1c, .num, 0, false⟩, ⟨Reg.PW_DOMAIN.HOT, .ro, .num, 0, false⟩]⟩,
    ⟨"PW_TIER_CTL", 0x300, 0x8, 1,
      [⟨Reg.PW_TIER_CTL.DOWN, .rw, .num, 0, true⟩, ⟨Reg.PW_TIER_CTL.OFF, .ro, .num, 0, true⟩, ⟨Reg.PW_TIER_CTL.PENDING, .ro, .num, 0, false⟩]⟩]

/-- The registers of the ww block. -/
def wwRegs : List RegRow :=
  [
    ⟨"WW_CTL", 0x0, 0x8, 1,
      [⟨Reg.WW_CTL.DRIFT_THR, .rw, .cfg, 2, true⟩, ⟨Reg.WW_CTL.GUARD, .rw, .cfg, 4, true⟩, ⟨Reg.WW_CTL.PERIOD_H, .rw, .cfg, 24, true⟩, ⟨Reg.WW_CTL.REPLAN, .wo, .num, 0, false⟩]⟩,
    ⟨"WW_STATUS", 0x8, 0x8, 1,
      [⟨Reg.WW_STATUS.REPLANS, .ro, .num, 0, true⟩, ⟨Reg.WW_STATUS.WORN, .ro, .num, 0, true⟩, ⟨Reg.WW_STATUS.LAST_CAUSE, .ro, .num, 0, true⟩]⟩,
    ⟨"WW_BAND", 0x100, 0x8, 12,
      [⟨Reg.WW_BAND.CODE, .rw, .cfg, 0, true⟩, ⟨Reg.WW_BAND.CODE_BOL, .ro, .fuse, 0, true⟩, ⟨Reg.WW_BAND.CODE_LIMIT, .ro, .fuse, 0, true⟩, ⟨Reg.WW_BAND.SLACK, .ro, .num, 0, false⟩, ⟨Reg.WW_BAND.DRIFT, .ro, .num, 0, false⟩, ⟨Reg.WW_BAND.BEAT_PS, .ro, .num, 0, false⟩]⟩]

/-- The registers of the sc block. -/
def scRegs : List RegRow :=
  [
    ⟨"SC_BOOT_STATUS", 0x0, 0x8, 1,
      [⟨Reg.SC_BOOT_STATUS.BANK, .ro, .num, 0, true⟩, ⟨Reg.SC_BOOT_STATUS.SVN, .ro, .num, 0, true⟩, ⟨Reg.SC_BOOT_STATUS.SAFE, .ro, .num, 0, true⟩, ⟨Reg.SC_BOOT_STATUS.RECOVERY, .ro, .num, 0, true⟩, ⟨Reg.SC_BOOT_STATUS.KAT_OK, .ro, .num, 0, true⟩, ⟨Reg.SC_BOOT_STATUS.ENTROPY_OK, .ro, .num, 0, true⟩, ⟨Reg.SC_BOOT_STATUS.DEBUG_UNLOCKED, .ro, .num, 0, true⟩]⟩,
    ⟨"SC_OTP_STATE", 0x8, 0x8, 1,
      [⟨Reg.SC_OTP_STATE.ROLLBACK, .otp, .fuse, 0, true⟩, ⟨Reg.SC_OTP_STATE.WSVN, .otp, .fuse, 0, true⟩, ⟨Reg.SC_OTP_STATE.SLOT_WRITTEN, .otp, .fuse, 0, true⟩, ⟨Reg.SC_OTP_STATE.SLOT_REVOKED, .otp, .fuse, 0, true⟩, ⟨Reg.SC_OTP_STATE.DEBUG_DISABLED, .otp, .fuse, 0, true⟩, ⟨Reg.SC_OTP_STATE.LOG_USED, .otp, .fuse, 0, true⟩]⟩,
    ⟨"SC_EDGE_STATUS", 0x10, 0x8, 1,
      [⟨Reg.SC_EDGE_STATUS.KEY_VALID, .ro, .num, 0, true⟩, ⟨Reg.SC_EDGE_STATUS.AUTH_FAILS, .ro, .num, 0, true⟩, ⟨Reg.SC_EDGE_STATUS.REPLAYS, .ro, .num, 0, true⟩]⟩]

/-- The registers of the fb block. -/
def fbRegs : List RegRow :=
  [
    ⟨"FB_PORT_CFG", 0x0, 0x8, 8,
      [⟨Reg.FB_PORT_CFG.ROLE, .rw, .cfg, 0, true⟩]⟩,
    ⟨"FB_PORT_STATUS", 0x40, 0x8, 8,
      [⟨Reg.FB_PORT_STATUS.STATE, .ro, .num, 0, false⟩, ⟨Reg.FB_PORT_STATUS.LANES_OK, .ro, .num, 0, false⟩, ⟨Reg.FB_PORT_STATUS.RTT_NS, .ro, .num, 0, false⟩, ⟨Reg.FB_PORT_STATUS.DOWN_EVENT, .w1c, .num, 0, true⟩]⟩,
    ⟨"FB_PORT_ERR", 0x80, 0x8, 8,
      [⟨Reg.FB_PORT_ERR.CORRECTED, .ro, .num, 0, true⟩, ⟨Reg.FB_PORT_ERR.RETRIES, .ro, .num, 0, true⟩, ⟨Reg.FB_PORT_ERR.POISONED, .ro, .num, 0, true⟩]⟩,
    ⟨"FB_CHAN_CFG", 0x100, 0x8, 1,
      [⟨Reg.FB_CHAN_CFG.ORDER, .rw, .num, 0, true⟩, ⟨Reg.FB_CHAN_CFG.CLASS, .rw, .num, 0, true⟩]⟩,
    ⟨"FB_JOB", 0x108, 0x8, 1,
      [⟨Reg.FB_JOB.EPOCH, .rw, .num, 0, false⟩, ⟨Reg.FB_JOB.LOADED, .rw, .num, 0, false⟩]⟩,
    ⟨"FB_HOLD_LIMIT", 0x110, 0x8, 1,
      [⟨Reg.FB_HOLD_LIMIT.LIMIT_US, .rw, .cfg, 2000, true⟩]⟩,
    ⟨"FB_DROP_COUNT", 0x118, 0x8, 1,
      [⟨Reg.FB_DROP_COUNT.DISCARDED, .ro, .num, 0, true⟩, ⟨Reg.FB_DROP_COUNT.LATE, .ro, .num, 0, true⟩]⟩,
    ⟨"FB_ORDER_STATUS", 0x120, 0x8, 1,
      [⟨Reg.FB_ORDER_STATUS.OPEN_MSGS, .ro, .num, 0, false⟩, ⟨Reg.FB_ORDER_STATUS.REORDER_FLITS, .ro, .num, 0, false⟩, ⟨Reg.FB_ORDER_STATUS.HELD_FLAGS, .ro, .num, 0, false⟩]⟩,
    ⟨"FB_CHIP_ID", 0x128, 0x8, 1,
      [⟨Reg.FB_CHIP_ID.CHIP, .rw, .num, 65535, true⟩, ⟨Reg.FB_CHIP_ID.GROUP, .rw, .num, 0, true⟩]⟩,
    ⟨"FB_PLAN_ID", 0x130, 0x8, 1,
      [⟨Reg.FB_PLAN_ID.PLAN, .rw, .num, 0, true⟩]⟩,
    ⟨"FB_PORT_VERDICT", 0x138, 0x8, 1,
      [⟨Reg.FB_PORT_VERDICT.VERDICT, .rw, .num, 0, false⟩]⟩,
    ⟨"FB_ROUTE_CTL", 0x140, 0x8, 1,
      [⟨Reg.FB_ROUTE_CTL.ACTIVE, .ro, .num, 0, false⟩, ⟨Reg.FB_ROUTE_CTL.ARM, .wo, .num, 0, false⟩, ⟨Reg.FB_ROUTE_CTL.ARMED, .ro, .num, 0, false⟩, ⟨Reg.FB_ROUTE_CTL.VAL_COUNT, .rw, .num, 0, false⟩]⟩,
    ⟨"FB_OCC_CTL", 0x148, 0x8, 1,
      [⟨Reg.FB_OCC_CTL.SAMPLE_NS, .rw, .cfg, 64, true⟩, ⟨Reg.FB_OCC_CTL.CLEAR, .wo, .num, 0, false⟩]⟩,
    ⟨"FB_MCAST", 0x200, 0x8, 16,
      [⟨Reg.FB_MCAST.CHIP_A, .rw, .num, 0, false⟩, ⟨Reg.FB_MCAST.CHIP_B, .rw, .num, 0, false⟩, ⟨Reg.FB_MCAST.CHIP_C, .rw, .num, 0, false⟩, ⟨Reg.FB_MCAST.COUNT, .rw, .num, 0, false⟩, ⟨Reg.FB_MCAST.VALID, .rw, .num, 0, false⟩]⟩,
    ⟨"FB_NBR0", 0x300, 0x10, 8,
      [⟨Reg.FB_NBR0.SERIAL, .ro, .num, 0, false⟩]⟩,
    ⟨"FB_NBR1", 0x308, 0x10, 8,
      [⟨Reg.FB_NBR1.CHIP, .ro, .num, 0, false⟩, ⟨Reg.FB_NBR1.WING, .ro, .num, 0, false⟩, ⟨Reg.FB_NBR1.PORT, .ro, .num, 0, false⟩, ⟨Reg.FB_NBR1.GRADE, .ro, .num, 0, false⟩, ⟨Reg.FB_NBR1.STEPPING, .ro, .num, 0, false⟩, ⟨Reg.FB_NBR1.ROLE, .ro, .num, 0, false⟩, ⟨Reg.FB_NBR1.VALID, .ro, .num, 0, false⟩, ⟨Reg.FB_NBR1.CHANGED, .w1c, .num, 0, false⟩, ⟨Reg.FB_NBR1.PLAN_MATCH, .ro, .num, 0, false⟩]⟩,
    ⟨"FB_BAR0", 0x400, 0x40, 16,
      [⟨Reg.FB_BAR0.LOCAL_TILE, .rw, .num, 0, false⟩, ⟨Reg.FB_BAR0.BID, .rw, .num, 0, false⟩, ⟨Reg.FB_BAR0.NCHILD, .rw, .num, 0, false⟩, ⟨Reg.FB_BAR0.HAS_PARENT, .rw, .num, 0, false⟩, ⟨Reg.FB_BAR0.VALID, .rw, .num, 0, false⟩]⟩,
    ⟨"FB_BAR1", 0x408, 0x40, 16,
      [⟨Reg.FB_BAR1.PARENT_CHIP, .rw, .num, 0, false⟩, ⟨Reg.FB_BAR1.PARENT_TILE, .rw, .num, 0, false⟩, ⟨Reg.FB_BAR1.ARRIVED, .ro, .num, 0, false⟩, ⟨Reg.FB_BAR1.WAITREL, .ro, .num, 0, false⟩, ⟨Reg.FB_BAR1.PENDING, .ro, .num, 0, false⟩, ⟨Reg.FB_BAR1.GEN, .ro, .num, 0, false⟩]⟩,
    ⟨"FB_BAR2", 0x410, 0x40, 16,
      [⟨Reg.FB_BAR2.CHILD_CHIP, .rw, .num, 0, false⟩, ⟨Reg.FB_BAR2.CHILD_TILE, .rw, .num, 0, false⟩]⟩,
    ⟨"FB_BAR3", 0x418, 0x40, 16,
      [⟨Reg.FB_BAR3.CHILD_CHIP, .rw, .num, 0, false⟩, ⟨Reg.FB_BAR3.CHILD_TILE, .rw, .num, 0, false⟩]⟩,
    ⟨"FB_BAR4", 0x420, 0x40, 16,
      [⟨Reg.FB_BAR4.CHILD_CHIP, .rw, .num, 0, false⟩, ⟨Reg.FB_BAR4.CHILD_TILE, .rw, .num, 0, false⟩]⟩,
    ⟨"FB_BAR5", 0x428, 0x40, 16,
      [⟨Reg.FB_BAR5.CHILD_CHIP, .rw, .num, 0, false⟩, ⟨Reg.FB_BAR5.CHILD_TILE, .rw, .num, 0, false⟩]⟩,
    ⟨"FB_BAR6", 0x430, 0x40, 16,
      [⟨Reg.FB_BAR6.CHILD_CHIP, .rw, .num, 0, false⟩, ⟨Reg.FB_BAR6.CHILD_TILE, .rw, .num, 0, false⟩]⟩,
    ⟨"FB_BAR7", 0x438, 0x40, 16,
      [⟨Reg.FB_BAR7.CHILD_CHIP, .rw, .num, 0, false⟩, ⟨Reg.FB_BAR7.CHILD_TILE, .rw, .num, 0, false⟩]⟩,
    ⟨"FB_VAL", 0x800, 0x8, 64,
      [⟨Reg.FB_VAL.CHIP0, .rw, .num, 0, false⟩, ⟨Reg.FB_VAL.CHIP1, .rw, .num, 0, false⟩, ⟨Reg.FB_VAL.CHIP2, .rw, .num, 0, false⟩, ⟨Reg.FB_VAL.CHIP3, .rw, .num, 0, false⟩]⟩,
    ⟨"FB_OCC_HIST", 0xA00, 0x8, 36,
      [⟨Reg.FB_OCC_HIST.BIN_EVEN, .ro, .num, 0, true⟩, ⟨Reg.FB_OCC_HIST.BIN_ODD, .ro, .num, 0, true⟩]⟩,
    ⟨"FB_ROUTE_BANK0", 0x10000, 0x8, 4352,
      [⟨Reg.FB_ROUTE_BANK0.PORTS, .rw, .num, 0, false⟩, ⟨Reg.FB_ROUTE_BANK0.LIVE, .rw, .num, 0, false⟩, ⟨Reg.FB_ROUTE_BANK0.GROUP, .rw, .num, 0, false⟩, ⟨Reg.FB_ROUTE_BANK0.DIST, .rw, .num, 0, false⟩]⟩,
    ⟨"FB_ROUTE_BANK1", 0x20000, 0x8, 4352,
      [⟨Reg.FB_ROUTE_BANK1.PORTS, .rw, .num, 0, false⟩, ⟨Reg.FB_ROUTE_BANK1.LIVE, .rw, .num, 0, false⟩, ⟨Reg.FB_ROUTE_BANK1.GROUP, .rw, .num, 0, false⟩, ⟨Reg.FB_ROUTE_BANK1.DIST, .rw, .num, 0, false⟩]⟩]

/-- The registers of the cm block. -/
def cmRegs : List RegRow :=
  [
    ⟨"CM_REGION", 0x0, 0x8, 16,
      [⟨Reg.CM_REGION.BASE, .rw, .num, 0, true⟩, ⟨Reg.CM_REGION.SIZE, .rw, .num, 0, true⟩, ⟨Reg.CM_REGION.KIND, .rw, .num, 0, true⟩, ⟨Reg.CM_REGION.VALID, .rw, .num, 0, true⟩]⟩,
    ⟨"CM_STATUS", 0x80, 0x8, 1,
      [⟨Reg.CM_STATUS.TRAINED, .ro, .num, 0, false⟩, ⟨Reg.CM_STATUS.FAILED, .ro, .num, 0, false⟩, ⟨Reg.CM_STATUS.HOT, .ro, .num, 0, false⟩, ⟨Reg.CM_STATUS.JOB, .ro, .num, 0, false⟩]⟩,
    ⟨"CM_ECC_STATUS", 0x88, 0x8, 1,
      [⟨Reg.CM_ECC_STATUS.CORRECTED, .ro, .num, 0, true⟩, ⟨Reg.CM_ECC_STATUS.ONDIE, .ro, .num, 0, true⟩, ⟨Reg.CM_ECC_STATUS.POISONED, .ro, .num, 0, true⟩]⟩,
    ⟨"CM_ECC_UE", 0x90, 0x8, 1,
      [⟨Reg.CM_ECC_UE.VALID, .w1c, .num, 0, true⟩, ⟨Reg.CM_ECC_UE.GRANULE, .ro, .num, 0, true⟩, ⟨Reg.CM_ECC_UE.BLOCK, .ro, .num, 0, true⟩, ⟨Reg.CM_ECC_UE.SOURCE, .ro, .num, 0, true⟩]⟩,
    ⟨"CM_SCRUB_CTL", 0x98, 0x8, 1,
      [⟨Reg.CM_SCRUB_CTL.PERIOD_H, .rw, .cfg, 24, true⟩]⟩,
    ⟨"CM_TIMING_COUNT", 0xA0, 0x8, 1,
      [⟨Reg.CM_TIMING_COUNT.REFRESH_WAITS, .ro, .num, 0, true⟩, ⟨Reg.CM_TIMING_COUNT.RETRIES, .ro, .num, 0, true⟩]⟩,
    ⟨"CM_VIOL", 0xA8, 0x8, 1,
      [⟨Reg.CM_VIOL.VALID, .w1c, .num, 0, true⟩, ⟨Reg.CM_VIOL.SRC_KIND, .ro, .num, 0, true⟩, ⟨Reg.CM_VIOL.SRC_CHIP, .ro, .num, 0, true⟩, ⟨Reg.CM_VIOL.SRC_TILE, .ro, .num, 0, true⟩, ⟨Reg.CM_VIOL.REASON, .ro, .num, 0, true⟩, ⟨Reg.CM_VIOL.COUNT, .ro, .num, 0, true⟩]⟩,
    ⟨"CM_CANCEL_SET", 0xB0, 0x8, 1,
      [⟨Reg.CM_CANCEL_SET.SLOT, .wo, .num, 0, false⟩]⟩,
    ⟨"CM_CANCEL_CLR", 0xB8, 0x8, 1,
      [⟨Reg.CM_CANCEL_CLR.SLOT, .wo, .num, 0, false⟩]⟩,
    ⟨"CM_SPAN_STEP", 0xC0, 0x8, 1,
      [⟨Reg.CM_SPAN_STEP.STEP, .rw, .num, 0, false⟩]⟩,
    ⟨"CM_SPAN_CTL", 0xC8, 0x8, 1,
      [⟨Reg.CM_SPAN_CTL.ARM, .wo, .num, 0, false⟩, ⟨Reg.CM_SPAN_CTL.ARMED, .ro, .num, 0, false⟩, ⟨Reg.CM_SPAN_CTL.ACTIVE, .ro, .num, 0, false⟩, ⟨Reg.CM_SPAN_CTL.REFUSED, .w1c, .num, 0, false⟩, ⟨Reg.CM_SPAN_CTL.COUNT0, .rw, .num, 0, false⟩, ⟨Reg.CM_SPAN_CTL.COUNT1, .rw, .num, 0, false⟩]⟩,
    ⟨"CM_FILTER_COUNT", 0xD0, 0x8, 1,
      [⟨Reg.CM_FILTER_COUNT.FILTERED, .ro, .num, 0, true⟩]⟩,
    ⟨"CM_MIRROR_CTL", 0xD8, 0x8, 1,
      [⟨Reg.CM_MIRROR_CTL.PARTNER_CHIP, .rw, .cfg, 65535, true⟩]⟩,
    ⟨"CM_CANCEL_MAP", 0x400, 0x8, 256,
      [⟨Reg.CM_CANCEL_MAP.MAP, .ro, .num, 0, false⟩]⟩,
    ⟨"CM_SPAN_BANK", 0x100000, 0x8, 65536,
      [⟨Reg.CM_SPAN_BANK.FIRST, .rw, .num, 0, false⟩, ⟨Reg.CM_SPAN_BANK.COUNT_M1, .rw, .num, 0, false⟩, ⟨Reg.CM_SPAN_BANK.SLOT, .rw, .num, 0, false⟩]⟩]

/-- The registers of the mb block. -/
def mbRegs : List RegRow :=
  [
    ⟨"SC_MB_DOORBELL", 0x20000, 0x8, 1,
      [⟨Reg.SC_MB_DOORBELL.LENGTH, .wo, .num, 0, false⟩]⟩,
    ⟨"SC_MB_STATUS", 0x20008, 0x8, 1,
      [⟨Reg.SC_MB_STATUS.BUSY, .ro, .num, 0, false⟩, ⟨Reg.SC_MB_STATUS.DONE, .w1c, .num, 0, false⟩, ⟨Reg.SC_MB_STATUS.STATUS, .ro, .num, 0, false⟩, ⟨Reg.SC_MB_STATUS.RESP_LEN, .ro, .num, 0, false⟩, ⟨Reg.SC_MB_STATUS.OVERRUN, .w1c, .num, 0, false⟩]⟩]

/-- The registers of a block. -/
def Block.regs : Block → List RegRow
  | .tile => tileRegs | .cf => cfRegs | .hi => hiRegs | .sv => svRegs | .au => auRegs | .tb => tbRegs
  | .mx => mxRegs | .pw => pwRegs | .ww => wwRegs | .sc => scRegs | .fb => fbRegs | .cm => cmRegs | .mb => mbRegs

/-- R505: the offset at which a block begins in the register region of its wing (the mailbox pair stands above it). -/
def Block.base : Block → Nat
  | .cf => 0x0 | .hi => 0x10000 | .sv => 0x20000 | .au => 0x30000 | .tb => 0x40000 | .mx => 0x50000 | .pw => 0x60000
  | .ww => 0x70000 | .sc => 0x80000 | .fb => 0x100000 | .cm => 0x200000 | .tile => 0x1000000 | .mb => 0x1800000

/-- R505: the block that holds a register offset, and the offset within it (within the tile's block, for a tile). -/
def locate (x : Nat) : Option (Block × Nat) :=
  if x < 0x10000 then some (.cf, x)
  else if x < 0x20000 then some (.hi, x % 0x10000)
  else if x < 0x30000 then some (.sv, x % 0x10000)
  else if x < 0x40000 then some (.au, x % 0x10000)
  else if x < 0x50000 then some (.tb, x % 0x10000)
  else if x < 0x60000 then some (.mx, x % 0x10000)
  else if x < 0x70000 then some (.pw, x % 0x10000)
  else if x < 0x80000 then some (.ww, x % 0x10000)
  else if x < 0x90000 then some (.sc, x % 0x10000)
  else if x < 0x100000 then none
  else if x < 0x200000 then some (.fb, x % 0x100000)
  else if x < 0x400000 then some (.cm, x % 0x200000)
  else if x < 0x1000000 then none
  else if x < 0x1800000 then some (.tile, x % 0x2000)
  else if x < 0x1840000 then some (.mb, x % 0x1800000)
  else none

/-- Whether the row describes the register at an offset of its block. -/
def RegRow.holds (r : RegRow) (o : Nat) : Bool :=
  decide (r.off ≤ o) && decide ((o - r.off) % r.stride = 0) && decide ((o - r.off) / r.stride < r.count)

/-- The row of the register at an offset of a block. -/
def Block.row? (b : Block) (o : Nat) : Option RegRow := b.regs.find? (·.holds o)

/-- R504: a register's address: its BAR0 offset. -/
def regAddr (w : Fin 2) (b : Block) (o : Nat) : Nat := w.val * 0x2000000 + b.base + o

/-- R505: the address of a register of a tile's block. -/
def tileAddr (u : Site) (o : Nat) : Nat := u.wing.val * 0x2000000 + 0x1000000 + 0x2000 * u.tile.toNat + o

/-- The address of the register that holds field `f`, number `i` of its name, on a wing. -/
def Fld.at (f : Fld) (w : Fin 2) (i : Nat) : Nat := regAddr w f.blk (f.off + f.stride * i)

/-- The address of the register that holds field `f`, number `i` of its name, in a tile's block. -/
def Fld.on (f : Fld) (u : Site) (i : Nat) : Nat := tileAddr u (f.off + f.stride * i)

/-- The field `[lo + width - 1 : lo]` of a register value. -/
def getBits (v : Word) (lo width : Nat) : Nat := v.toNat / 2 ^ lo % 2 ^ width

/-- A register value with the field `[lo + width - 1 : lo]` replaced. -/
def setBits (v : Word) (lo width x : Nat) : Word :=
  BitVec.ofNat 64 (v.toNat % 2 ^ lo + x % 2 ^ width * 2 ^ lo + v.toNat / 2 ^ (lo + width) * 2 ^ (lo + width))

/-- R20: the cold value of a register, from the rows of its map. -/
def RegRow.cold (r : RegRow) : Word :=
  r.fields.foldl (fun v f => setBits v f.fld.lo f.fld.width f.cold) 0

/-- Fused fields of the part that `State.reset` describes (log entry 1): grade LK9-576, stepping A0 on both wings;
the floors of R539; delay-line limits 40 steps above the beginning-of-life code 0. -/
def fusedReset (w : Nat) (b : Block) (o : Nat) : Option Word :=
  match b with
  | .cf =>
    if o = 0 then
      some (BitVec.ofNat 64 (w + 0x01 * 2 ^ 8 + 0xA0 * 2 ^ 16 + 576 * 2 ^ 24 + 10 * 2 ^ 34 + 8 * 2 ^ 38
        + (1 - w) * 2 ^ 42 + (1 - w) * 2 ^ 43))
    else none
  | .pw =>
    if o < 0x100 then none
    else if o < 0x100 + 8 * 24 then some (BitVec.ofNat 64 (12 * 2 ^ 32))
    else if o < 0x100 + 8 * 32 then some (BitVec.ofNat 64 (5 * 2 ^ 32))
    else none
  | .ww => if 0x100 ≤ o ∧ o < 0x100 + 8 * 12 then some (BitVec.ofNat 64 (40 * 2 ^ 16)) else none
  | _ => none

/-- The value of the register at a BAR0 offset right after cold reset: what an unlisted register holds. -/
def resetVal (a : Nat) : Word :=
  match locate (a % 0x2000000) with
  | none => 0
  | some (b, o) =>
    match fusedReset (a / 0x2000000) b o with
    | some v => v
    | none => match b.row? o with
      | none => 0
      | some r => r.cold

end Sys2Proof.Machine
end

