-- ==== Sys2Proof/Machine/Sparse.lean ====
section
/-!
DEFINITION. Sparse data by number: a list of (key, value) pairs in one canonical form, keys strictly rising and no
entry equal to what an unlisted key holds. Registers, tiles, lanes, tickets and counters are held this way.
-/
namespace Sys2Proof.Machine

/-- A sparse map as plain data. -/
abbrev Sparse (α : Type) := List (Nat × α)

/-- The value at a key; `d` gives what an unlisted key holds. -/
def sget {α : Type} (d : Nat → α) : Sparse α → Nat → α
  | [], k => d k
  | (k', v) :: r, k => if k = k' then v else sget d r k

/-- Put an entry in its place among rising keys, replacing the entry of that key. -/
def sput {α : Type} (k : Nat) (v : α) : Sparse α → Sparse α
  | [] => [(k, v)]
  | (k', v') :: r => if k = k' then (k, v) :: r else if k < k' then (k, v) :: (k', v') :: r else (k', v') :: sput k v r

/-- Remove the entry of a key. -/
def sdel {α : Type} (k : Nat) (l : Sparse α) : Sparse α := l.filter (fun e => decide (e.1 ≠ k))

/-- Set the value at a key, keeping the canonical form. -/
def sset {α : Type} [DecidableEq α] (d : Nat → α) (l : Sparse α) (k : Nat) (v : α) : Sparse α :=
  if v = d k then sdel k l else sput k v l

/-- The canonical form: keys strictly rising, no entry equal to what its key holds unlisted. -/
def SparseWf {α : Type} (d : Nat → α) (l : Sparse α) : Prop :=
  l.Pairwise (fun a b => a.1 < b.1) ∧ ∀ e ∈ l, e.2 ≠ d e.1

/-! Sets of numbers, strictly rising: full rows, poisoned granules, members of a mask. -/

/-- Put a number into a rising list. -/
def nins (k : Nat) : List Nat → List Nat
  | [] => [k]
  | a :: r => if k = a then a :: r else if k < a then k :: a :: r else a :: nins k r

/-- Remove a number. -/
def ndel (k : Nat) (l : List Nat) : List Nat := l.filter (fun a => decide (a ≠ k))

/-- Put or remove a number. -/
def nset (l : List Nat) (k : Nat) (b : Bool) : List Nat := if b then nins k l else ndel k l

/-- The numbers of a run that starts at `a`. -/
def runOf (a n : Nat) : List Nat := (List.range n).map (a + ·)

/-- The bits of a number set in a mask of `n` bits. -/
def bitsOf (n v : Nat) : List Nat := (List.range n).filter (v.testBit ·)

end Sys2Proof.Machine
end

