-- ==== Sys2Proof/Machine/State.lean ====
section
/-!
DEFINITION. The state of the module: registers, memory, tiles, wings, host port, power, cocoon and board, as plain data,
and the state right after a cold reset. A field's docstring names the rule that gives the module that state.
-/
namespace Sys2Proof.Machine

/-- Reasons for which the model would stop. No meaning raises one: a job-stopping status of the spec is a next state
(R599). -/
inductive Fault where
  /-- Raised by no meaning (safe). -/
  | unreachable
  deriving DecidableEq, Repr

/-- Reasons for which a command has no meaning. -/
inductive Refusal where
  /-- Raised by an arm of the dispatch whose command is not modelled yet (safe: the model stops). -/
  | notModelled (mnemonic : String)
  deriving DecidableEq, Repr

/-! ### A tile -/

/-- R80: a result on its way: what it will write. -/
inductive Effect where
  | scalar (r : Nat) (v : Word)
  | vector (r : Nat) (lanes : List Lane)
  | expPair (j : Nat) (b0 b1 : Byte)
  | genWord (g w : Nat) (v : Word)
  | rowFill (row : Nat) (data : List Byte)
  deriving DecidableEq, Repr

/-- R80, R81: a result that becomes visible to the bundle issued at beat `due`. -/
structure PendWrite where
  due : Nat
  eff : Effect
  deriving DecidableEq, Repr

/-- R95: a loop record. -/
structure LoopRec where
  first : Nat
  last : Nat
  remaining : Nat
  deriving DecidableEq, Repr

/-- R287: the state of a queue ticket. -/
inductive TicketState where
  | free | inFlight | completed
  deriving DecidableEq, Repr

/-- R103 to R106, R287: a ticket of the load or store queue. `rows` are its target rows, `data` its staged rows, `order`
its place in issue order, `ofStep` the step it was issued in. -/
structure Ticket where
  state : TicketState := .free
  off : Nat := 0
  nrows : Nat := 0
  rows : List Nat := []
  data : List Byte := []
  status : Nat := 0
  order : Nat := 0
  beforeEnd : Bool := false
  deriving DecidableEq, Repr

/-- R167: who holds the claim of a row. -/
inductive Claim where
  | load (ticket : Nat)
  | remote
  | gather (entry : Nat)
  deriving DecidableEq, Repr

/-- R175: an open gather entry: its row and the bytes written so far, by position. `win` is the window that admits the
words of entry 3, `words` how many of them. -/
structure Gather where
  entry : Nat
  row : Nat
  bytes : Sparse Byte := []
  win : Option Nat := none
  deriving DecidableEq, Repr

/-- R182: the state of a window. -/
inductive WinState where
  | closed | opened | closing | openPending
  deriving DecidableEq, Repr

/-- R182, R183: a window: its state, whether it closes by exhaustion, and the NOTIFY and FID of the latest open that has
taken effect and of the pending one. -/
structure Window where
  state : WinState := .closed
  exhausted : Bool := false
  notify : Bool := false
  fid : BitVec 6 := 0
  nextNotify : Bool := false
  nextFid : BitVec 6 := 0
  deriving DecidableEq, Repr

/-- R346: what the unit that applied a packet of a flag channel reports to the router: the packet's stream and message, and whether
it took effect. -/
structure Verdict where
  chip : BitVec 16
  chan : BitVec 4
  dstKind : BitVec 2
  dstTile : BitVec 10
  msg : BitVec 8
  taken : Bool
  deriving DecidableEq, Repr

/-- R188: the admitted row held in the inbound stage. `src` is the source (chip, tile, kind) of a unicast packet, behind which
that source's later packets wait (R264); `clear` says that the row becomes empty with its landing (R173), `verdict` is what the
landing reports (R346). -/
structure Inbound where
  win : Nat
  row : Nat
  data : List Byte
  src : Option (Nat × Nat × Nat) := none
  clear : Bool := false
  verdict : Option Verdict := none
  deriving DecidableEq, Repr

/-- R189: a read waiting at the owner's read port; `hold` while a merging read is held. -/
structure PortRead where
  row : Nat
  merging : Bool
  hold : Bool
  p : Packet
  deriving DecidableEq, Repr

/-- R133 to R135: a weight set: format, whether compressed, the codes by (k, n), exponents, side list. `idx` holds the
two metadata bits of each kept value of a compressed set. -/
structure WeightSet where
  fmt : Nat
  sparse : Bool
  codes : List Nat
  idx : List Nat
  exps : List Int
  side : List (BitVec 32)
  deriving DecidableEq, Repr

/-- R138: the fill of the shadow set and the rows it keeps locked. -/
structure Fill where
  set : WeightSet
  rows : List (Nat × Nat)
  beats : Nat
  deriving DecidableEq, Repr

/-- R131, R132: what one vector of a stream reads: the handle and row of its codes, the first byte of its granule, and
for an integer stream the handle and row of its exponents and the byte of token 0, block 0. -/
structure VecSrc where
  handle : Nat
  row : Nat
  byte : Nat
  xhandle : Nat := 0
  xrow : Option Nat := none
  xbyte : Nat := 0
  deriving DecidableEq, Repr

/-- R139 to R144: a stream. `vecs` are its vectors still to feed, `next` the number of the first of them, `header` the
handle and row of its rescale header, `iss` the beat at which its bundle issued, `pc` that bundle's counter. -/
structure Stream where
  afmt : Nat
  region : Nat
  row0 : Nat
  count : Nat
  next : Nat
  vecs : List VecSrc
  header : Option (Nat × Nat)
  eAcc : Int
  swap : Bool
  inl : Bool
  begun : Bool
  iss : Nat
  pc : Nat
  deriving DecidableEq, Repr

/-- R49, R51, R53: what one group brings to an accumulator entry. -/
inductive Group where
  /-- Integer: the partial and the shift of each block. -/
  | int (blocks : List (Int × Int))
  /-- FP32 group result. -/
  | fp (g : Lane)
  deriving DecidableEq, Repr

/-- R144, R148: the results of a fed vector for one accumulator row: entry groups, and the outliers that the fix-up path
adds to each entry's side accumulator (R44): code, exponent and VALUE. -/
structure AccWrite where
  row : Nat
  sideRow : Option Nat
  groups : List (Nat × Group)
  outliers : List (Nat × List (Int × Int × Nat))
  iss : Nat
  pc : Nat
  deriving DecidableEq, Repr

/-- R145, R148: an accumulator row: 0 empty, 1 int32, 2 FP32, and its entries by number. -/
structure AccRow where
  typ : Nat := 0
  vals : Sparse Lane := []
  deriving DecidableEq, Repr

/-- R110, R267: the barrier bookkeeping of a tile's router: whether the tile has arrived since load, whether its latest
arrival is still held in PENDING, the number of generations completed when it was counted, the generations completed in
all, and which of the pending arrivals are the tile's own, oldest first. -/
structure BarTrack where
  arrived : Bool := false
  held : Bool := false
  countedAt : Nat := 0
  done : Nat := 0
  queue : List Bool := []
  deriving DecidableEq, Repr

/-- A tile with its router (R75 to R202, R252 to R276): everything outside its registers and its scratchpad bytes. -/
structure Tile where
  /-- R82: scalar registers. -/
  scalars : Sparse Word := []
  /-- R82: lane l of vector register r at key 64 r + l. -/
  vectors : Sparse Lane := []
  /-- R82: the exponent staging register E. -/
  expReg : Sparse Byte := []
  /-- R85, R86: counter i of generator g at key 4 g + i. -/
  gens : Sparse Nat := []
  /-- R95: loop records, innermost first. -/
  loops : List LoopRec := []
  /-- R80: bundles issued so far. -/
  beat : Nat := 0
  /-- R80, R81: results not yet visible, in the order in which they were produced. -/
  pend : List PendWrite := []
  /-- R98: END has issued since the last BEGIN. -/
  ended : Bool := false
  /-- R110: the waiting BAR has already sent its arrival. -/
  barSent : Bool := false
  /-- R287: the load and store queues. -/
  loads : Sparse Ticket := []
  stores : Sparse Ticket := []
  /-- R287, R288: tickets issued so far. -/
  issued : Nat := 0
  /-- R166: full rows. -/
  full : List Nat := []
  /-- R167: claimed rows. -/
  claims : Sparse (Option Claim) := []
  /-- R169, R170: reads made of the present fill of a COUNTED row. -/
  reads : Sparse Nat := []
  /-- R141, R174: rows that become empty when their lock ends. -/
  emptyLater : List Nat := []
  /-- R173: rows that were claimed at a `STEP` END: they become empty, with the data that ends the claim, when it ends. -/
  stepClear : List Nat := []
  /-- R175: open gather entries. -/
  gathers : List Gather := []
  /-- R175, R176: words of the hawk cores and the host held in arrival order. -/
  heldWords : List Packet := []
  /-- R182: windows. -/
  windows : Sparse Window := []
  /-- R188: the inbound stage. -/
  inbound : Option Inbound := none
  /-- R189: the read port. -/
  readPort : List PortRead := []
  /-- R162 to R165: what the code finds in a row, until it is rewritten. -/
  upsets : Sparse (Option RowErr) := []
  /-- R130 to R138: the weight sets and the fill in progress. -/
  active : Option WeightSet := none
  shadow : Option WeightSet := none
  fill : Option Fill := none
  /-- R143: the running stream and the queued one. -/
  feeder : List Stream := []
  /-- R144: fed results whose rows are not yet written, in feed order. -/
  accWrites : List AccWrite := []
  /-- R145: the accumulator file. -/
  acc : Sparse AccRow := []
  /-- R60: the beat of the latest clear; events of bundles issued before it are removed. -/
  satClear : Nat := 0
  /-- R110, R267: barriers. -/
  bars : Sparse BarTrack := []
  /-- R257: the router's input queues by direction, and each output's round-robin pointer. -/
  inq : Sparse (List Packet) := []
  served : Sparse Nat := []
  /-- R262, R266: outputs that the packet at the head of an input has already taken. -/
  forked : Sparse (List Nat) := []
  deriving DecidableEq, Repr

/-! ### A wing -/

/-- R325 to R329: a frame kept for replay and how often it has been resent. -/
structure SentFrame where
  frame : Frame
  resent : Nat
  deriving DecidableEq, Repr

/-- R323 to R329, R377: the link layer of a fabric port. -/
structure Port where
  /-- Next frame sequence to send, and the next expected. -/
  txSeq : BitVec 8 := 0
  rxSeq : BitVec 8 := 0
  /-- The receiver has sent a NAK and awaits the resent frame. -/
  nakOpen : Bool := false
  /-- The replay buffer, oldest first. -/
  replay : List SentFrame := []
  /-- Virtual channels whose flits are discarded up to the next TAIL (R327). -/
  discard : List Nat := []
  /-- The packet being received on each virtual channel, and whether it is poisoned. -/
  partialPkt : Sparse (Option (FPacket × Bool)) := []
  /-- Credits returned by the neighbour, per virtual channel, in flits. -/
  credits : Sparse Nat := []
  /-- Credits to return to the neighbour, per virtual channel, in flits (R323). -/
  owed : Sparse Nat := []
  /-- Times of the POISON records of the latest millisecond, on the wing's timebase (R329). -/
  poisons : List Nat := []
  /-- SERIAL, WING and PORT of the first HELLO since training (R377). -/
  firstHello : Option (BitVec 64 × Bool × BitVec 3) := none
  /-- PLAN of the latest HELLO received (R402). -/
  nbrPlan : BitVec 64 := 0
  /-- Control records waiting for the next free frame (R375). -/
  control : List Control := []
  /-- Packets waiting for the port, each with the input that holds it: 4 x port + virtual channel, where port 8 is the crossing
  link and port 9 the wing's own tiles and hawk cores (R335, R336). -/
  out : List (Nat × FPacket) := []
  /-- R336: for each output virtual channel v, the input port served last at key 16 v + 15, and the virtual channel served last of
  input port q at key 16 v + q, each plus one. -/
  turn : Sparse Nat := []
  /-- R380: the port trained while a job ran, and carries control records only until the next load or restart. -/
  controlOnly : Bool := false
  deriving DecidableEq, Repr

/-- R342, R343: a strict stream, by the other chip and channel: at the source the next PSEQ and how many are
unacknowledged; at the destination the next PSEQ to deliver, the early packets, and deliveries not yet acknowledged. -/
structure Strict where
  nextTx : BitVec 16 := 0
  unacked : Nat := 0
  ackedTo : BitVec 16 := 0
  nextRx : BitVec 16 := 0
  early : List FPacket := []
  owedAck : Nat := 0
  deriving DecidableEq, Repr

/-- R344 to R347: a flag stream at its source: the present message number, packets sent in it, and the messages without
a COMPLETE. -/
structure FlagTx where
  chip : BitVec 16
  dstKind : BitVec 2
  dstTile : BitVec 10
  chan : BitVec 4
  msg : BitVec 8
  sent : Nat
  openMsgs : List (BitVec 8 × Bool)
  deriving DecidableEq, Repr

/-- R345, R346: an open message at its destination: packets handed on, verdicts, the held flagged packet. -/
structure FlagRx where
  chip : BitVec 16
  dstKind : BitVec 2
  dstTile : BitVec 10
  chan : BitVec 4
  msg : BitVec 8
  handed : Nat
  taken : Nat
  dropped : Bool
  mcount : Option Nat
  held : Option FPacket
  deriving DecidableEq, Repr

/-- R413: a slot record of the request table. `groups` is the list that PAGE_LIST points at, `vector` the MSI-X vector
of its SUBMIT (R522), `scoreAddr` its SCORE_ADDR (R516). -/
structure Slot where
  reqId : BitVec 64 := 0
  state : Nat := 0
  kind : Nat := 0
  cancel : Bool := false
  dReq : Nat := 0
  dCur : Nat := 0
  rejRun : Nat := 0
  seed : BitVec 64 := 0
  promptLen : Nat := 0
  promptDone : Nat := 0
  len : Nat := 0
  maxNew : Nat := 0
  new : Nat := 0
  stopToken : BitVec 32 := 0
  seq : Nat := 0
  lastStep : Nat := 0
  promptAddr : Nat := 0
  pageList : Nat := 0
  groups : List Nat := []
  lastToken : BitVec 32 := 0
  homeChip : Nat := 0
  promptHold : Bool := false
  vector : Nat := 0
  scoreAddr : BitVec 64 := 0
  /-- R434: the slot was FINISHED or CANCELLED at the latest commit point, and is reclaimed after the acknowledgement. -/
  reclaim : Bool := false
  /-- R434: decode pool: a cancelled slot whose SHIP_DONE has not arrived. -/
  awaitShip : Bool := false
  /-- R519: why the slot finished (255: no completion is written, R437), and the chip and slot that took it over (R436). -/
  reason : Nat := 0
  takenBy : Nat × Nat := (0, 0)
  /-- R436: decode pool: the first token, until it reaches the host. -/
  first : Option (BitVec 32) := none
  deriving DecidableEq, Repr

/-- R518: a completion entry. -/
structure Completion where
  typ : Nat
  id : BitVec 64 := 0
  step : BitVec 64 := 0
  firstTix : BitVec 32 := 0xFFFFFFFF
  firstPos : BitVec 32 := 0
  nent : Nat := 0
  slot : Nat := 0
  status : Nat := 0
  code : Nat := 0
  decode : Bool := false
  scores : Bool := false
  final : Bool := false
  ntok : Nat := 0
  payload : List Byte := []
  vector : Nat := 0
  /-- R519, R520: the step with whose release the entry is written; 0 for no release. -/
  release : Nat := 0
  /-- R516, R519: scores to write before the entry, and where. -/
  scoreAddr : Nat := 0
  scoreBytes : List Byte := []
  deriving DecidableEq, Repr

/-- R417, R432: a cancel read and not yet answered. -/
structure CancelReq where
  tag : BitVec 64
  vector : Nat
  slot : Nat
  status : Nat
  /-- The mirror of a step boundary carries the resolved cancel (R517). -/
  carried : Bool := false
  deriving DecidableEq, Repr

/-- R418: how far a wing's step boundary has come: the commit point, the mirror sent, its acknowledgement in, the freeze, item 4
complete (`acked`), and the step reported. -/
structure Boundary where
  committed : Bool := false
  mirrorSent : Bool := false
  ackIn : Bool := false
  frozen : Bool := false
  acked : Bool := false
  reported : Bool := false
  deriving DecidableEq, Repr

/-- R459, R463 to R466: a ledger block and its record chain values. -/
structure LedgerBlock where
  number : Nat
  firstStep : Nat
  lastStep : Nat
  state : Nat
  prevChain : BitVec 384
  finalChain : BitVec 384
  keySlot : Nat
  signature : BitVec 768
  deriving DecidableEq, Repr

/-- R465: a closed block of an earlier job that awaits its signature: number, key slot, header as it was closed, and the HBM offset of
the header. -/
structure OldBlock where
  number : Nat
  keySlot : Nat
  head : List Byte
  place : Nat
  deriving DecidableEq, Repr

/-- R436, R437: a hand-off in progress on the prefill side: the slot, how often it has been offered, the reply. -/
structure Handoff where
  slot : Nat
  reqId : BitVec 64
  tries : Nat
  reply : Option (BitVec 16 × BitVec 14 × List Nat) := none
  cancelled : Bool := false
  /-- The latest offer was refused: the next decode module is offered at the next boundary. -/
  refused : Bool := false
  deriving DecidableEq, Repr

/-- R245, R517: a PUBLISH_TABLE whose rows have not all landed yet. -/
structure Publication where
  vector : Nat
  tag : BitVec 64
  set : Nat
  version : BitVec 32
  minStep : Nat
  data : List Byte
  deriving DecidableEq, Repr

/-- R412, R418, R431, R436, R517: what the wing's engine has sent to other modules, oldest first. -/
inductive EngineMsg where
  | part (q step : Nat) (entries : List (Nat × Entry)) (clear : List (BitVec 14)) (pages : List (Nat × List Nat))
  | cancel (slot : Nat)
  | handoff (chip : Nat) (a : HandoffArgs) (tries : Nat)
  | handoffReply (reqId : BitVec 64) (status chip slot : Nat) (groups : List Nat)
  | shipDone (slot chip otherSlot : Nat) (cancelled : Bool)
  | table (set : Nat) (data : List Byte)
  | arm (set swapStep version : Nat)
  deriving DecidableEq, Repr

/-- R389, R390, R393, R394: the timebase unit of a wing. -/
structure TimeUnit where
  echo : Sparse (Nat × Nat) := []
  inBound : Nat := 0
  /-- R390: what is still to slew, in units of 1/16 ns, and timebase cycles since the last unit of it. -/
  slew : Int := 0
  slewTick : Nat := 0
  doneFrom : Sparse Nat := []
  reported : Option Nat := none
  go : Option (Nat × Nat) := none
  deriving DecidableEq, Repr

/-- A wing (R24): everything outside its registers and memory. -/
structure Wing where
  /-- R305: poisoned granules. -/
  poison : List Nat := []
  /-- R9, R27, R185: reports to the hawk cores of dropped writes, oldest first: the status, and the offset that the write
  named. -/
  reports : List (Nat × Nat) := []
  /-- R292: banks in refresh, key 256 x stack + bank. -/
  refreshing : List Nat := []
  /-- R393, R98: tiles that have issued END of the present step. -/
  endedTiles : List Nat := []
  /-- R320 to R329: ports. -/
  ports : Sparse Port := []
  /-- R369: packets on the crossing link from this wing's router. -/
  crossing : List FPacket := []
  /-- R342: strict streams, key 16 x chip + channel. -/
  strict : Sparse Strict := []
  /-- R344 to R348: flag streams at this wing as source and as destination. -/
  flagTx : List FlagTx := []
  flagRx : List FlagRx := []
  /-- R331: packets delivered to the hawk cores, and row-port packets toward the fabric that wait (R343, R347). -/
  toHawk : List FPacket := []
  fabricWait : List FPacket := []
  /-- R345: packets handed to the HBM switch and not yet applied. -/
  toHbm : List FPacket := []
  /-- R342, R348, R352, R382: packets held in their input buffers at their destination, each with the port it came in on; port 9
  is the wing itself. -/
  heldIn : List (Nat × FPacket) := []
  /-- R346: verdicts on their way to the router. -/
  verdicts : List Verdict := []
  /-- R418: blocks of 512 bytes in regions of kinds 1, 2, 4 and 7 that have changed since the latest mirror. -/
  dirty : List Nat := []
  /-- R283, R305: status and bytes that the hawk cores got from their latest access. -/
  hawkStatus : Nat := 0
  hawkData : List Byte := []
  /-- R383: the valiant shift register. -/
  lfsr : BitVec 32 := 1
  /-- R386: samples since the last SWEEP, key 8 x output + bin. -/
  sweepBins : Sparse Nat := []
  /-- R389 to R394. -/
  time : TimeUnit := {}
  /-- R413: the request table; an unlisted slot is FREE. -/
  slots : Sparse Slot := []
  /-- R415: next admission sequence number. -/
  nextSeq : Nat := 0
  /-- R421: the token list of the present step and of the coming one, by token index. -/
  batch : Sparse Entry := []
  nextBatch : Sparse Entry := []
  /-- R418: intake parts held for the coming step. -/
  parts : List Nat := []
  /-- R299: page groups that the coming step's slots may write. -/
  nextPages : List (Nat × List Nat) := []
  bnd : Boundary := {}
  /-- R417: cancels. -/
  cancels : List CancelReq := []
  /-- R433: cancels that wait for the commit lock: vector, tag, REQ_ID. -/
  lateCancels : List (Nat × BitVec 64 × BitVec 64) := []
  /-- R434: slots whose cancel bits the next batch message clears. -/
  clearNext : List (BitVec 14) := []
  /-- R519: step completions made at the commit, waiting for the acknowledgement. -/
  stepCompl : List Completion := []
  handoffs : List Handoff := []
  engineOut : List EngineMsg := []
  /-- R462 to R466. -/
  chain : BitVec 384 := 0
  blocks : List LedgerBlock := []
  /-- R465: closed blocks of an earlier job that await their signature. -/
  oldBlocks : List OldBlock := []
  /-- R459: the next record is the first after a restart. -/
  restarted : Bool := false
  /-- R246, R517: by set, the version of the table in force and of the one published last. -/
  tableVer : Sparse Nat := []
  tablePend : Sparse Nat := []
  /-- R245, R517: publications whose rows have not all landed. -/
  pubs : List Publication := []
  /-- R411: on wing 1, decisions about slots that wait for its commit; on wing 0, slots decided on after wing 1's commit and before
  its own. -/
  decided : List (Nat × Slot) := []
  late : List Nat := []
  deriving DecidableEq, Repr

/-! ### The module -/

/-- R522: a vector of the MSI-X table: masked, pending, entries since its last message, messages sent. -/
structure MsixVector where
  masked : Bool := true
  pending : Bool := false
  count : Nat := 0
  sent : Nat := 0
  deriving DecidableEq, Repr

/-- R502 to R534, R574: the host port, its rings and the sideband. -/
structure HostPort where
  /-- Bytes that the module has written into host memory (R512, R518). -/
  hostMem : List Host.Cell := []
  /-- Completions waiting for room, in order (R520), and the events among them are the ones of TYPE 2. -/
  waiting : List Completion := []
  /-- Completions written and not yet consumed, oldest first: index and entry (R523). -/
  written : List (Nat × Completion) := []
  cplHead : Nat := 0
  /-- R418: the step whose completions are being released. -/
  releasing : Option Nat := none
  vectors : Sparse MsixVector := []
  /-- R571: the endpoint answers configuration requests; the latest one got Configuration Request Retry Status. -/
  configReady : Bool := false
  retryStatus : Bool := false
  perst : Bool := false
  /-- R503: the size of BAR2, as a power of two. -/
  barLog2 : Nat := 33
  /-- The answer of the latest read (BAR0, BAR2, mailbox, sideband), where it delivered data. -/
  answer : Option (List Byte) := none
  /-- R509: the latest read came back poisoned. -/
  answerPoisoned : Bool := false
  /-- R15, R21: register reads held until fuse and cfg fields load: wing, offset, bytes. -/
  heldReads : List (Fin 2 × Nat × Nat) := []
  /-- R524: MCTP endpoint ID; whether the endpoint answers; strap value it sampled. -/
  eid : Nat := 0
  mctpUp : Bool := false
  /-- R574: the SPDM responder: version agreed, algorithms agreed, and the latest response. -/
  spdmVersion : Bool := false
  spdmAlgos : Bool := false
  spdmResponse : List Byte := []
  spdmSignature : Option (BitVec 768) := none
  /-- R524: the FRU EEPROM. -/
  fru : List Host.Cell := []
  deriving DecidableEq, Repr

/-- R542 to R551: the power arbiter, by domain. -/
structure Power where
  requests : Sparse Nat := []
  releases : Sparse Nat := []
  reductions : Sparse (Option Nat) := []
  acked : List Nat := []
  lastServed : Nat := 49
  /-- R547: hottest junction reported, and bands at or above 115 °C. -/
  celsius : Sparse Nat := []
  /-- R549: gates shut, and the tiers powering up. -/
  gated : List Nat := []
  rising : List Nat := []
  deriving DecidableEq, Repr

/-- R580: an OTP log entry; `state` 0 pending, 1 done, 2 aborted. -/
structure OtpEntry where
  kind : Nat
  slot : Nat
  old : Nat
  new : Nat
  state : Nat
  deriving DecidableEq, Repr

/-- R566 to R596: the cocoon and the flash. -/
structure Cocoon where
  ownerHash : Sparse (BitVec 384) := []
  firmwareHash : BitVec 384 := 0
  otpLog : List OtpEntry := []
  nonce : Option (BitVec 256) := none
  draws : Nat := 0
  reseeds : Nat := 0
  weightKey : Option (BitVec 256) := none
  edgeKey : Sparse (Option (BitVec 256)) := []
  /-- R589: last counter sent and accepted, key 2 x wing + direction. -/
  edgeCtr : Sparse Nat := []
  /-- R569: the two banks of the flash. -/
  banks : Sparse (Option Chrysalis) := []
  instarA : Option Instar := none
  instarB : Option Instar := none
  inForce : Option Instar := none
  /-- R575: request buffer bytes, and the response. -/
  request : List Host.Cell := []
  response : List Byte := []
  /-- R572, R574: digest of the booted image. -/
  booted : Option (BitVec 384) := none
  /-- R465: closed blocks to sign: wing and block number. -/
  signQueue : List (Nat × Nat) := []
  deriving DecidableEq, Repr

/-- R622 to R642: the board side of the module. -/
structure Board where
  /-- R628: the auxiliary rail; R632: main power; the PWR_EN pin. -/
  aux : Bool := true
  mainOn : Bool := true
  pwrEn : Bool := true
  /-- R631: MOD_RST_N and SVC_RST_N are low; MOD_REFCLK is in range. -/
  modRst : Bool := false
  svcRst : Bool := false
  refclk : Bool := true
  /-- R634, R635: the latched cause (0 none, 1 UNDER_V, 2 OVER_V, 3 REG_FAULT, 4 THERMAL), and whether the power controller
  may start again. -/
  latch : Nat := 0
  mayStart : Bool := true
  /-- R623: the straps S. -/
  straps : Nat := 0
  /-- R626: FL_SEL_N is low; the flash's bus stands at the service connector. -/
  flSel : Bool := false
  flashOut : Bool := false
  /-- R570: the boot ROM has still to run after the latest reset; the hawk cores run the firmware. -/
  bootPending : Bool := true
  booted : Bool := false
  /-- R571: a warm reset found a job loaded, so it boots the bank booted before. -/
  keepBank : Bool := false
  /-- R567: the service connector's UART has reported a failed self-test. -/
  uartFail : Bool := false
  /-- R642: the cause of the reset in progress or last taken. -/
  cause : Nat := 0
  /-- R21: the fuse fields, and the cfg fields, are loaded. -/
  fusesLoaded : Bool := false
  cfgLoaded : Bool := false
  deriving DecidableEq, Repr

/-- R482, R495, R606: the imago that the loader has loaded or prepared. -/
structure Job where
  img : Option Imago := none
  deriving DecidableEq, Repr

/-- The state of the module. -/
structure State where
  /-- The commands that are waiting, first in, first out. -/
  pending : List Instr := []
  /-- R14: the register file, by BAR0 offset. -/
  regs : Sparse Word := []
  /-- R26: HBM and scratchpad bytes, at wing x 2^48 + offset. -/
  mem : List Host.Cell := []
  /-- Tiles, key 1024 x wing + logical tile. -/
  tiles : Sparse Tile := []
  wing0 : Wing := {}
  wing1 : Wing := {}
  host : HostPort := {}
  power : Power := {}
  cocoon : Cocoon := {}
  board : Board := {}
  job : Job := {}
  /-- The model's own counter of free values (log entry 5). -/
  freeTick : Nat := 0
  deriving DecidableEq, Repr

/-- The module right after a cold reset: registers at their cold values, memory with nothing listed, tiles and wings
idle, main power on and the internal reset just released, flash bank 0 holding a valid image (log entries 1 to 5). -/
def State.reset : State :=
  { cocoon := { banks := [(0, some { magicOk := true, keyHash := 0, sigOk := true, svn := 0, version := 0,
                                     length := 0, digest := 0 })] } }

end Sys2Proof.Machine
end

