-- ==== Sys2Proof/Machine/Ops.lean ====
section
/-!
DEFINITION. Named operations over the state: registers and their fields, memory, tiles, wings, free values, the
timing-dependent-choice counter, completions and events to the host, and the stop of a wing (R599).
-/
namespace Sys2Proof.Machine

/-- The outcome of a command. -/
abbrev Res := Host.Outcome State Fault Refusal

/-! ### Setters: every change of the state goes through one of these -/

def State.setPending (s : State) (x : List Instr) : State := { s with pending := x }
def State.setRegs (s : State) (x : Sparse Word) : State := { s with regs := x }
def State.setMem (s : State) (x : List Host.Cell) : State := { s with mem := x }
def State.setTiles (s : State) (x : Sparse Tile) : State := { s with tiles := x }
def State.setWing0 (s : State) (x : Wing) : State := { s with wing0 := x }
def State.setWing1 (s : State) (x : Wing) : State := { s with wing1 := x }
def State.setHost (s : State) (x : HostPort) : State := { s with host := x }
def State.setPower (s : State) (x : Power) : State := { s with power := x }
def State.setCocoon (s : State) (x : Cocoon) : State := { s with cocoon := x }
def State.setBoard (s : State) (x : Board) : State := { s with board := x }
def State.setJob (s : State) (x : Job) : State := { s with job := x }
def State.setFreeTick (s : State) (x : Nat) : State := { s with freeTick := x }

/-! ### Registers (R14, R504) -/

/-- The register at a BAR0 offset. -/
def State.reg (s : State) (a : Nat) : Word := sget resetVal s.regs a

def State.setReg (s : State) (a : Nat) (v : Word) : State := s.setRegs (sset resetVal s.regs a v)

/-- A field of a wing's register (`i` counts registers of one name). -/
def State.fld (s : State) (f : Fld) (w : Fin 2) (i : Nat := 0) : Nat := getBits (s.reg (f.at w i)) f.lo f.width

def State.setFld (s : State) (f : Fld) (w : Fin 2) (v : Nat) (i : Nat := 0) : State :=
  s.setReg (f.at w i) (setBits (s.reg (f.at w i)) f.lo f.width v)

/-- A one-bit field. -/
def State.bit (s : State) (f : Fld) (w : Fin 2) (i : Nat := 0) : Bool := s.fld f w i != 0

/-- A counter field, which stops at its largest value. -/
def State.addFld (s : State) (f : Fld) (w : Fin 2) (n : Nat) (i : Nat := 0) : State :=
  s.setFld f w (min (2 ^ f.width - 1) (s.fld f w i + n)) i

/-- A field of a register of a tile's block. -/
def State.tfld (s : State) (u : Site) (f : Fld) (i : Nat := 0) : Nat := getBits (s.reg (f.on u i)) f.lo f.width

def State.setTfld (s : State) (u : Site) (f : Fld) (v : Nat) (i : Nat := 0) : State :=
  s.setReg (f.on u i) (setBits (s.reg (f.on u i)) f.lo f.width v)

def State.tbit (s : State) (u : Site) (f : Fld) (i : Nat := 0) : Bool := s.tfld u f i != 0

def State.addTfld (s : State) (u : Site) (f : Fld) (n : Nat) (i : Nat := 0) : State :=
  s.setTfld u f (min (2 ^ f.width - 1) (s.tfld u f i + n)) i

/-! ### Memory (R26): HBM and scratchpad of both wings -/

/-- What a byte that nothing has written reads as (log entry 3: DESIGN CHOICE). -/
def memDefault (_ : Nat) : Byte := 0

/-- The byte at an address. -/
def memRead (m : List Host.Cell) (a : Nat) : Byte := sget memDefault m a

/-- The `n` bytes from an address. -/
def memRun (m : List Host.Cell) (a n : Nat) : List Byte :=
  let seg := m.filter (fun c => decide (a ≤ c.1) && decide (c.1 < a + n))
  (List.range n).map (fun i => memRead seg (a + i))

/-- The cells of a run of bytes that differ from what an unlisted byte reads as. -/
def cellsOf : Nat → List Byte → List Host.Cell
  | _, [] => []
  | a, b :: r => if b = 0 then cellsOf (a + 1) r else (a, b) :: cellsOf (a + 1) r

/-- Write a run of bytes. -/
def memWrite (m : List Host.Cell) (a : Nat) (bs : List Byte) : List Host.Cell :=
  m.filter (fun c => decide (c.1 < a)) ++ cellsOf a bs ++ m.filter (fun c => decide (a + bs.length ≤ c.1))

/-- The canonical form of a memory. -/
abbrev Memory.wf (m : List Host.Cell) : Prop := SparseWf memDefault m

/-- The key of an offset of a wing. -/
def wingAddr (w : Fin 2) (off : Nat) : Nat := w.val * 2 ^ 48 + off

def State.readRun (s : State) (w : Fin 2) (off n : Nat) : List Byte := memRun s.mem (wingAddr w off) n

def State.writeRun (s : State) (w : Fin 2) (off : Nat) (bs : List Byte) : State :=
  s.setMem (memWrite s.mem (wingAddr w off) bs)

/-- R26: the offset of a tile's scratchpad row. -/
def rowOffset (t r : Nat) : Nat := 0x8000000000 + t * 2 ^ 23 + r * 512

def State.readRow (s : State) (u : Site) (r : Nat) : List Byte := s.readRun u.wing (rowOffset u.tile.toNat r) 512

def State.writeRow (s : State) (u : Site) (r : Nat) (bs : List Byte) : State :=
  s.writeRun u.wing (rowOffset u.tile.toNat r) (padTo 512 bs)

/-! ### Tiles and wings -/

/-- The key of a tile. -/
def tileKey (u : Site) : Nat := 1024 * u.wing.val + u.tile.toNat

def State.tile (s : State) (u : Site) : Tile := sget (fun _ => ({} : Tile)) s.tiles (tileKey u)

def State.setTile (s : State) (u : Site) (t : Tile) : State :=
  s.setTiles (sset (fun _ => ({} : Tile)) s.tiles (tileKey u) t)

def State.wing (s : State) (w : Fin 2) : Wing := if w = 0 then s.wing0 else s.wing1

def State.setWing (s : State) (w : Fin 2) (x : Wing) : State := if w = 0 then s.setWing0 x else s.setWing1 x

def bothWings : List (Fin 2) := [0, 1]

/-- The other wing of the module. -/
def otherWing (w : Fin 2) : Fin 2 := if w = 0 then 1 else 0

/-- R24: the wing's chip number. -/
def State.chip (s : State) (w : Fin 2) : Nat := s.fld Reg.FB_CHIP_ID.CHIP w

/-- R5, R6: the wing's grade is LK9-544. -/
def State.is544 (s : State) (w : Fin 2) : Bool := s.fld Reg.CF_WING_ID.GRADE w == 2

/-- R26: logical row and column of a tile number. -/
def tileRow (t : Nat) : Nat := t / 24
def tileCol (t : Nat) : Nat := t % 24

/-- R6: the tile is one of the 32 that grade LK9-544 disables. -/
def disabledOn544 (t : Nat) : Bool :=
  (tileRow t ≤ 1 || tileRow t == 22 || tileRow t == 23) && (tileCol t ≤ 3 || 20 ≤ tileCol t)

/-- R6, R27: the number names a logical tile of the wing that is not disabled. -/
def State.tileLive (s : State) (w : Fin 2) (t : Nat) : Bool :=
  decide (t < 576) && !(s.is544 w && disabledOn544 t)

/-- A free value (log entry 5): the opaque constant applied to the model's own counter, which advances. -/
def State.free (s : State) : Word × State := (Config.freeWord s.freeTick, s.setFreeTick (s.freeTick + 1))

/-- R457, R474, R475: one timing-dependent choice counted on a wing. -/
def State.countTdc (s : State) (w : Fin 2) (tie : Bool) : State :=
  if tie then
    let s := s.addFld Reg.AU_TDC.PENDING w 1
    s.setFld Reg.AU_TDC_TOTAL.TOTAL w (s.fld Reg.AU_TDC_TOTAL.TOTAL w + 1)
  else s

/-! ### Status codes (R597) -/

def stOk : Nat := 0x00
def stTimeout : Nat := 0x01
def stCancelled : Nat := 0x02
def stAlreadyComplete : Nat := 0x03
def stWindowViolation : Nat := 0x04
def stEcc : Nat := 0x05
def stLinkLost : Nat := 0x06
def stTagFault : Nat := 0x07
def stProfileMismatch : Nat := 0x08
def stBudgetRefused : Nat := 0x09
def stPlanMismatch : Nat := 0x0A
def stAuthFailed : Nat := 0x0B
def stSafeMode : Nat := 0x0C

/-! ### Host completions, events and interrupts (R512, R518 to R522) -/

/-- R522: a vector sends its message now, or holds it pending while masked. -/
def MsixVector.send (v : MsixVector) : MsixVector :=
  if v.masked then { v with pending := true, count := 0 } else { v with sent := v.sent + 1, count := 0 }

def HostPort.vector (h : HostPort) (n : Nat) : MsixVector := sget (fun _ => {}) h.vectors n

def HostPort.setVector (h : HostPort) (n : Nat) (v : MsixVector) : HostPort :=
  { h with vectors := sset (fun _ => {}) h.vectors n v }

/-- R522: the messages that one written entry brings on its vector. -/
def State.signal (s : State) (n : Nat) : State :=
  let v := s.host.vector n
  if n < 2 then s.setHost (s.host.setVector n v.send)
  else
    let v := { v with count := v.count + 1 }
    let lim := max 1 (s.fld Reg.HI_MSIX_COAL.COUNT 0)
    if s.fld Reg.HI_MSIX_COAL.TIME_US 0 = 0 ∨ lim ≤ v.count then s.setHost (s.host.setVector n v.send)
    else s.setHost (s.host.setVector n v)

/-- R518: the 64 bytes of a completion entry, with the phase of its index. -/
def Completion.bytes (c : Completion) (phase : Nat) : List Byte :=
  leBytes 8 c.id.toNat ++ leBytes 8 c.step.toNat ++ leBytes 4 c.firstTix.toNat ++ leBytes 4 c.firstPos.toNat ++
  leBytes 2 c.nent ++ leBytes 2 c.slot ++ leBytes 1 c.typ ++ leBytes 1 c.status ++ leBytes 1 c.code ++
  leBytes 1 (phase + (if c.decode then 2 else 0) + (if c.scores then 4 else 0) + (if c.final then 8 else 0)
    + 16 * (c.ntok % 16)) ++ padTo 32 c.payload

/-- R512: the phase that index `i` of a ring of `size` entries carries. -/
def ringPhase (i size : Nat) : Nat := (i / size + 1) % 2

/-- R512, R518: one completion written at the tail of the ring. -/
def State.writeCompletion (s : State) (c : Completion) : State :=
  let i := s.fld Reg.HI_RING_STATUS.CPL_TAIL 0
  let size := 2 ^ s.fld Reg.HI_RING_CTL.CPL_LOG2 0
  let base := s.fld Reg.HI_CPL_RING_BASE.ADDR 0 / 4096 * 4096
  let s := s.setHost { s.host with
    hostMem := memWrite (memWrite s.host.hostMem c.scoreAddr c.scoreBytes) (base + 64 * (i % size))
      (c.bytes (ringPhase i size))
    written := s.host.written ++ [(i, c)] }
  (s.setFld Reg.HI_RING_STATUS.CPL_TAIL 0 ((i + 1) % 2 ^ 32)).signal c.vector

/-- R520: there is room for one more completion, and the rings run. -/
def State.cplRoom (s : State) : Bool :=
  s.bit Reg.HI_RING_CTL.ENABLE 0 &&
    decide ((s.fld Reg.HI_RING_STATUS.CPL_TAIL 0 + 2 ^ 32 - s.host.cplHead % 2 ^ 32) % 2 ^ 32
      < 2 ^ s.fld Reg.HI_RING_CTL.CPL_LOG2 0)

/-- R520: waiting completions written in order while there is room; `n` bounds how many. -/
def State.pumpN : Nat → State → State
  | 0, s => s
  | n + 1, s =>
    match s.host.waiting with
    | [] => s
    | c :: r => if s.cplRoom then State.pumpN n ((s.setHost { s.host with waiting := r }).writeCompletion c) else s

/-- R520: write what has room; CPL_FULL tells whether a release still waits. -/
def State.pump (s : State) : State :=
  let s := State.pumpN s.host.waiting.length s
  s.setFld Reg.HI_RING_CTL.CPL_FULL 0 (if s.host.waiting.any (fun c => decide (c.typ ≠ 2)) then 1 else 0)

/-- A completion is ready to be written. -/
def State.postCompletion (s : State) (c : Completion) : State :=
  (s.setHost { s.host with waiting := s.host.waiting ++ [c] }).pump

/-- R521: an event, on vector 0. -/
def State.event (s : State) (code status : Nat) (payload : List Byte) : State :=
  s.postCompletion { typ := 2, step := s.reg (Reg.TB_STEP.STEP.at 0 0), status := status, code := code,
                     payload := payload }

/-- R516, R517: a command completion. -/
def State.cmdCompletion (s : State) (vector opcode : Nat) (tag : BitVec 64) (status : Nat)
    (payload : List Byte := []) : State :=
  s.postCompletion { typ := 1, id := tag, status := status, code := opcode, payload := payload,
                     vector := if vector < 2 ∨ 63 < vector then 2 else vector }

/-! ### Ports and routing entries that a stop needs (R381, R599) -/

def Wing.port (x : Wing) (p : Nat) : Port := sget (fun _ => {}) x.ports p

def Wing.setPort (x : Wing) (p : Nat) (v : Port) : Wing := { x with ports := sset (fun _ => {}) x.ports p v }

/-- R381: the index of a chip's entry in a routing bank. -/
def routeIndex (chip : Nat) : Option Nat :=
  if chip < 0x1000 then some chip else if chip < 0x1100 then some (4096 + (chip - 0x1000)) else none

/-- R381: the entry of a chip in the bank in force: PORTS, LIVE, GROUP, DIST. -/
def State.route (s : State) (w : Fin 2) (chip : Nat) : Nat × Bool × Nat × Nat :=
  match routeIndex chip with
  | none => (0, false, 0, 0)
  | some i =>
    let v := if s.bit Reg.FB_ROUTE_CTL.ACTIVE w then s.reg (Reg.FB_ROUTE_BANK1.PORTS.at w i)
             else s.reg (Reg.FB_ROUTE_BANK0.PORTS.at w i)
    (getBits v 0 9, getBits v 9 1 != 0, getBits v 10 7, getBits v 17 2)

/-- R378, R399: the verdict on a port: 0 none, 1 use, 2 absent, 3 extra. -/
def State.verdictOf (s : State) (w : Fin 2) (p : Nat) : Nat := s.fld Reg.FB_PORT_VERDICT.VERDICT w / 4 ^ p % 4

/-! ### What a port sends (R323, R326, R334, R375) -/

/-- R331: replies, and COMPLETE. -/
def isReply (k : BitVec 4) : Bool := k == 4 || k == 6 || k == 8 || k == 0xD

/-- R334, R386: the virtual channel of a packet. -/
def vcOf (p : FPacket) : Nat :=
  if isReply p.kind || p.kind == 0xE then 1 else if p.vclass then (if p.vleg then 3 else 2) else 0

/-- R330: flits of a packet, the head flit included. -/
def flitsOf (p : FPacket) : Nat := p.nflits.toNat + 1

/-! ### Control records (R325, R375, R376) -/

/-- R375, R376: a record's bytes from 2 onward. -/
def helloBytes (h : Hello) : List Byte :=
  leBytes 8 h.serial.toNat ++ leBytes 1 (if h.wing then 1 else 0) ++ leBytes 1 h.port.toNat ++ leBytes 1 h.role.toNat ++
    leBytes 1 h.grade.toNat ++ leBytes 1 h.stepping.toNat ++ leBytes 1 h.version.toNat ++ leBytes 2 h.chip.toNat ++
    leBytes 6 0 ++ leBytes 8 h.plan.toNat

/-- R325, R375: the type of a record, the frame sequence that it names (its own frame's, `seq`, for the types of R375), and its
further bytes. -/
def controlParts (seq : BitVec 8) : Control → Nat × BitVec 8 × List Byte
  | .idle => (0, seq, [])
  | .ack n => (1, n, [])
  | .nak n => (2, n, [])
  | .poison n => (3, n, [])
  | .hello h => (4, seq, helloBytes h)
  | .sync t3 t2 t1 => (5, seq, leBytes 8 t3.toNat ++ leBytes 8 t2.toNat ++ leBytes 8 t1.toNat)
  | .delayReq t1 => (6, seq, leBytes 8 t1.toNat)
  | .stepDone n => (7, seq, leBytes 8 n.toNat)
  | .stepGo n t => (8, seq, leBytes 8 n.toNat ++ leBytes 8 t.toNat)
  | .stop epoch status chip => (9, seq, leBytes 1 epoch.toNat ++ leBytes 1 status.toNat ++ leBytes 2 chip.toNat)
  | .reserved => (255, seq, [])

/-- R323, R325: the 64 bytes of a record's flit. -/
def controlBytes (c : Control) (seq : BitVec 8) : List Byte :=
  let x := controlParts seq c
  padTo 64 (leBytes 1 x.1 ++ leBytes 1 x.2.1.toNat ++ x.2.2)

/-- A field of a record: `n` bytes at byte `off`, as `w` bits. -/
def recField (w : Nat) (b : List Byte) (off n : Nat) : BitVec w := BitVec.ofNat w (leNat ((b.drop off).take n))

/-- R376: the fields of a HELLO. -/
def helloOf (b : List Byte) : Hello :=
  { serial := recField 64 b 2 8, wing := recField 8 b 10 1 != 0, port := recField 3 b 11 1, role := recField 2 b 12 1
    grade := recField 8 b 13 1, stepping := recField 8 b 14 1, version := recField 8 b 15 1, chip := recField 16 b 16 2
    plan := recField 64 b 24 8 }

/-- R325, R375: the record that a flit holds; types 10 to 255 are reserved. -/
def controlOf (b : List Byte) : Control :=
  match (recField 8 b 0 1).toNat with
  | 0 => .idle
  | 1 => .ack (recField 8 b 1 1)
  | 2 => .nak (recField 8 b 1 1)
  | 3 => .poison (recField 8 b 1 1)
  | 4 => .hello (helloOf b)
  | 5 => .sync (recField 64 b 2 8) (recField 64 b 10 8) (recField 64 b 18 8)
  | 6 => .delayReq (recField 64 b 2 8)
  | 7 => .stepDone (recField 64 b 2 8)
  | 8 => .stepGo (recField 64 b 2 8) (recField 64 b 10 8)
  | 9 => .stop (recField 8 b 2 1) (recField 8 b 3 1) (recField 16 b 4 2)
  | _ => .reserved

/-! ### Sending (R323, R326, R335, R336) -/

/-- The frames that carry a packet; sequence and credits are filled in as they are sent. -/
def packetFrames (p : FPacket) : List Frame :=
  (List.range (flitsOf p)).map (fun i =>
    { seq := 0, vc := BitVec.ofNat 2 (vcOf p), tail := i == p.nflits.toNat, crVc := 0, crCount := 0
      head := if i = 0 then some p else none, ctrl := none })

/-- The frame of a port that carries a control record next. -/
def Port.controlFrame (q : Port) (c : Control) : Frame :=
  { seq := 0, vc := 0, tail := false, crVc := 0, crCount := 0, head := none, ctrl := some (controlBytes c q.txSeq) }

def Port.credit (q : Port) (v : Nat) : Nat := sget (fun _ => 0) q.credits v
def Port.owes (q : Port) (v : Nat) : Nat := sget (fun _ => 0) q.owed v

/-- R323: `n` flits have left the port's input buffer of a virtual channel; their credits go back. -/
def Port.creditBack (q : Port) (v n : Nat) : Port := { q with owed := sset (fun _ => 0) q.owed v (q.owes v + n) }

/-- R323, R326: a frame is sent: it takes the next sequence, returns credits, and stays in the replay buffer. -/
def Port.send (q : Port) (f : Frame) : Port :=
  let ret := (List.range 4).find? (fun v => decide (2 ≤ q.owes v))
  let v := ret.getD 0
  let n := if ret.isSome then min 3 (q.owes v / 2) else 0
  { q with
    owed := sset (fun _ => 0) q.owed v (q.owes v - 2 * n)
    txSeq := q.txSeq + 1
    replay := q.replay ++ [⟨{ f with seq := q.txSeq, crVc := BitVec.ofNat 2 v, crCount := BitVec.ofNat 2 n }, 0⟩] }

/-- R336: how long ago an input was served, on a ring of `n` whose last served one plus one is `last`: the one after it first. -/
def ringAge (n last x : Nat) : Nat := (x + n - last % n) % n

/-- R336: one waiting packet goes before another, on an output virtual channel: round-robin by input port, and within a port by
virtual channel; of one input, the earlier one. -/
def Port.before (q : Port) (v : Nat) (a b : Nat × FPacket) : Bool :=
  let turn (k : Nat) := sget (fun _ => 0) q.turn (16 * v + k)
  let pa := a.1 / 4
  let pb := b.1 / 4
  if pa = pb then decide (ringAge 4 (turn pa) (a.1 % 4) < ringAge 4 (turn pa) (b.1 % 4))
  else decide (ringAge 10 (turn 15) pa < ringAge 10 (turn 15) pb)

/-- R336: the packet that an output virtual channel serves next. -/
def Port.next (q : Port) (v : Nat) : Option (Nat × FPacket) :=
  (q.out.filter (fun e => vcOf e.2 == v)).foldl (fun best e =>
    match best with
    | none => some e
    | some x => if q.before v e x then some e else some x) none

/-- R335: the next packet of the first virtual channel whose next packet has credits and room for replay. -/
def Port.pick (q : Port) : Option (Nat × FPacket) :=
  (List.range 4).findSome? (fun v =>
    match q.next v with
    | some e => if flitsOf e.2 ≤ q.credit v ∧ q.replay.length + flitsOf e.2 ≤ 256 then some e else none
    | none => none)

/-- A packet's frames are sent and its credits spent; the output's turn moves on. -/
def Port.sendPacket (q : Port) (e : Nat × FPacket) : Port :=
  let v := vcOf e.2
  let turn := sset (fun _ => 0) (sset (fun _ => 0) q.turn (16 * v + 15) (e.1 / 4 + 1)) (16 * v + e.1 / 4) (e.1 % 4 + 1)
  let q := { q with out := q.out.erase e, turn := turn, credits := sset (fun _ => 0) q.credits v (q.credit v - flitsOf e.2) }
  (packetFrames e.2).foldl Port.send q

/-- R323, R335: a packet has left the input that held it (4 x port + virtual channel). -/
def Wing.leaveInput (x : Wing) (input n : Nat) : Wing :=
  if input / 4 < 8 then
    { x with ports := sset (fun _ => {}) x.ports (input / 4) ((sget (fun _ => {}) x.ports (input / 4)).creditBack (input % 4) n) }
  else x

/-- R335, R375: what a port sends next: a waiting control record, or a packet when the port carries traffic. -/
def Wing.pumpOnce (carries : Bool) (p : Nat) (x : Wing) : Option Wing :=
  let q := sget (fun _ => {}) x.ports p
  let put (q : Port) : Wing := { x with ports := sset (fun _ => {}) x.ports p q }
  if 256 ≤ q.replay.length then none
  else match q.control with
    | c :: r => some (put (({ q with control := r }).send (q.controlFrame c)))
    | [] =>
      if !carries then none
      else match q.pick with
        | some e => some ((put (q.sendPacket e)).leaveInput e.1 (flitsOf e.2))
        | none => none

/-- What waits at a port is sent, as far as the replay buffer and the credits allow; `n` bounds how much. -/
def Wing.pumpN (carries : Bool) (p : Nat) : Nat → Wing → Wing
  | 0, x => x
  | n + 1, x =>
    match x.pumpOnce carries p with
    | some y => Wing.pumpN carries p n y
    | none => x

/-- R377: the port is trained. -/
def State.trained (s : State) (w : Fin 2) (p : Nat) : Bool :=
  decide (p < 8) && s.fld Reg.FB_PORT_STATUS.LANES_OK w p == 15 &&
    decide (2 ≤ s.fld Reg.FB_PORT_STATUS.STATE w p) && decide (s.fld Reg.FB_PORT_STATUS.STATE w p ≤ 4)

/-- R374, R378, R380: the port carries every class that its role permits. -/
def State.carries (s : State) (w : Fin 2) (p : Nat) : Bool :=
  s.trained w p && s.fld Reg.FB_PORT_STATUS.STATE w p == 2 && s.verdictOf w p == 1 && s.chip w != 0xFFFF &&
    !((s.wing w).port p).controlOnly

/-- What waits at a port is sent. -/
def State.pumpPort (s : State) (w : Fin 2) (p : Nat) : State :=
  if s.trained w p then
    let x := s.wing w
    let q := x.port p
    s.setWing w (Wing.pumpN (s.carries w p) p (q.control.length + q.out.length) x)
  else s

/-- A control record is sent in the next free frame of a port (R375); port 8 is the crossing link. -/
def State.sendControl (s : State) (w : Fin 2) (p : Nat) (c : Control) : State :=
  let x := s.wing w
  let q := x.port p
  (s.setWing w (x.setPort p { q with control := q.control ++ [c] })).pumpPort w p

/-! ### Power (R23, R631, R637) -/

/-- R631: the internal cold reset is held. -/
def Board.held (b : Board) : Bool := !b.mainOn || b.modRst || b.svcRst || !b.refclk

/-- R23, R637: the module has power and its internal reset is released: its logic runs. -/
def State.up (s : State) : Bool := !s.board.held

/-- R23, R637: without power, or in the internal reset, nothing answers a command of the module's logic. -/
def State.whenUp (s t : State) : State := if s.up then t else s

/-! ### Reports to the hawk cores (R9, R27, R185) -/

/-- A dropped write is reported to the wing's hawk cores with the offset that it named. -/
def State.report (s : State) (w : Fin 2) (status off : Nat) : State :=
  let x := s.wing w
  s.setWing w { x with reports := x.reports ++ [(status, off)] }

/-! ### Stopping a wing (R599) -/

/-- Whether a BAR0 offset is `TC_RUN` of a tile of the wing. -/
def isTcRun (w : Fin 2) (a : Nat) : Bool :=
  a / 0x2000000 == w.val && decide (0x1000000 ≤ a % 0x2000000) && decide (a % 0x2000000 < 0x1800000) &&
    a % 0x2000 == 8

/-- Every listed value replaced by a function of key and value, in canonical form again. -/
def smap {α : Type} [DecidableEq α] (d : Nat → α) (f : Nat → α → α) (l : Sparse α) : Sparse α :=
  (l.map (fun e => (e.1, f e.1 e.2))).filter (fun e => decide (e.2 ≠ d e.1))

/-- R127: whether a BAR0 offset is `TC_WAIT_STATE` of a tile of the wing. -/
def isTcWait (w : Fin 2) (a : Nat) : Bool :=
  a / 0x2000000 == w.val && decide (0x1000000 ≤ a % 0x2000000) && decide (a % 0x2000000 < 0x1800000) &&
    a % 0x2000 == 0x20

/-- R599 step 1: `TC_RUN.RUN` clears on every tile of the wing, and no bundle of it waits any more (R127). -/
def State.clearRun (s : State) (w : Fin 2) : State :=
  s.setRegs (smap resetVal (fun a v => if isTcRun w a then setBits v 0 1 0 else if isTcWait w a then 0 else v) s.regs)

/-- R601: the register that also records a stop of a source. -/
def State.sourceWord (s : State) (w : Fin 2) (status source locus : Nat) : Word :=
  let u : Site := ⟨w, BitVec.ofNat 10 locus⟩
  match source with
  | 0 => if status = stEcc then s.reg (Reg.SP_ECC_STATUS.CORRECTED.on u 0) else s.reg (Reg.TC_FAULT.VALID.on u 0)
  | 1 => s.reg (Reg.MX_ROUTER_STATUS.CORRECTED.on u 0)
  | 2 => s.reg (Reg.MX_BRIDGE_STATUS.LINK_OK.at w 0)
  | 3 =>
    if status = stEcc then s.reg (Reg.CM_ECC_UE.VALID.at w 0)
    else if status = stLinkLost then s.reg (Reg.CM_STATUS.TRAINED.at w 0)
    else if status = stWindowViolation then s.reg (Reg.CM_VIOL.VALID.at w 0)
    else 0
  | 4 => s.reg (Reg.FB_PORT_STATUS.STATE.at w (locus % 8))
  | 5 => s.reg (Reg.FB_ORDER_STATUS.OPEN_MSGS.at w 0)
  | 6 => s.reg (Reg.SV_COMMITTED.STEP.at w 0)
  | _ => 0

/-- R599 step 3, R617: the stop record, when it holds none. -/
def State.recordStop (s : State) (w : Fin 2) (status source locus chip : Nat) : State :=
  if s.bit Reg.CF_STOP_RECORD0.VALID w then s
  else
    let s := s.setReg (Reg.CF_STOP_RECORD0.VALID.at w 0) (BitVec.ofNat 64
      (1 + status % 256 * 2 + source % 16 * 2 ^ 9 + locus % 2 ^ 16 * 2 ^ 13 + chip % 2 ^ 16 * 2 ^ 29))
    let s := s.setReg (Reg.CF_STOP_RECORD1.TIME.at w 0) (s.reg (Reg.TB_TIME.TIME.at w 0))
    s.setReg (Reg.CF_STOP_RECORD2.STEP.at w 0) (s.reg (Reg.TB_STEP.STEP.at w 0))

/-- R599 step 6: the ports on which the STOP record goes out. -/
def State.stopPorts (s : State) (w : Fin 2) : List Nat :=
  (List.range 8).filter (fun p =>
    s.fld Reg.FB_PORT_STATUS.STATE w p == 2 && s.verdictOf w p == 1 &&
      (s.route w (s.fld Reg.FB_NBR1.CHIP w p)).2.1)

/-- R365: `FB_ORDER_STATUS` follows the router's state. -/
def State.refreshOrder (s : State) (w : Fin 2) : State :=
  let x := s.wing w
  let early := (x.strict.map (fun e => (e.2.early.map flitsOf).sum)).sum
  let s := s.setFld Reg.FB_ORDER_STATUS.OPEN_MSGS w x.flagRx.length
  let s := s.setFld Reg.FB_ORDER_STATUS.REORDER_FLITS w early
  s.setFld Reg.FB_ORDER_STATUS.HELD_FLAGS w (x.flagRx.countP (fun m => m.held.isSome))

/-- R333, R364: a late packet dropped. -/
def State.lateDrop (s : State) (w : Fin 2) : State := s.addFld Reg.FB_DROP_COUNT.LATE w 1

/-- R599: a job stands stopped on the wing: its imago is still there, and LOADED is 0. -/
def State.jobStopped (s : State) (w : Fin 2) : Bool := s.job.img.isSome && !s.bit Reg.FB_JOB.LOADED w

/-- R333, R599: the packets of the stopped job that the wing's router holds are dropped and counted, and leave their buffers. -/
def State.dropQueued (s : State) (w : Fin 2) : State :=
  let x := s.wing w
  let n := (x.ports.map (fun e => e.2.out.length)).sum + x.crossing.length + x.fabricWait.length + x.heldIn.length +
    (x.strict.map (fun e => e.2.early.length)).sum + x.flagRx.countP (fun m => m.held.isSome)
  let left := (x.ports.flatMap (fun e => e.2.out)) ++ x.heldIn.map (fun e => (4 * e.1 + vcOf e.2, e.2))
  let x := left.foldl (fun x e => x.leaveInput e.1 (flitsOf e.2)) x
  ((s.setWing w { x with
    ports := smap (fun _ => {}) (fun _ q => { q with out := [] }) x.ports
    crossing := [], fabricWait := [], heldIn := [], strict := [], flagTx := [], flagRx := [], verdicts := [] }).addFld
      Reg.FB_DROP_COUNT.LATE w n).refreshOrder w

/-- R599: a unit of the wing meets a status that stops a job. Without a loaded job, only the wing's tiles stop (log
entry 10). `chip` is the originating chip. -/
def State.stopWing (s : State) (w : Fin 2) (status source locus chip : Nat) : State :=
  let s := s.clearRun w
  if s.bit Reg.FB_JOB.LOADED w then
    let epoch := s.fld Reg.FB_JOB.EPOCH w
    let s := (s.setFld Reg.FB_JOB.LOADED w 0).dropQueued w
    let s := s.recordStop w status source locus chip
    let s := s.event 1 status (leBytes 2 chip ++ List.replicate 6 0 ++ leBytes 8 (s.sourceWord w status source locus).toNat)
    (s.stopPorts w).foldl (fun s p => s.sendControl w p
      (.stop (BitVec.ofNat 8 epoch) (BitVec.ofNat 8 status) (BitVec.ofNat 16 chip))) s
  else s

/-- A stop that one of the wing's own units meets. -/
def State.stopHere (s : State) (w : Fin 2) (status source locus : Nat) : State :=
  s.stopWing w status source locus (s.chip w)

end Sys2Proof.Machine
end

