-- ==== Sys2Proof/Machine/Streams.lean ====
section
/-!
DEFINITION. The streams of a wing's fabric router as its sources see them: strict and flag streams (R342 to R348), and the
members of a multicast group (R350).
-/
namespace Sys2Proof.Machine

/-- R344: kinds whose packets form messages: writes, flag operations and HBM writes, whose units give verdicts (log entry 23). -/
def ordered (k : BitVec 4) : Bool := k == 0 || k == 1 || k == 2 || k == 0xB || k == 0xC

/-- R342, R344: kinds that belong to the streams of a channel; on a strict channel (`flag` false) read requests as well (log
entry 23). -/
def inStream (flag : Bool) (k : BitVec 4) : Bool := ordered k || (!flag && (k == 3 || k == 7))

/-- The key of a strict stream. -/
def strictKey (chip : Nat) (chan : Nat) : Nat := 16 * chip + chan

def Wing.strictOf (x : Wing) (chip chan : Nat) : Strict := sget (fun _ => {}) x.strict (strictKey chip chan)

def Wing.setStrict (x : Wing) (chip chan : Nat) (v : Strict) : Wing :=
  { x with strict := sset (fun _ => {}) x.strict (strictKey chip chan) v }

/-- R344: the packet belongs to the stream. -/
def FlagTx.holds (f : FlagTx) (p : FPacket) : Bool :=
  f.chip == p.dstChip && f.dstKind == p.dstKind && f.dstTile == p.dstTile && f.chan == p.chan

def Wing.flagTxOf (x : Wing) (p : FPacket) : FlagTx :=
  (x.flagTx.find? (·.holds p)).getD
    { chip := p.dstChip, dstKind := p.dstKind, dstTile := p.dstTile, chan := p.chan, msg := 0, sent := 0, openMsgs := [] }

def Wing.setFlagTx (x : Wing) (p : FPacket) (f : FlagTx) : Wing :=
  { x with flagTx := x.flagTx.filter (fun g => !g.holds p) ++ [f] }

/-- R361: the channel is a flag channel. -/
def State.flagChan (s : State) (w : Fin 2) (c : Nat) : Bool := (s.fld Reg.FB_CHAN_CFG.ORDER w).testBit c

/-- R343, R347: the stream of the packet has no room for `n` packets like it. -/
def State.streamFull (s : State) (w : Fin 2) (p : FPacket) (n : Nat) : Bool :=
  let x := s.wing w
  inStream (s.flagChan w p.chan.toNat) p.kind &&
    (if s.flagChan w p.chan.toNat then p.flag && decide (8 ≤ (x.flagTxOf p).openMsgs.length)
     else decide (32 < (x.strictOf p.dstChip.toNat p.chan.toNat).unacked + n))

/-- R350: the members of multicast group `n`. -/
def State.mcastMembers (s : State) (w : Fin 2) (n : Nat) : Option (List Nat) :=
  let k := s.fld Reg.FB_MCAST.COUNT w n
  if s.bit Reg.FB_MCAST.VALID w n ∧ k ≠ 0 then
    some ([s.fld Reg.FB_MCAST.CHIP_A w n, s.fld Reg.FB_MCAST.CHIP_B w n, s.fld Reg.FB_MCAST.CHIP_C w n].take k)
  else none

/-- R343, R347: a tile's packet, or `n` of them, would exceed what its stream may have outstanding; toward a multicast
group, any member's stream counts. -/
def State.fabricFull (s : State) (w : Fin 2) (kind chip tile : Nat) (chan : BitVec 4) (flag : Bool) (n : Nat) : Bool :=
  let full (c : Nat) := s.streamFull w { kind := BitVec.ofNat 4 kind, chan := chan, flag := flag
                                         dstChip := BitVec.ofNat 16 c, dstTile := BitVec.ofNat 10 tile } n
  if chip = s.chip 0 ∨ chip = s.chip 1 then false
  else if 0xF000 ≤ chip ∧ chip < 0xF010 then ((s.mcastMembers w (chip - 0xF000)).getD []).any full
  else full chip

end Sys2Proof.Machine
end

