-- ==== Sys2Proof/Machine/Flags.lean ====
section
/-!
DEFINITION. The numeric flags and the saturation counter of a tile (R59 to R61, R71 to R74), and the flag words of its
router (R270, R271).
-/
namespace Sys2Proof.Machine

/-- R72: OVER follows COUNT and LIMIT. -/
def State.refreshOver (s : State) (u : Site) : State :=
  s.setTfld u Reg.TC_SAT_COUNT.OVER
    (if s.tfld u Reg.TC_SAT_CTL.LIMIT < s.tfld u Reg.TC_SAT_COUNT.COUNT then 1 else 0)

/-- R60, R71: the events of an operation whose bundle issued at beat `iss`: flags are set, and saturation events count
unless a later bundle has cleared the counter. -/
def State.addEv (s : State) (u : Site) (iss : Nat) (e : Ev) : State :=
  if e = Ev.none then s
  else
    let a := Reg.TC_NUM_FLAGS.NV.on u 0
    let s := s.setReg a (s.reg a ||| BitVec.ofNat 64 (e.flags % 256))
    if e.sat = 0 ∨ iss < (s.tile u).satClear then s
    else (s.addTfld u Reg.TC_SAT_COUNT.COUNT e.sat).refreshOver u

/-- R60: a clear removes the events of every bundle issued before beat `b` and of no later one. -/
def State.clearSat (s : State) (u : Site) (b : Nat) : State :=
  ((s.setTile u { s.tile u with satClear := b }).setTfld u Reg.TC_SAT_COUNT.COUNT 0).refreshOver u

/-- R270: the flag word. -/
def State.flagWord (s : State) (u : Site) (f : Nat) : Nat := s.tfld u Reg.MX_FLAG.VALUE f

/-- R111, R270: an update of a flag word: OP 0 sets, OP 1 adds modulo 2^32; no flag word of a disabled tile's router ever
changes (R9). -/
def State.flagUpdate (s : State) (u : Site) (f op v : Nat) : State :=
  if s.tileLive u.wing u.tile.toNat then
    s.setTfld u Reg.MX_FLAG.VALUE ((if op = 0 then v else s.flagWord u f + v) % 2 ^ 32) f
  else s

end Sys2Proof.Machine
end

