-- ==== Sys2Proof/Machine/Operands.lean ====
section
/-!
DEFINITION. The operands that the slots of a bundle share: handles (R168 to R172), address generators (R85 to R87), row
operands (R83, R84), scalar registers (R82), and global addresses (R26).
-/
namespace Sys2Proof.Machine

/-! ### Scalar and vector registers -/

/-- R82: s0 always reads 0. -/
def Tile.scalar (t : Tile) (r : Nat) : Word := if r = 0 then 0 else sget (fun _ => 0) t.scalars r

/-- R82: a write to s0 is discarded. -/
def Tile.setScalar (t : Tile) (r : Nat) (v : Word) : Tile :=
  if r = 0 then t else { t with scalars := sset (fun _ => 0) t.scalars r v }

/-- The 64 lanes of a vector register. -/
def Tile.vector (t : Tile) (r : Nat) : List Lane := (List.range 64).map (fun l => sget (fun _ => 0) t.vectors (64 * r + l))

def Tile.setVector (t : Tile) (r : Nat) (ls : List Lane) : Tile :=
  { t with vectors := (List.range 64).foldl (fun m l => sset (fun _ => 0) m (64 * r + l) (ls.getD l 0)) t.vectors }

/-- A byte of the exponent staging register. -/
def Tile.expByte (t : Tile) (i : Nat) : Byte := sget (fun _ => 0) t.expReg i

def Tile.setExpByte (t : Tile) (i : Nat) (b : Byte) : Tile := { t with expReg := sset (fun _ => 0) t.expReg i b }

/-! ### Handles -/

/-- A handle as the table holds it (R196). -/
structure Handle where
  base : Nat
  rows : Nat
  mode : Nat
  reads : Nat
  stepclr : Bool
  owner : Nat
  valid : Bool
  deriving DecidableEq, Repr

/-- R169, R172, R196: a handle is valid when VALID is 1, its mode and owner are not reserved, and its rows end at or
below row 16,383. -/
def handleOfWord (v : Word) : Handle :=
  let base := getBits v 0 14
  let rows := getBits v 14 14 + 1
  { base := base, rows := rows, mode := getBits v 28 2, reads := getBits v 30 4 + 1, stepclr := getBits v 34 1 != 0,
    owner := getBits v 35 2
    valid := getBits v 37 1 != 0 && decide (getBits v 28 2 ≠ 3) && decide (getBits v 35 2 ≤ 1) &&
      decide (base + rows ≤ 16384) }

/-- Handle `h` of a tile. -/
def State.handle (s : State) (u : Site) (h : Nat) : Handle := handleOfWord (s.reg (Reg.SP_HANDLE.BASE.on u h))

/-- R84, R172: the tile's program may use the handle. -/
def Handle.usable (h : Handle) : Bool := h.valid && decide (h.owner = 0)

/-- R171: the lowest-numbered valid handle whose rows contain a row. -/
def State.handleOf (s : State) (u : Site) (row : Nat) : Option Nat :=
  (List.range 256).find? (fun h =>
    let d := s.handle u h
    d.valid && decide (d.base ≤ row) && decide (row < d.base + d.rows))

/-! ### Address generators (R85, R86) -/

/-- The configuration of a generator. -/
structure Gen where
  base : Nat
  n : List Nat
  st : List Int
  deriving DecidableEq, Repr

def State.gen (s : State) (u : Site) (g : Nat) : Gen :=
  let w (k : Nat) := s.reg (tileAddr u (0x200 + 0x20 * g + 8 * k))
  { base := getBits (w 0) 0 20
    n := [getBits (w 1) 0 16, getBits (w 1) 16 16, getBits (w 1) 32 16, getBits (w 1) 48 16]
    st := [signedOf 32 (getBits (w 2) 0 32), signedOf 32 (getBits (w 2) 32 32),
           signedOf 32 (getBits (w 3) 0 32), signedOf 32 (getBits (w 3) 32 32)] }

/-- The four counters of a generator. -/
def Tile.counters (t : Tile) (g : Nat) : List Nat := (List.range 4).map (fun i => sget (fun _ => 0) t.gens (4 * g + i))

def Tile.setCounters (t : Tile) (g : Nat) (c : List Nat) : Tile :=
  { t with gens := (List.range 4).foldl (fun m i => sset (fun _ => 0) m (4 * g + i) (c.getD i 0)) t.gens }

/-- R86: the output for given counters. -/
def Gen.out (g : Gen) (c : List Nat) : Nat :=
  (((g.base : Int) + ((c.zip g.st).foldl (fun (a : Int) (p : Nat × Int) => a + (p.1 : Int) * p.2) 0)) % (2 ^ 20 : Int)).toNat

/-- R86: one advance of the loop nest. -/
def advanceNest : List Nat → List Nat → List Nat
  | [], _ => []
  | i :: r, ns => if i + 1 ≤ ns.headD 0 then (i + 1) :: r else 0 :: advanceNest r ns.tail

/-- `k` advances. -/
def advanceBy (ns : List Nat) : Nat → List Nat → List Nat
  | 0, c => c
  | k + 1, c => advanceBy ns k (advanceNest c ns)

/-- R83: the generator that the operand names. -/
def rowGen (r : RowOp) : Nat := r.index.toNat % 8

/-- R83: a row operand of KIND 0 with a nonzero bit in INDEX [14:12] is a fault of cause 1. -/
def rowBadIndex (r : RowOp) : Bool := !r.kind && decide (8 ≤ r.index.toNat)

/-- R83: the word address W of a row operand. -/
def State.rowWord (s : State) (u : Site) (r : RowOp) : Nat :=
  let t := s.tile u
  if r.kind then (t.scalar r.index.toNat).toNat % 2 ^ 20
  else (s.gen u (rowGen r)).out (t.counters (rowGen r))

/-- R84: a row of scratchpad that a slot names: its handle and row number. -/
structure RowRef where
  handle : Nat
  row : Nat
  deriving DecidableEq, Repr

/-- R84: the rows from `first` of a handle, or none where the rule stops the job. -/
def State.rowsOf (s : State) (u : Site) (h first n : Nat) : Option (List RowRef) :=
  let d := s.handle u h
  if d.usable ∧ first + n ≤ d.rows then some ((List.range n).map (fun i => ⟨h, d.base + first + i⟩)) else none

/-- R84: the `n` rows a row operand names. -/
def State.operandRows (s : State) (u : Site) (r : RowOp) (n : Nat) : Option (List RowRef) :=
  s.rowsOf u r.handle.toNat (s.rowWord u r / 64) n

/-! ### Global addresses (R26) -/

/-- What an offset of a wing names. -/
inductive Place where
  | hbm
  | scratch (tile byte : Nat)
  | register (off : Nat)
  | mailbox (off : Nat)
  | unassigned
  deriving DecidableEq, Repr

/-- R26: the region of an offset. -/
def placeOf (off : Nat) : Place :=
  if off < 0x007800000000 then .hbm
  else if off < 0x008000000000 then .unassigned
  else if off < 0x008200000000 then .scratch (off / 2 ^ 23 % 1024) (off % 2 ^ 23)
  else if off < 0x00C000000000 then .unassigned
  else if off < 0x00E000000000 then .register (off % 0x002000000000)
  else if off < 0x010000000000 then .mailbox (off % 0x002000000000)
  else .unassigned

/-- The wing of this module whose chip number is `c`. -/
def State.wingOfChip (s : State) (c : Nat) : Option (Fin 2) :=
  if s.chip 0 = c then some 0 else if s.chip 1 = c then some 1 else none

/-- R562, R549: tier `t` of a wing is off or its gate has shut. -/
def State.tierDown (s : State) (w : Fin 2) (t : Nat) : Bool :=
  (s.fld Reg.PW_TIER_CTL.OFF 0).testBit (4 * w.val + t) || s.power.gated.contains (4 * w.val + t)

/-- R160: the row lies in a powered-down tier. -/
def State.rowDown (s : State) (u : Site) (row : Nat) : Bool := s.tierDown u.wing (row / 4096)

/-! ### Latencies (R80, R487, R488) -/

/-- R487: the latency of a class in a profile. -/
def profileLat (profile cls : Nat) : Nat :=
  let p1 := [1, 2, 2, 3, 4, 5, 6, 10, 4, 2]
  let p2 := [1, 2, 2, 3, 4, 4, 5, 8, 4, 2]
  if profile = 2 then p2.getD cls 0 else p1.getD cls 0

/-- R488: results become visible at the latency of the profile in force; no unit is faster than its native latency. -/
def State.lat (s : State) (w : Fin 2) (cls : Nat) : Nat :=
  max (profileLat (s.fld Reg.CF_PROFILE.PROFILE w) cls) (getBits (s.reg (Reg.CF_UNIT_LAT.LAT_0.at w 0)) (4 * cls) 4)

end Sys2Proof.Machine
end

