-- ==== Sys2Proof/Machine/Scratch.lean ====
section
/-!
DEFINITION. Scratchpad rows: tags, claims and locks (R166, R167, R141), counted reads (R170), the gather buffer (R175 to
R179), windows and admission (R180 to R188), and the faults of a tile (R121, R128, R164).
-/
namespace Sys2Proof.Machine

/-! ### Faults of a tile -/

/-- R128, R643: a fault is recorded in `TC_FAULT` when it holds none, and the job stops. -/
def State.tileFault (s : State) (u : Site) (status cause pc : Nat) : State :=
  let a := Reg.TC_FAULT.VALID.on u 0
  let s := if s.tbit u Reg.TC_FAULT.VALID then s
    else s.setReg a (BitVec.ofNat 64 (1 + status % 256 * 2 + cause % 16 * 2 ^ 9 + pc % 2 ^ 17 * 2 ^ 13))
  s.stopHere u.wing status 0 u.tile.toNat

/-- The program counter of the tile. -/
def State.pc (s : State) (u : Site) : Nat := s.tfld u Reg.TC_PC.PC

/-- R164, R201: an uncorrectable codeword met in a row, or a parity error of a tag, a handle or a window descriptor. -/
def State.eccStop (s : State) (u : Site) (row codeword : Nat) (scrub parity : Bool) : State :=
  let s := if s.tbit u Reg.SP_ECC_STATUS.UE_VALID then s
    else
      let s := s.setTfld u Reg.SP_ECC_STATUS.UE_VALID 1
      let s := s.setTfld u Reg.SP_ECC_STATUS.UE_ROW row
      let s := s.setTfld u Reg.SP_ECC_STATUS.UE_CODEWORD codeword
      let s := s.setTfld u Reg.SP_ECC_STATUS.UE_SCRUB (if scrub then 1 else 0)
      s.setTfld u Reg.SP_ECC_STATUS.UE_PARITY (if parity then 1 else 0)
  s.stopHere u.wing stEcc 0 u.tile.toNat

/-- R163, R164: what a read of a row meets: an uncorrectable codeword, found now or left there, or a parity error. -/
def Tile.rowUe (t : Tile) (row : Nat) (found : RowErr) : Option (Nat × Bool) :=
  if found.parity then some (0, true)
  else (found.bad.or ((sget (fun _ => none) t.upsets row).bind (·.bad))).map (fun c => (c.toNat, false))

/-- R163, R201: the corrected codewords of a read are counted. -/
def State.countCorrected (s : State) (u : Site) (found : RowErr) : State :=
  s.addTfld u Reg.SP_ECC_STATUS.CORRECTED found.corrected.toNat

/-! ### Tags, claims, locks -/

def Tile.isFull (t : Tile) (r : Nat) : Bool := t.full.contains r

def Tile.claimOf (t : Tile) (r : Nat) : Option Claim := sget (fun _ => none) t.claims r

def Tile.setClaim (t : Tile) (r : Nat) (c : Option Claim) : Tile := { t with claims := sset (fun _ => none) t.claims r c }

/-- R141: the rows that a stream still has to read. -/
def Stream.lockedRows (x : Stream) : List Nat :=
  x.vecs.map (·.row) ++ x.vecs.filterMap (·.xrow) ++ (x.header.map (·.2)).toList

/-- R138, R141: the row is read-locked by a stream or by a load's fill. -/
def Tile.locked (t : Tile) (r : Nat) : Bool :=
  t.feeder.any (fun x => x.lockedRows.contains r) ||
    (match t.fill with | some f => f.rows.any (fun p => p.2 == r) | none => false)

/-- A row becomes empty. -/
def State.emptyNow (s : State) (u : Site) (r : Nat) : State :=
  let t := s.tile u
  s.setTile u { t with full := ndel r t.full, reads := sset (fun _ => 0) t.reads r 0, emptyLater := ndel r t.emptyLater
                       stepClear := ndel r t.stepClear }

/-- R141, R170, R174: a row becomes empty now, or when its lock ends. -/
def State.emptyRow (s : State) (u : Site) (r : Nat) : State :=
  let t := s.tile u
  if t.locked r then s.setTile u { t with emptyLater := nins r t.emptyLater }
  else s.emptyNow u r

/-- R173: a row of a STEPCLR handle at a `STEP` END: it becomes empty now, or when its lock or claim ends. -/
def State.stepEmpty (s : State) (u : Site) (r : Nat) : State :=
  let t := s.tile u
  if (t.claimOf r).isSome then s.setTile u { t with stepClear := nins r t.stepClear }
  else s.emptyRow u r

/-- A lock or claim of the row has ended. -/
def State.settleRow (s : State) (u : Site) (r : Nat) : State :=
  let t := s.tile u
  if !(t.locked r) && (t.emptyLater.contains r || (t.stepClear.contains r && (t.claimOf r).isNone)) then s.emptyNow u r
  else s

/-- R166: a row is written full; any error that its code would have found is rewritten with it. -/
def State.fillRow (s : State) (u : Site) (r : Nat) (data : List Byte) : State :=
  let s := s.writeRow u r data
  let t := s.tile u
  s.setTile u { t with full := nins r t.full, reads := sset (fun _ => 0) t.reads r 0
                       upsets := sset (fun _ => none) t.upsets r none }

/-- R167: the claim of a row ends. -/
def State.endClaim (s : State) (u : Site) (r : Nat) : State :=
  (s.setTile u ((s.tile u).setClaim r none)).settleRow u r

/-- R167: a `QLD` or `RDREM` claims its target row; a full row of an OVERWRITE handle becomes empty. -/
def State.claimTarget (s : State) (u : Site) (r : Nat) (c : Claim) : State :=
  let s := s.emptyNow u r
  s.setTile u ((s.tile u).setClaim r (some c))

/-- R169, R170: one counted read of a row through a handle. -/
def State.countRead (s : State) (u : Site) (x : RowRef) : State :=
  let d := s.handle u x.handle
  if d.mode ≠ 1 then s
  else
    let t := s.tile u
    let n := sget (fun _ => 0) t.reads x.row + 1
    if d.reads ≤ n then (s.setTile u { t with reads := sset (fun _ => 0) t.reads x.row 0 }).emptyRow u x.row
    else s.setTile u { t with reads := sset (fun _ => 0) t.reads x.row n }

/-- One entry for each row, of those that name it the first. -/
def oneEachRow (l : List RowRef) : List RowRef :=
  l.foldl (fun acc x => if acc.any (fun y => y.row == x.row) then acc else acc ++ [x]) []

/-- R170: counted reads of the rows that an instruction reads, once for each row. -/
def State.countReads (s : State) (u : Site) (xs : List RowRef) : State := (oneEachRow xs).foldl (fun s x => s.countRead u x) s

/-- R30, R141, R167: the row may be written by a slot of the tile's program that does not hold its claim. -/
def State.writable (s : State) (u : Site) (x : RowRef) : Bool :=
  let t := s.tile u
  (t.claimOf x.row).isNone && !(t.locked x.row) &&
    (decide ((s.handle u x.handle).mode = 2) || !(t.isFull x.row))

/-! ### The gather buffer -/

/-- R175: the open entry of the program for a row. -/
def Tile.programEntry (t : Tile) (r : Nat) : Option Gather := t.gathers.find? (fun g => decide (g.entry < 3) && g.row == r)

/-- R175: the open entry of the hawk cores and the host. -/
def Tile.outsideEntry (t : Tile) : Option Gather := t.gathers.find? (fun g => g.entry == 3)

/-- R176: a free program entry. -/
def Tile.freeEntry (t : Tile) : Option Nat := (List.range 3).find? (fun e => t.gathers.all (fun g => g.entry != e))

/-- R176: whether a narrow write of the program can take its place: it has an open entry, or one is free. -/
def Tile.gatherRoom (t : Tile) (r : Nat) : Bool := (t.programEntry r).isSome || t.freeEntry.isSome

/-- R175: bytes merged into an entry; a listed byte is a valid one, whatever its value. -/
def Gather.merge (g : Gather) (off : Nat) (bs : List Byte) : Gather :=
  { g with bytes := (bs.zipIdx).foldl (fun m p => sput (off + p.2) p.1 m) g.bytes }

/-- R177: all 512 bytes are valid. -/
def Gather.whole (g : Gather) : Bool := decide (g.bytes.length = 512)

/-- R177, R178: the row of an entry, invalid bytes zero. -/
def Gather.row512 (g : Gather) : List Byte := (List.range 512).map (fun i => sget (fun _ => 0) g.bytes i)

def Tile.putEntry (t : Tile) (g : Gather) : Tile :=
  { t with gathers := t.gathers.filter (fun x => x.entry != g.entry) ++ [g] }

def Tile.dropEntry (t : Tile) (e : Nat) : Tile := { t with gathers := t.gathers.filter (fun x => x.entry != e) }

/-- Results ordered by the beat at which they become visible, earlier ones first among equals (R81). -/
def insertPend (p : PendWrite) : List PendWrite → List PendWrite
  | [] => [p]
  | q :: r => if q.due ≤ p.due then q :: insertPend p r else p :: q :: r

def Tile.addPend (t : Tile) (due : Nat) (e : Effect) : Tile := { t with pend := insertPend ⟨due, e⟩ t.pend }

/-- R177: a program entry completes at beat `b`: its row is full for the bundle at `b` plus the latency of class 9. -/
def State.completeEntry (s : State) (u : Site) (b : Nat) (g : Gather) : State :=
  s.setTile u (((s.tile u).dropEntry g.entry).addPend (b + s.lat u.wing 9) (.rowFill g.row g.row512))

/-- R175 to R177: a narrow write of the program issued at beat `b`. -/
def State.narrowWrite (s : State) (u : Site) (b row off : Nat) (bs : List Byte) : State :=
  let t := s.tile u
  let g := match t.programEntry row with
    | some g => g
    | none => { entry := t.freeEntry.getD 0, row := row }
  let g := g.merge off bs
  let s := s.setTile u ((t.putEntry g).setClaim row (some (.gather g.entry)))
  if g.whole then s.completeEntry u b g else s

/-- R178: a seal. -/
def State.seal (s : State) (u : Site) (b row : Nat) : State :=
  match (s.tile u).programEntry row with
  | some g => s.completeEntry u b g
  | none => s

/-- R177: completed program entries of the chosen rows land: their rows are full, and their claims end. -/
def State.landFills (s : State) (u : Site) (sel : Nat → Bool) : State :=
  let t := s.tile u
  let now (p : PendWrite) : Bool := match p.eff with | .rowFill r _ => sel r | _ => false
  (t.pend.filter now).foldl (fun s p => match p.eff with | .rowFill r data => (s.fillRow u r data).endClaim u r | _ => s)
    (s.setTile u { t with pend := t.pend.filter (fun p => !now p) })

/-- R174: a row named by `TC_TAG_EMPTY`: an open or completing gather entry of it is discarded. -/
def State.discardRow (s : State) (u : Site) (row : Nat) : State :=
  let t := s.tile u
  let t := { t with
    gathers := t.gathers.filter (fun g => g.row != row)
    pend := t.pend.filter (fun p => match p.eff with | .rowFill r _ => r != row | _ => true) }
  let t := match t.claimOf row with | some (.gather _) => t.setClaim row none | _ => t
  (s.setTile u t).emptyRow u row

/-! ### Windows -/

def Tile.window (t : Tile) (w : Nat) : Window := sget (fun _ => {}) t.windows w

def WinState.code : WinState → Nat
  | .closed => 0 | .opened => 1 | .closing => 2 | .openPending => 3

/-- R193: a window changes, and `TC_WIN_STATE` shows it. -/
def State.setWindow (s : State) (u : Site) (w : Nat) (x : Window) : State :=
  let t := s.tile u
  let s := s.setTile u { t with windows := sset (fun _ => {}) t.windows w x }
  let a := Reg.TC_WIN_STATE.STATE.on u 0
  s.setReg a (setBits (s.reg a) (2 * w) 2 x.state.code)

/-- R183: the notification of the close that completes. -/
def State.notify (s : State) (u : Site) (x : Window) : State :=
  if x.notify then s.flagUpdate u x.fid.toNat 1 1 else s

/-- R183: an open takes effect: counts are reset. -/
def State.openNow (s : State) (u : Site) (w : Nat) (notify : Bool) (fid : BitVec 6) : State :=
  let s := s.setWindow u w { state := .opened, notify := notify, fid := fid }
  (s.setTfld u Reg.SP_WIN1.ADMITTED 0 w).setTfld u Reg.SP_WIN1.LANDED 0 w

/-- R182 to R184: a close completes when every admitted row has landed. -/
def State.tryClose (s : State) (u : Site) (w : Nat) : State :=
  let x := (s.tile u).window w
  if s.tfld u Reg.SP_WIN1.ADMITTED w ≠ s.tfld u Reg.SP_WIN1.LANDED w then s
  else match x.state with
    | .closing => (s.notify u x).setWindow u w { x with state := .closed, exhausted := false }
    | .openPending => (s.notify u x).openNow u w x.nextNotify x.nextFid
    | _ => s

/-- R182, R183: an open is written. -/
def State.windowOpen (s : State) (u : Site) (w : Nat) (notify : Bool) (fid : BitVec 6) : State :=
  let x := (s.tile u).window w
  match x.state with
  | .closed | .opened => s.openNow u w notify fid
  | .closing | .openPending => s.setWindow u w { x with state := .openPending, nextNotify := notify, nextFid := fid }

/-- R182, R183: a close is written. -/
def State.windowClose (s : State) (u : Site) (w : Nat) : State :=
  let x := (s.tile u).window w
  match x.state with
  | .closed => s.notify u x
  | .opened => (s.setWindow u w { x with state := .closing, exhausted := false }).tryClose u w
  | .closing => s
  | .openPending => s.setWindow u w { x with state := .closing }

/-- R180, R197: what a window covers: first row, row count, handle. -/
def State.winCovers (s : State) (u : Site) (w row : Nat) : Bool :=
  let d := s.handle u (s.tfld u Reg.SP_WIN0.HANDLE w)
  let f := d.base + s.tfld u Reg.SP_WIN0.FIRST w
  d.valid && decide (f ≤ row) && decide (row ≤ f + s.tfld u Reg.SP_WIN0.COUNT_M1 w) && decide (row < d.base + d.rows)

/-- R185 check 4 for one window: it covers the row, admits the source kind and, for tiles and hawk cores, the source
chip, and is open or closing by exhaustion. -/
def State.winPass4 (s : State) (u : Site) (w row kind chip : Nat) : Bool :=
  let x := (s.tile u).window w
  s.winCovers u w row &&
    (match kind with
     | 0 => s.tbit u Reg.SP_WIN0.ADMIT_NET w
     | 1 => s.tbit u Reg.SP_WIN0.ADMIT_HAWK w
     | _ => s.tbit u Reg.SP_WIN0.ADMIT_HOST w) &&
    (decide (2 ≤ kind) ||
      (decide (s.tfld u Reg.SP_WIN1.CHIP_LO w ≤ chip) && decide (chip ≤ s.tfld u Reg.SP_WIN1.CHIP_HI w))) &&
    (x.state == .opened || (x.state == .closing && x.exhausted))

/-- R185 check 5 for one window. -/
def State.winPass5 (s : State) (u : Site) (w : Nat) : Bool :=
  !(s.tbit u Reg.SP_WIN0.ONESHOT w) ||
    (decide (s.tfld u Reg.SP_WIN1.ADMITTED w ≤ s.tfld u Reg.SP_WIN0.COUNT_M1 w) && !((s.tile u).window w).exhausted)

/-- R185, R186: the window that admits a write, or the reason of the first failing check; a `POST` whose rank takes it past
the scratchpad fails check 4 (R236). -/
def State.admission (s : State) (u : Site) (row kind chip : Nat) (named : Option Nat) (aligned : Bool) : Except Nat Nat :=
  if !aligned then .error 1
  else if 16384 ≤ row then .error 4
  else if s.rowDown u row then .error 2
  else match s.handleOf u row with
    | none => .error 3
    | some h =>
      if (s.handle u h).mode = 2 then .error 3
      else
        let ws := match named with
          | some w => [w]
          | none => (List.range 16).filter (fun w => s.tfld u Reg.SP_WIN0.HANDLE w == h)
        match ws.find? (fun w => s.winPass4 u w row kind chip && s.winPass5 u w) with
        | some w => .ok w
        | none => if ws.any (fun w => s.winPass4 u w row kind chip) then .error 5 else .error 4

/-- R185, R199, R200: a dropped write is counted and reported to the hawk cores, and the first one is recorded. -/
def State.dropWrite (s : State) (u : Site) (reason chip tile kind row : Nat) : State :=
  let s := (s.report u.wing stWindowViolation (rowOffset u.tile.toNat row)).addTfld u Reg.SP_VIOL_COUNT.COUNT 1
  if s.tbit u Reg.SP_VIOL_FIRST.VALID then s
  else s.setReg (Reg.SP_VIOL_FIRST.VALID.on u 0) (BitVec.ofNat 64
    (1 + reason % 16 * 2 + chip % 2 ^ 16 * 2 ^ 5 + tile % 2 ^ 10 * 2 ^ 21 + kind % 4 * 2 ^ 31 + row % 2 ^ 14 * 2 ^ 33))

/-- R185: a window counts an admitted row; a one-shot window that has admitted its last closes. -/
def State.countAdmitted (s : State) (u : Site) (w : Nat) : State :=
  let s := s.setTfld u Reg.SP_WIN1.ADMITTED (s.tfld u Reg.SP_WIN1.ADMITTED w + 1) w
  let x := (s.tile u).window w
  if s.tbit u Reg.SP_WIN0.ONESHOT w && x.state == .opened &&
      decide (s.tfld u Reg.SP_WIN1.ADMITTED w = s.tfld u Reg.SP_WIN0.COUNT_M1 w + 1)
  then s.setWindow u w { x with state := .closing, exhausted := true } else s

/-- R184: an admitted row lands. -/
def State.landRow (s : State) (u : Site) (w row : Nat) (data : List Byte) : State :=
  let s := s.fillRow u row data
  let s := s.settleRow u row
  (s.setTfld u Reg.SP_WIN1.LANDED (s.tfld u Reg.SP_WIN1.LANDED w + 1) w).tryClose u w

/-- R188: tag, lock and claim allow an admitted row to land. -/
def State.canLand (s : State) (u : Site) (row : Nat) : Bool :=
  let t := s.tile u
  !(t.isFull row) && !(t.locked row) && (t.claimOf row).isNone

/-- R346: the unit that applies a packet of a flag channel reports its verdict toward the wing's router. -/
def State.giveVerdict (s : State) (w : Fin 2) (v : Option Verdict) : State :=
  match v with
  | none => s
  | some v => let x := s.wing w; s.setWing w { x with verdicts := x.verdicts ++ [v] }

/-- R346: the verdict of a write that is dropped. -/
def dropped (v : Option Verdict) : Option Verdict := v.map (fun v => { v with taken := false })

/-- R346: the verdict of a mesh packet that takes effect. -/
def packetVerdict (p : Packet) : Option Verdict :=
  p.msg.map (fun m => { chip := p.srcChip, chan := p.chan, dstKind := 0, dstTile := p.dstTile, msg := m, taken := true })

/-- R173, R184, R346: the held row lands and its verdict is given; the data of an ended step is emptied with its landing. -/
def State.landIn (s : State) (u : Site) (h : Inbound) : State :=
  let s := (s.landRow u h.win h.row h.data).giveVerdict u.wing h.verdict
  if h.clear then s.emptyRow u h.row else s

/-- R184, R188: an admitted row lands or is held in the inbound stage. -/
def State.landOrHold (s : State) (u : Site) (h : Inbound) : State :=
  if s.canLand u h.row then s.landIn u h
  else s.setTile u { s.tile u with inbound := some h }

/-- R185 to R188, R346: a row arrives at the owner's inbound stage; `src` is as the stage holds it, `v` the verdict of its
landing. -/
def State.arriveRow (s : State) (u : Site) (row kind chip tile : Nat) (named : Option Nat) (aligned : Bool)
    (src : Option (Nat × Nat × Nat)) (data : List Byte) (v : Option Verdict) : State :=
  match s.admission u row kind chip named aligned with
  | .error r => (s.dropWrite u r chip tile kind row).giveVerdict u.wing (dropped v)
  | .ok w => (s.countAdmitted u w).landOrHold u { win := w, row := row, data := data, src := src, verdict := v }

/-- R173, R175, R177: the entry of the hawk cores and the host completes when its 512 bytes are valid: its claim ends, and the
row counts as admitted and lands, or is held. -/
def State.completeOutside (s : State) (u : Site) (g : Gather) : State :=
  let t := (s.tile u).dropEntry 3
  let s := (s.setTile u (t.setClaim g.row none)).settleRow u g.row
  match g.win with
  | some w => (s.countAdmitted u w).landOrHold u
      { win := w, row := g.row, data := g.row512, clear := t.stepClear.contains g.row }
  | none => s

/-- R175, R185, R346: one aligned word of the hawk cores or the host arrives, and no other word waits before it. -/
def State.arriveWord (s : State) (u : Site) (row word kind chip : Nat) (aligned : Bool) (bs : List Byte) (v : Option Verdict) :
    State :=
  match s.admission u row kind chip none aligned with
  | .error r => (s.dropWrite u r (if kind = 2 then 0 else chip) 0x3FF kind row).giveVerdict u.wing (dropped v)
  | .ok w =>
    let t := s.tile u
    let g := match t.outsideEntry with
      | some g => g
      | none => { entry := 3, row := row, win := some w }
    let g := g.merge (8 * word) (padTo 8 bs)
    let s := (s.setTile u ((t.putEntry g).setClaim row (some (.gather 3)))).giveVerdict u.wing v
    if g.whole && t.inbound.isNone then s.completeOutside u g else s

/-- R175, R176, R188: the word must wait: a row is held in the inbound stage, entry 3 is open for another row, or a program
entry claims its row. -/
def Tile.wordWaits (t : Tile) (row : Nat) : Bool :=
  t.inbound.isSome || (match t.outsideEntry with | some g => g.row != row || g.whole | none => false) ||
    (match t.claimOf row with | some (.gather 3) => false | some _ => true | none => false)

end Sys2Proof.Machine
end

