-- ==== Sys2Proof/Machine/Mesh.lean ====
section
/-!
DEFINITION. The silk mesh (08): routes (R256), routers' queues (R257), barriers (R267, R268), remote reads at their owner
(R181, R189), and what a packet does when it arrives at a tile (R185 to R188, R109, R270).
-/
namespace Sys2Proof.Machine

/-! ### Directions and geometry -/

/-- R257: the place of a direction in the cyclic order; R272 codes west to row port the same way. -/
def dirCode : Dir → Nat
  | .tile => 0 | .west => 1 | .east => 2 | .north => 3 | .south => 4 | .bridge => 5 | .rowPort => 6

def dirOf : Nat → Dir
  | 1 => .west | 2 => .east | 3 => .north | 4 => .south | 5 => .bridge | 6 => .rowPort | _ => .tile

/-- The direction in which the neighbour sees a link. -/
def opposite : Dir → Dir
  | .west => .east | .east => .west | .north => .south | .south => .north | d => d

/-- The column of a wing that carries the bridge link, and the one with the row port. -/
def bridgeCol (w : Fin 2) : Nat := if w = 0 then 23 else 0
def portCol (w : Fin 2) : Nat := if w = 0 then 0 else 23

/-- R268: the router has a link in a direction. -/
def hasLink (u : Site) (d : Dir) : Bool :=
  let r := tileRow u.tile.toNat
  let c := tileCol u.tile.toNat
  match d with
  | .tile => true
  | .west => c != 0
  | .east => c != 23
  | .north => r != 0
  | .south => r != 23
  | .bridge => c == bridgeCol u.wing
  | .rowPort => c == portCol u.wing

/-- A tile by row and column. -/
def siteAt (w : Fin 2) (r c : Nat) : Site := ⟨w, BitVec.ofNat 10 (24 * r + c)⟩

/-- The router at the other end of a link. -/
def neighbour (u : Site) (d : Dir) : Site :=
  let r := tileRow u.tile.toNat
  let c := tileCol u.tile.toNat
  match d with
  | .west => siteAt u.wing r (c - 1)
  | .east => siteAt u.wing r (c + 1)
  | .north => siteAt u.wing (r - 1) c
  | .south => siteAt u.wing (r + 1) c
  | .bridge => siteAt (otherWing u.wing) r (bridgeCol (otherWing u.wing))
  | _ => u

/-- R256: the output toward a tile of the router's own wing: along the row, then along the column. -/
def towardTile (u : Site) (t : Nat) : Dir :=
  let r := tileRow u.tile.toNat
  let c := tileCol u.tile.toNat
  if c < tileCol t then .east else if tileCol t < c then .west
  else if r < tileRow t then .south else if tileRow t < r then .north else .tile

/-- R256: the output toward the bridge, and toward the row port, along the router's row. -/
def towardBridge (u : Site) : Dir :=
  if tileCol u.tile.toNat = bridgeCol u.wing then .bridge else if u.wing = 0 then .east else .west

def towardPort (u : Site) : Dir :=
  if tileCol u.tile.toNat = portCol u.wing then .rowPort else if u.wing = 0 then .west else .east

/-- R256: the output of a unicast packet. -/
def unicastDir (u : Site) (p : Packet) : Dir :=
  match p.place.toNat with
  | 0 => towardTile u p.dstTile.toNat
  | 1 => towardBridge u
  | _ => towardPort u

/-- R252: the physical site of logical column `c` of a row: past the bypassed site, the next one. -/
def State.physicalSite (s : State) (w : Fin 2) (row c : Nat) : Nat :=
  if c < getBits (s.reg (Reg.MX_REPAIR.SITE_0.at w (row / 12))) (5 * (row % 12)) 5 then c else c + 1

/-! ### Multicast lines (R266) -/

def clamp (x lo hi : Nat) : Nat := min (max x lo) hi

/-- R266: the entry tile of a multicast packet's line. -/
def entryTile (p : Packet) : Nat :=
  if p.axis then 24 * clamp (tileRow p.srcTile.toNat) p.lo.toNat p.hi.toNat + p.index.toNat
  else 24 * p.index.toNat + clamp (tileCol p.srcTile.toNat) p.lo.toNat p.hi.toNat

/-- R266: the position of a router on the line, when it is on it. -/
def linePos (u : Site) (p : Packet) : Option Nat :=
  let r := tileRow u.tile.toNat
  let c := tileCol u.tile.toNat
  let x := if p.axis then r else c
  let i := if p.axis then c else r
  if i = p.index.toNat ∧ p.lo.toNat ≤ x ∧ x ≤ p.hi.toNat then some x else none

/-- R266: the outputs of a multicast packet at a router: toward the entry tile, then both ways along the line. -/
def mcastDirs (u : Site) (p : Packet) : List Dir :=
  let e := entryTile p
  let pe := if p.axis then tileRow e else tileCol e
  match linePos u p with
  | none => [towardTile u e]
  | some x =>
    let back := if p.axis then Dir.north else Dir.west
    let on := if p.axis then Dir.south else Dir.east
    (if u.tile = p.srcTile then [] else [.tile]) ++
      (if x ≤ pe ∧ p.lo.toNat < x then [back] else []) ++ (if pe ≤ x ∧ x < p.hi.toNat then [on] else [])

/-- R262: the output toward a requester of a merged copy. -/
def reqDir (u : Site) (q : MergeReq) : Dir :=
  if q.wing = u.wing then towardTile u q.tile.toNat else towardBridge u

/-- All outputs that a packet takes at a router. -/
def outputsOf (u : Site) (p : Packet) : List Dir :=
  if p.kind = 5 then (p.reqs.map (reqDir u)).eraseDups
  else if p.mcast then mcastDirs u p
  else [unicastDir u p]

/-- R262: the copy of a packet that leaves on an output; a merged copy with one entry left is a READ_DATA. -/
def copyFor (u : Site) (d : Dir) (p : Packet) : Packet :=
  let p := if d = .bridge then { p with place := 0 } else p
  if p.kind = 5 then
    match p.reqs.filter (fun q => reqDir u q == d) with
    | [q] => { p with kind := 4, reqs := [], dstTile := q.tile, rrow := q.row
                      place := if q.wing = u.wing ∨ d = .bridge then 0 else 1 }
    | rs => { p with reqs := rs }
  else p

/-! ### Router queues (R257) -/

def Tile.queue (t : Tile) (d : Dir) : List Packet := sget (fun _ => []) t.inq (dirCode d)

def Tile.setQueue (t : Tile) (d : Dir) (q : List Packet) : Tile :=
  { t with inq := sset (fun _ => []) t.inq (dirCode d) q }

/-- A packet joins an input queue of a router. -/
def State.enqueue (s : State) (u : Site) (d : Dir) (p : Packet) : State :=
  let t := s.tile u
  s.setTile u (t.setQueue d (t.queue d ++ [p]))

/-- A packet that the tile (or its router) sends. -/
def State.inject (s : State) (u : Site) (p : Packet) : State := s.enqueue u .tile p

/-- R256: PLACE of a destination chip seen from a wing: own wing, partner wing, or the row port. -/
def State.placeOfChip (s : State) (w : Fin 2) (chip : Nat) : Nat :=
  if chip = s.chip w then 0 else if chip = s.chip (otherWing w) then 1 else 2

/-- A packet from a tile to a tile of a chip. -/
def State.packetTo (s : State) (u : Site) (kind chip tile : Nat) : Packet :=
  { kind := BitVec.ofNat 4 kind, place := BitVec.ofNat 2 (s.placeOfChip u.wing chip), dstTile := BitVec.ofNat 10 tile
    dstChip := BitVec.ofNat 16 chip, srcTile := u.tile, srcChip := BitVec.ofNat 16 (s.chip u.wing) }

/-- R108, R89: rows of the tile's own that wait in the injection buffer. -/
def Tile.injected (t : Tile) : Nat := (t.queue .tile).countP (fun p => p.kind == 0 || p.kind == 1)

/-! ### Barriers (R267, R268) -/

/-- R268: the barrier is usable. -/
def State.barUsable (s : State) (u : Site) (b : Nat) : Bool :=
  s.tbit u Reg.MX_BAR_CFG.VALID b && s.tfld u Reg.MX_BAR_CFG.PARENT b != 7

/-- R267: LOCAL plus the number of CHILD bits. -/
def State.barExpected (s : State) (u : Site) (b : Nat) : Nat :=
  s.tfld u Reg.MX_BAR_CFG.LOCAL b + (bitsOf 6 (s.tfld u Reg.MX_BAR_CFG.CHILD b)).length

/-- R268: an arrival or release dropped and counted. -/
def State.badArrival (s : State) (u : Site) : State := s.addTfld u Reg.MX_ROUTER_STATUS.BAD_ARRIVALS 1

/-- R267: a barrier packet toward the router in a direction; without a link it is dropped (R268). -/
def State.sendBar (s : State) (u : Site) (d : Dir) (kind b : Nat) : State :=
  if !hasLink u d then s.badArrival u
  else
    let n := neighbour u d
    s.inject u { kind := BitVec.ofNat 4 kind, dstTile := n.tile, srcTile := u.tile, arg := BitVec.ofNat 20 b
                 place := if d = .bridge then 1 else if d = .rowPort then 2 else 0
                 srcChip := BitVec.ofNat 16 (s.chip u.wing)
                 dstChip := BitVec.ofNat 16 (s.chip n.wing) }

def Tile.bar (t : Tile) (b : Nat) : BarTrack := sget (fun _ => {}) t.bars b

def State.setBar (s : State) (u : Site) (b : Nat) (x : BarTrack) : State :=
  let t := s.tile u
  s.setTile u { t with bars := sset (fun _ => {}) t.bars b x }

/-- R267, "complete" up to its pending arrivals: GEN counts, ARRIVED and WAITREL clear, releases go to the children. -/
def State.barComplete (s : State) (u : Site) (b : Nat) : State :=
  let s := s.setTfld u Reg.MX_BAR_STATE.GEN (s.tfld u Reg.MX_BAR_STATE.GEN b + 1) b
  let s := s.setTfld u Reg.MX_BAR_STATE.ARRIVED 0 b
  let s := s.setTfld u Reg.MX_BAR_STATE.WAITREL 0 b
  let x := (s.tile u).bar b
  let s := s.setBar u b { x with done := x.done + 1 }
  (bitsOf 6 (s.tfld u Reg.MX_BAR_CFG.CHILD b)).foldl (fun s k => s.sendBar u (dirOf (k + 1)) 0xA b) s

/-- R267: one arrival, the tile's own or a child's; a root's completion has no pending arrivals to apply. -/
def State.barArrival (s : State) (u : Site) (b : Nat) (own : Bool) : State :=
  let x := (s.tile u).bar b
  if s.tbit u Reg.MX_BAR_STATE.WAITREL b then
    let s := s.setTfld u Reg.MX_BAR_STATE.PENDING (s.tfld u Reg.MX_BAR_STATE.PENDING b + 1) b
    s.setBar u b { x with queue := x.queue ++ [own], arrived := x.arrived || own, held := x.held || own }
  else
    let s := s.setBar u b
      (if own then { x with arrived := true, held := x.queue.any id, countedAt := x.done } else x)
    let s := s.setTfld u Reg.MX_BAR_STATE.ARRIVED (s.tfld u Reg.MX_BAR_STATE.ARRIVED b + 1) b
    if s.tfld u Reg.MX_BAR_STATE.ARRIVED b ≠ s.barExpected u b then s
    else
      let parent := s.tfld u Reg.MX_BAR_CFG.PARENT b
      if parent = 0 then s.barComplete u b
      else (s.setTfld u Reg.MX_BAR_STATE.WAITREL 1 b).sendBar u (dirOf parent) 9 b

/-- R267: pending arrivals applied one at a time; one that finds WAITREL 1 pends again. -/
def State.barApply (u : Site) (b : Nat) : List Bool → State → State
  | [], s => s
  | own :: r, s =>
    let x := (s.tile u).bar b
    let s := s.setBar u b { x with held := r.any id || x.queue.any id }
    State.barApply u b r (s.barArrival u b own)

/-- R267: a release from the parent. -/
def State.barRelease (s : State) (u : Site) (b : Nat) : State :=
  let s := s.barComplete u b
  let x := (s.tile u).bar b
  let s := s.setTfld u Reg.MX_BAR_STATE.PENDING 0 b
  State.barApply u b x.queue (s.setBar u b { x with queue := [] })

/-- R110, R268: the tile's own arrival. -/
def State.barLocal (s : State) (u : Site) (b : Nat) : State :=
  if s.barUsable u b && s.tbit u Reg.MX_BAR_CFG.LOCAL b then s.barArrival u b true
  else
    -- The arrival is dropped, and the barrier never completes for the tile.
    let x := (s.tile u).bar b
    (s.badArrival u).setBar u b { x with arrived := true, held := true }

/-- R110: the barrier is complete for the tile. -/
def State.barDone (s : State) (u : Site) (b : Nat) : Bool :=
  let x := (s.tile u).bar b
  !x.arrived || (!x.held && decide (x.countedAt < x.done))

/-- R268: a local arrival that would be the eighth pending one waits in the tile; one that is dropped never waits. -/
def State.barRoom (s : State) (u : Site) (b : Nat) : Bool :=
  !(s.barUsable u b) || !(s.tbit u Reg.MX_BAR_CFG.LOCAL b) || !(s.tbit u Reg.MX_BAR_STATE.WAITREL b) || decide (s.tfld u Reg.MX_BAR_STATE.PENDING b < 7)

/-- R268: the direction is in the barrier's CHILD mask. -/
def State.barChild (s : State) (u : Site) (b : Nat) (d : Dir) : Bool :=
  decide (d ≠ .tile) && (s.tfld u Reg.MX_BAR_CFG.CHILD b).testBit (dirCode d - 1)

/-! ### Remote reads at the owner (R181, R189) -/

/-- R181: the reply to a read request. -/
def State.replyTo (s : State) (u : Site) (p : Packet) (kind : Nat) : Packet :=
  { s.packetTo u kind p.srcChip.toNat p.srcTile.toNat with rrow := p.rrow, arg := p.arg, raddr := p.raddr }

/-- R262: replies of a served group: one requester gets a READ_DATA, more share a READ_MERGED. -/
def State.sendReplies (s : State) (u : Site) (data : List Byte) : List Packet → State
  | [] => s
  | [p] => s.inject u { s.replyTo u p 4 with data := data }
  | p :: r => s.inject u { s.replyTo u p 5 with
      data := data
      reqs := (p :: r).map (fun q => { tile := q.srcTile, wing := if q.srcChip.toNat = s.chip 1 then 1 else 0,
                                       row := q.rrow }) }

/-- R189: the waiting reads that leave with the row: the head, and up to eight merging reads of the row that are no
longer held. -/
def servedWith (x : PortRead) (l : List PortRead) : List PortRead :=
  if x.merging then (l.filter (fun y => y.merging && y.row == x.row)).take 8 else [x]

/-- R163, R164, R170, R189: reads whose row is full are served; `n` bounds how many groups. -/
def State.serveReads (u : Site) : Nat → State → State
  | 0, s => s
  | n + 1, s =>
    let t := s.tile u
    match t.readPort.find? (fun x => !x.hold && t.isFull x.row) with
    | none => s
    | some x =>
      let g := servedWith x t.readPort
      let s := s.setTile u { t with readPort := t.readPort.filter (fun y => !g.contains y) }
      match t.rowUe x.row x.p.found with
      | some c => s.eccStop u x.row c.1 false c.2
      | none =>
        let s := (s.countCorrected u x.p.found).sendReplies u (s.readRow u x.row) (g.map (·.p))
        let s := match s.handleOf u x.row with
          | some h => g.foldl (fun s y => s.countRead u ⟨h, y.row⟩) s
          | none => s
        State.serveReads u n s

/-- R159: a word access is aligned, and comes from a hawk core or the host. -/
def wordAligned (p : Packet) : Bool := p.addr.toNat % 8 == 0 && (p.srcKind == 1 || p.srcKind == 2)

/-- R175: held words whose row has become free for them; `n` bounds how many. -/
def State.serveWords (u : Site) : Nat → State → State
  | 0, s => s
  | n + 1, s =>
    match (s.tile u).heldWords with
    | [] => s
    | p :: r =>
      let row := p.arg.toNat / 64 % 2 ^ 14
      if (s.tile u).wordWaits row then s
      else
        let s := s.setTile u { s.tile u with heldWords := r }
        State.serveWords u n (s.arriveWord u row (p.arg.toNat % 64) p.srcKind.toNat p.srcChip.toNat (wordAligned p) p.data
          (packetVerdict p))

/-- What waits at a tile and may now proceed. While the tile issues nothing, completed entries land in their own time (R177). -/
def State.pumpTile (s : State) (u : Site) : State :=
  let s := if !s.tbit u Reg.TC_RUN.RUN || (s.tile u).feeder.any (·.inl) then s.landFills u (fun _ => true) else s
  let s := State.serveWords u (s.tile u).heldWords.length s
  State.serveReads u (s.tile u).readPort.length s

/-! ### Arrivals at a tile -/

/-- R27, R9, R185: a packet addressed to a tile number that is disabled or does not exist: a write is dropped and reported, a
read completes at once. -/
def State.dropAtDisabled (s : State) (u : Site) (p : Packet) : State :=
  match p.kind.toNat with
  | 0 | 1 | 2 | 0xB =>
    let s := (s.report u.wing stWindowViolation (rowOffset u.tile.toNat 0)).giveVerdict u.wing (dropped (packetVerdict p))
    if u.tile.toNat < 576 then s.addTfld u Reg.SP_VIOL_COUNT.COUNT 1 else s
  | 3 => s.inject u { s.replyTo u p 6 with status := BitVec.ofNat 8 stWindowViolation }
  | 7 => s.inject u { s.replyTo u p 6 with status := BitVec.ofNat 8 stWindowViolation, place := 2 }
  | _ => s

/-- R159, R181, R189: a read request reaches the owner's read port, which has room. -/
def State.arriveRead (s : State) (u : Site) (dir : Dir) (p : Packet) : State :=
  let row := p.arg.toNat % 2 ^ 14
  let refuse := s.inject u { s.replyTo u p 6 with status := BitVec.ofNat 8 stWindowViolation }
  if s.rowDown u row || p.addr.toNat % 512 != 0 then refuse
  else match s.handleOf u row with
    | none => refuse
    | some h =>
      if (s.handle u h).mode = 2 then refuse
      else
        let merging := p.arg.toNat.testBit 14 && s.tbit u Reg.SP_MERGE_CTL.ENABLE && dir != .rowPort &&
          decide ((s.handle u h).mode = 0)
        let hold := merging && decide (s.tfld u Reg.SP_MERGE_CTL.HOLD ≠ 0)
        let t := s.tile u
        (s.setTile u { t with readPort := t.readPort ++ [⟨row, merging, hold, p⟩] }).pumpTile u

/-- R109: data of a remote read lands in its target row. -/
def State.arriveData (s : State) (u : Site) (row : Nat) (data : List Byte) : State :=
  ((s.fillRow u row data).endClaim u row).pumpTile u

/-- R109: a read that ends in an error status leaves its target row empty, and the job stops with that status. -/
def State.arriveStatus (s : State) (u : Site) (row status : Nat) : State :=
  (s.endClaim u row).stopHere u.wing status 0 u.tile.toNat

/-- A word of the scratchpad row as stored, whatever its tag (R181). -/
def State.readWord (s : State) (u : Site) (row word : Nat) : List Byte :=
  s.readRun u.wing (rowOffset u.tile.toNat row + 8 * word) 8

/-- R159, R163, R164, R181: a word read of the hawk cores or the host. -/
def State.arriveWordRead (s : State) (u : Site) (p : Packet) : State :=
  let row := p.arg.toNat / 64 % 2 ^ 14
  if s.rowDown u row || !wordAligned p then
    let q := { s.replyTo u p 6 with status := BitVec.ofNat 8 stWindowViolation }
    s.inject u (if p.srcKind = 0 then q else { q with place := 2 })
  else match (s.tile u).rowUe row p.found with
    | some c => s.eccStop u row c.1 false c.2
    | none => (s.countCorrected u p.found).inject u
        { s.replyTo u p 8 with data := s.readWord u row (p.arg.toNat % 64), place := 2 }

/-- R268: a barrier arrival from a direction. -/
def State.arriveBar (s : State) (u : Site) (dir : Dir) (b : Nat) : State :=
  if s.barUsable u b && s.barChild u b dir then s.barArrival u b false else s.badArrival u

/-- R268: a barrier release from a direction. -/
def State.arriveRelease (s : State) (u : Site) (dir : Dir) (b : Nat) : State :=
  if s.barUsable u b && decide (s.tfld u Reg.MX_BAR_CFG.PARENT b = dirCode dir) && decide (dir ≠ .tile)
  then s.barRelease u b else s.badArrival u

/-- R261: a reserved KIND or PLACE met by a router. -/
def State.badPacket (s : State) (u : Site) (dir : Dir) : State :=
  let s := if s.tbit u Reg.MX_ROUTER_STATUS.UE_VALID then s
    else
      let s := s.setTfld u Reg.MX_ROUTER_STATUS.UE_VALID 1
      let s := s.setTfld u Reg.MX_ROUTER_STATUS.UE_DIR (dirCode dir)
      s.setTfld u Reg.MX_ROUTER_STATUS.UE_KIND 1
  s.stopHere u.wing stTagFault 1 u.tile.toNat

/-- R264: the source of a packet (chip, tile, kind). -/
def sourceOf (p : Packet) : Nat × Nat × Nat := (p.srcChip.toNat, p.srcTile.toNat, p.srcKind.toNat)

/-- R264: a unicast packet of the same source is ahead of it, in the inbound stage. -/
def Tile.heldAhead (t : Tile) (p : Packet) : Bool :=
  match t.inbound with
  | some h => h.src == some (sourceOf p) && !p.mcast
  | none => false

/-- R175, R176, R188, R189, R259, R264, R268: the packet can be delivered now; otherwise it holds its queue. Reads never wait
behind a held write (R181, R188). -/
def State.deliverable (s : State) (u : Site) (dir : Dir) (p : Packet) : Bool :=
  let t := s.tile u
  if !s.tileLive u.wing u.tile.toNat then true
  else match p.kind.toNat with
    | 0 | 1 => t.inbound.isNone
    | 2 => t.heldWords.isEmpty && !t.wordWaits (p.arg.toNat / 64 % 2 ^ 14)
    | 3 => decide (t.readPort.length < 8)
    | 7 => true
    | 9 => let b := p.arg.toNat % 16
           !t.heldAhead p && !(s.barUsable u b && s.barChild u b dir && s.tbit u Reg.MX_BAR_STATE.WAITREL b &&
             decide (s.tfld u Reg.MX_BAR_STATE.PENDING b = 7))
    | _ => !t.heldAhead p

/-- R185, R186: the row that a `POST` lands in: counted from the first row of the named window's handle range. -/
def State.postRow (s : State) (u : Site) (p : Packet) : Nat :=
  let w := p.win.toNat
  (s.handle u (s.tfld u Reg.SP_WIN0.HANDLE w)).base + s.tfld u Reg.SP_WIN0.FIRST w + p.arg.toNat

/-- R355: packets that bring data for an operation: rows, words and replies with data. -/
def bringsData (k : Nat) : Bool := k == 0 || k == 1 || k == 2 || k == 4 || k == 5

/-- What a packet does at the tile it is delivered to, coming from a direction. Data that arrives when the job has stopped is
dropped and counted (R333, R355). -/
def State.deliver (s : State) (u : Site) (dir : Dir) (p : Packet) : State :=
  let chip := p.srcChip.toNat
  let k := p.srcKind.toNat
  match p.kind.toNat with
  | 9 => s.arriveBar u dir (p.arg.toNat % 16)
  | 0xA => s.arriveRelease u dir (p.arg.toNat % 16)
  | kind =>
    if !s.tileLive u.wing u.tile.toNat then (if p.mcast then s else s.dropAtDisabled u p)
    else if bringsData kind && s.jobStopped u.wing then s.lateDrop u.wing
    else match kind with
      | 0 => (s.arriveRow u (p.arg.toNat % 2 ^ 14) k chip p.srcTile.toNat none (p.addr.toNat % 512 == 0)
          (if p.mcast then none else some (sourceOf p)) (padTo 512 p.data) (packetVerdict p)).pumpTile u
      | 1 => (s.arriveRow u (s.postRow u p) k chip p.srcTile.toNat (some p.win.toNat) true (some (sourceOf p))
          (padTo 512 p.data) (packetVerdict p)).pumpTile u
      | 2 => (s.arriveWord u (p.arg.toNat / 64 % 2 ^ 14) (p.arg.toNat % 64) k chip (wordAligned p) p.data
          (packetVerdict p)).pumpTile u
      | 3 => s.arriveRead u dir p
      | 4 => s.arriveData u p.rrow.toNat (padTo 512 p.data)
      | 5 => (p.reqs.filter (fun q => q.tile == u.tile && q.wing == u.wing)).foldl
              (fun s q => s.arriveData u q.row.toNat (padTo 512 p.data)) s
      | 6 => s.arriveStatus u p.rrow.toNat p.status.toNat
      | 7 => s.arriveWordRead u p
      | 8 => s
      | 0xB => (s.flagUpdate u (p.arg.toNat % 64) (p.arg.toNat / 64 % 16) (leNat (p.data.take 4))).giveVerdict u.wing
          (packetVerdict p)
      | _ => s.badPacket u dir

/-! ### Outputs of a router (R257, R261 to R263) -/

/-- R261: KIND 0xC to 0xF and PLACE 3 are reserved. -/
def reservedPacket (p : Packet) : Bool := decide (0xC ≤ p.kind.toNat) || p.place == 3

def Tile.forkedOf (t : Tile) (d : Dir) : List Nat := sget (fun _ => []) t.forked (dirCode d)

def Tile.setForked (t : Tile) (d : Dir) (l : List Nat) : Tile :=
  { t with forked := sset (fun _ => []) t.forked (dirCode d) l }

/-- The packet at the head of an input wants an output and has not taken it yet. -/
def State.wants (s : State) (u : Site) (input out : Dir) : Bool :=
  let t := s.tile u
  match t.queue input with
  | [] => false
  | p :: _ => reservedPacket p || ((outputsOf u p).contains out && !(t.forkedOf input).contains (dirCode out))

/-- R257: the inputs in the order in which an output looks at them. -/
def inputOrder (start : Nat) : List Dir := (List.range 7).map (fun i => dirOf ((start + i) % 7))

/-- R257: an output has served an input: its pointer stands at the next one. -/
def Tile.servedBy (t : Tile) (input out : Dir) : Tile :=
  { t with served := sset (fun _ => 0) t.served (dirCode out) ((dirCode input + 1) % 7) }

/-- R263, R276: an uncorrectable word on a link into a router. -/
def State.linkBad (s : State) (u : Site) (input : Dir) : State :=
  let s := if s.tbit u Reg.MX_ROUTER_STATUS.UE_VALID then s
    else
      let s := s.setTfld u Reg.MX_ROUTER_STATUS.UE_VALID 1
      let s := s.setTfld u Reg.MX_ROUTER_STATUS.UE_DIR (dirCode input)
      s.setTfld u Reg.MX_ROUTER_STATUS.UE_KIND 0
  s.stopHere u.wing stEcc 1 u.tile.toNat

/-- R263, R278: an uncorrectable word that crossed the bridge, at the wing it reached. -/
def State.bridgeBad (s : State) (w : Fin 2) (row : Nat) : State :=
  let s := if s.bit Reg.MX_BRIDGE_STATUS.UE_VALID w then s
    else (s.setFld Reg.MX_BRIDGE_STATUS.UE_VALID w 1).setFld Reg.MX_BRIDGE_STATUS.UE_ROW w row
  s.stopHere w stEcc 2 row

/-- R263: a packet crosses the link to a neighbour. -/
def State.cross (s : State) (u : Site) (out : Dir) (p : Packet) (e : LinkErr) : State :=
  let n := neighbour u out
  if out = .bridge then
    let s := s.addFld Reg.MX_BRIDGE_STATUS.CORRECTED n.wing e.corrected.toNat
    if e.bad then s.bridgeBad n.wing (tileRow u.tile.toNat) else s.enqueue n .bridge p
  else
    let s := s.addTfld n Reg.MX_ROUTER_STATUS.CORRECTED e.corrected.toNat
    if e.bad then s.linkBad n (opposite out) else s.enqueue n (opposite out) p

/-- R278: the bridge link of a row works. -/
def State.bridgeOk (s : State) (w : Fin 2) (row : Nat) : Bool := (s.fld Reg.MX_BRIDGE_STATUS.LINK_OK w).testBit row

/-- R257: the packet can go on by an output now. -/
def State.canLeave (s : State) (u : Site) (input out : Dir) (p : Packet) : Bool :=
  match out with
  | .tile => s.deliverable u input p
  | .bridge => s.bridgeOk u.wing (tileRow u.tile.toNat)
  | _ => true

/-- R457, R269: the packet's meeting with another event at its tile is a choice that counts; that of a barrier packet is not. -/
def tieCounts (p : Packet) : Bool := p.kind != 9 && p.kind != 0xA

/-! ### Arrivals as commands -/

/-- The outputs of a packet that arrives at a tile: the tile, and the further links of a multicast line or a merged reply. -/
def arrivalOuts (u : Site) (p : Packet) : List Dir :=
  if (p.mcast || p.kind == 5) && decide (u.tile.toNat < 576) then outputsOf u p else [.tile]

/-- R257: an arriving packet goes on at once: nothing stands before it, no other input waits for an output that it takes, and
every output can take it. -/
def State.passes (s : State) (u : Site) (dir : Dir) (outs : List Dir) (p : Packet) : Bool :=
  ((s.tile u).queue dir).isEmpty &&
    outs.all (fun out => s.canLeave u dir out p && (inputOrder 0).all (fun d => d == dir || !s.wants u d out))

/-- R257, R262, R266: one copy of an arriving packet takes an output. -/
def State.passTo (s : State) (u : Site) (dir : Dir) (p : Packet) (out : Dir) : State :=
  let s := s.setTile u ((s.tile u).servedBy dir out)
  match out with
  | .tile => s.deliver u dir (copyFor u out p)
  | _ => s.cross u out (copyFor u out p) {}

/-- An arrival as a command: the packet goes on at once, or queues; a reserved PLACE stops the job (R261). -/
def State.arrive (s : State) (u : Site) (dir : Dir) (p : Packet) (tie : Bool) : State :=
  if reservedPacket p then s.badPacket u dir
  else if s.passes u dir (arrivalOuts u p) p then
    (arrivalOuts u p).foldl (fun s out => s.passTo u dir p out) (s.countTdc u.wing (tie && tieCounts p))
  else s.enqueue u dir p

end Sys2Proof.Machine
end

