-- ==== Sys2Proof/Machine/Array.lean ====
section
/-!
DEFINITION. The matrix array (04): formats (R130), vectors in scratchpad (R131, R132), weight sets (R133 to R135), side
lists (R42 to R45), groups of a fed vector (R49 to R53), the accumulator file (R145 to R149).
-/
namespace Sys2Proof.Machine

/-! ### Formats (R130) -/

/-- R139: AFMT 0 int4, 1 int8, 2 int16, 3 E4M3, 4 E5M2, 5 BF16. -/
def actIsInt (a : Nat) : Bool := decide (a ≤ 2)

/-- R136: WFMT 0 int4, 1 int8, 2 E4M3, 3 E5M2, 4 BF16. -/
def wIsInt (w : Nat) : Bool := decide (w ≤ 1)

/-- R130: the pairing of a stream's format with the set in force. -/
def pairingOk (a w : Nat) (sparse : Bool) : Bool :=
  match a with
  | 0 => w == 0
  | 1 | 2 => decide (w ≤ 1)
  | 3 | 4 => (w == 2 || w == 3) && !sparse
  | 5 => w == 4 && !sparse
  | _ => false

/-- R130: the granule size of an activation format. -/
def granuleBytes (a : Nat) : Nat := if a = 2 ∨ a = 5 then 128 else 64

/-- R130: tokens per vector. -/
def tokensOf (a : Nat) : Nat := if a = 0 then 2 else 1

/-- R131: the number of the granule that holds word W. -/
def granuleOf (a w : Nat) : Nat := 8 * (w % 64) / granuleBytes a

/-- R40, R132: code rows served by one exponent row, blocks per code row, blocks per granule. -/
def expRows (a : Nat) : Nat := if a = 0 then 16 else if a = 1 then 32 else 64
def expBlocks (a : Nat) : Nat := if a = 0 then 32 else if a = 1 then 16 else 8
def expGran (a : Nat) : Nat := if a = 0 then 4 else 2

/-! ### Elements -/

/-- Element `i` of bytes in a code of `b` bits (R39). -/
def element (bytes : List Byte) (b i : Nat) : Nat :=
  if b = 4 then (bytes.getD (i / 2) 0).toNat / (if i % 2 = 0 then 1 else 16) % 16
  else leNat ((bytes.drop (b / 8 * i)).take (b / 8))

/-- The first `n` elements. -/
def elements (bytes : List Byte) (b n : Nat) : List Nat :=
  if b = 4 then (bytes.flatMap (fun x => [x.toNat % 16, x.toNat / 16])).take n
  else if b = 8 then (bytes.take n).map (·.toNat)
  else (List.range n).map (element bytes b)

/-- R41: the value of an integer code, and whether it is the escape code of int4 or int8. -/
def codeVal (b c : Nat) : Int := signedOf b c
def isEscape (b c : Nat) : Bool := (b == 4 && c == 8) || (b == 8 && c == 128)

/-- A list cut into runs of `n`. -/
def chunksOf (n : Nat) : Nat → List Nat → List (List Nat)
  | 0, _ => []
  | k + 1, l => l.take n :: chunksOf n k (l.drop n)

/-! ### Weight sets -/

/-- Bits of a weight code. -/
def wBits (w : Nat) : Nat := if w = 0 then 4 else if w = 4 then 16 else 8

/-- R133: columns of a set. -/
def WeightSet.cols (x : WeightSet) : Nat := if x.sparse then 128 else if x.fmt = 4 then 16 else 64

/-- R133, R134: value rows of a load. -/
def valueRows (w : Nat) (sparse : Bool) : Nat := if sparse then (if w = 0 then 4 else 8) else if w = 1 ∨ w = 2 ∨ w = 3 then 8 else 4

/-- R42: the entries of a side list before END. -/
def sideEntries (row : List Byte) : List (BitVec 32) :=
  ((List.range 128).map (fun i => BitVec.ofNat 32 (leNat ((row.drop (4 * i)).take 4)))).takeWhile (fun e => !e.getLsbD 31)

/-- R133, R134: a weight set from its bytes: values, metadata, exponent row, side-list row. -/
def WeightSet.ofBytes (fmt : Nat) (sparse : Bool) (vals mdata xrow srow : List Byte) (side : Bool) : WeightSet :=
  let n := if sparse then 128 else if fmt = 4 then 16 else 64
  { fmt := fmt, sparse := sparse
    codes := elements vals (wBits fmt) (if sparse then 4096 else 64 * n)
    idx := if sparse then mdata.flatMap (fun b => [b.toNat % 4, b.toNat / 4 % 4, b.toNat / 16 % 4, b.toNat / 64]) else []
    exps := if wIsInt fmt then (xrow.take (2 * n)).map (fun b => b.toInt) else []
    side := if side then sideEntries srow else [] }

/-- R42: K, N and VALUE of an entry. -/
def sideK (e : BitVec 32) : Nat := e.toNat / 2 ^ 16 % 64
def sideN (e : BitVec 32) : Nat := e.toNat / 2 ^ 22 % 64
def sideV (e : BitVec 32) : Nat := e.toNat % 2 ^ 16

/-- R45: the escaped weight at (k, n) of a dense integer set. -/
def WeightSet.escaped (x : WeightSet) (k n : Nat) : Bool := isEscape (wBits x.fmt) (x.codes.getD (64 * k + n) 0)

/-- R45: entries kept, and the numbers of ignored entries out of order and without an escape. DESIGN CHOICE (log entry 59):
two rows of the table fit an entry that names no escaped weight and is also not above the last one kept; it is ignored
once, as an entry without an escape (ESC_UNMATCHED), and not as one out of order. -/
def keepEntries (x : WeightSet) : Option Nat → List (BitVec 32) → List (BitVec 32) × Nat × Nat
  | _, [] => ([], 0, 0)
  | last, e :: r =>
    let key := 64 * sideK e + sideN e
    if !x.escaped (sideK e) (sideN e) then
      let y := keepEntries x last r
      (y.1, y.2.1, y.2.2 + 1)
    else if (match last with | some l => decide (key ≤ l) | none => false) then
      let y := keepEntries x last r
      (y.1, y.2.1 + 1, y.2.2)
    else
      let y := keepEntries x (some key) r
      (e :: y.1, y.2.1, y.2.2)

/-- R45: what a fed vector counts against a set: kept entries, events and flags of the set's mismatches. -/
structure SideUse where
  kept : List (BitVec 32)
  ev : Ev
  deriving DecidableEq, Repr

def WeightSet.sideUse (x : WeightSet) : SideUse :=
  if !wIsInt x.fmt then ⟨[], Ev.none⟩
  else
    let escapes := x.codes.countP (isEscape (wBits x.fmt))
    if x.sparse then ⟨[], if escapes = 0 then Ev.none else ⟨64 + 16, escapes⟩⟩
    else
      let k := keepEntries x none x.side
      let unmatched := escapes - k.1.length
      let n := unmatched + k.2.1 + k.2.2
      ⟨k.1, ⟨(if 0 < unmatched + k.2.2 then 64 else 0) + (if 0 < k.2.1 then 128 else 0) + (if 0 < n then 16 else 0), n⟩⟩

/-- The integer value of a weight, an escape as zero (R49, R68). -/
def wValue (fmt c : Nat) : Int := if isEscape (wBits fmt) c then 0 else codeVal (wBits fmt) c

/-! ### Groups of one token -/

/-- Adds a row's products with one activation to the column sums. -/
def addProducts (sums : List Int) (a : Int) (ws : List Int) : List Int := List.zipWith (fun s w => s + a * w) sums ws

/-- R49: the block partials of every column, for one block of reduction indices. -/
def blockSums (n : Nat) (as : List Int) (rows : List (List Int)) : List Int :=
  (as.zip rows).foldl (fun sums p => addProducts sums p.1 p.2) (List.replicate n 0)

/-- R134: one kept row adds, for each column, its weight times the activation that its index names. -/
def addKept (as : List Int) (s : Nat) (sums : List Int) (ws : List Int) (is : List Nat) : List Int :=
  List.zipWith (fun x p => x + as.getD (4 * (s / 2) + p.2) 0 * p.1) sums (ws.zip is)

/-- R49, R134: the block partials of every column of a set for one token. -/
def WeightSet.partials (x : WeightSet) (as : List Int) : List (List Int) :=
  let n := x.cols
  let vals := (chunksOf n (if x.sparse then 32 else 64) x.codes).map (fun r => r.map (wValue x.fmt))
  if x.sparse then
    let idx := chunksOf n 32 x.idx
    let part (lo : Nat) := (List.range 16).foldl (fun sums i =>
      addKept as (lo + i) sums (vals.getD (lo + i) []) (idx.getD (lo + i) [])) (List.replicate n 0)
    [part 0, part 16]
  else [blockSums n (as.take 32) (vals.take 32), blockSums n (as.drop 32) (vals.drop 32)]

/-- R49: the groups of every column for one token of an integer stream: block partials and shifts. -/
def WeightSet.intGroups (x : WeightSet) (as : List Int) (eA : Int × Int) (eAcc : Int) : List Group :=
  let p := x.partials as
  (List.range x.cols).map (fun n =>
    .int [((p.getD 0 []).getD n 0, eA.1 + x.exps.getD (2 * n) 0 - eAcc),
          ((p.getD 1 []).getD n 0, eA.2 + x.exps.getD (2 * n + 1) 0 - eAcc)])

/-- R51, R53: the groups of every column of a floating-point stream, with their events. -/
def WeightSet.fpGroups (x : WeightSet) (afmt : Nat) (as : List Nat) : List (Lane × Ev) :=
  let rows := chunksOf x.cols 64 x.codes
  (List.range x.cols).map (fun n =>
    let prods := as.zip (rows.map (fun r => r.getD n 0))
    if afmt = 5 then bf16Group prods
    else fp8Group (if afmt = 3 then fmtE4m3 else fmtE5m2) (if x.fmt = 2 then fmtE4m3 else fmtE5m2) prods)

/-! ### The accumulator file (R145 to R148) -/

/-- R155: a region as its register holds it. -/
structure Region where
  base : Nat
  rows : Nat
  side : Bool
  valid : Bool
  deriving DecidableEq, Repr

def State.region (s : State) (u : Site) (r : Nat) : Region :=
  let v := s.reg (Reg.AY_REGION.BASE.on u r)
  { base := getBits v 0 11, rows := getBits v 11 11 + 1, side := getBits v 22 1 != 0, valid := getBits v 23 1 != 0 }

/-- R145: accumulator rows of a region, side rows included. -/
def Region.size (r : Region) : Nat := if r.side then 2 * r.rows else r.rows

/-- R153, cause 11: the region may be targeted at a row. -/
def Region.ok (r : Region) (row : Nat) : Bool := r.valid && decide (row < r.rows) && decide (r.base + r.size ≤ 2048)

def Tile.accRow (t : Tile) (i : Nat) : AccRow := sget (fun _ => {}) t.acc i

def Tile.setAccRow (t : Tile) (i : Nat) (x : AccRow) : Tile := { t with acc := sset (fun _ => {}) t.acc i x }

/-- R148: every row of a region becomes empty. -/
def Tile.releaseRegion (t : Tile) (r : Region) : Tile :=
  { t with acc := t.acc.filter (fun e => decide (e.1 < r.base) || decide (r.base + r.size ≤ e.1)) }

/-- R44: one outlier product added to a side accumulator. -/
def sideAdd (a : Lane × Ev) (x : Int × Int × Nat) : Lane × Ev :=
  let prod := finish 0 (Fp.mul (dyad false x.1 x.2.1) (fmtBf16.decode x.2.2))
  let r := fpAdd 0 a.1 prod.1
  (r.1, (a.2.join prod.2).join r.2)

/-- R49, R52, R148: a group accumulates into an entry; `first` says that the row was empty. -/
def accumulate (first : Bool) (old : Lane) : Group → Lane × Ev
  | .int bs => intAccumulate old bs
  | .fp g => if first then (g, Ev.none) else fpAdd 0 old g

def Group.typ : Group → Nat
  | .int _ => 1
  | .fp _ => 2

/-- R148: the groups of one row written into it; the new row and the events. -/
def accWriteRow (x : AccRow) (gs : List (Nat × Group)) : AccRow × Ev :=
  let first := decide (x.typ = 0)
  gs.foldl (fun (r : AccRow × Ev) g =>
    let v := accumulate first (sget (fun _ => 0) r.1.vals g.1) g.2
    ({ typ := g.2.typ, vals := sset (fun _ => 0) r.1.vals g.1 v.1 }, r.2.join v.2)) (x, Ev.none)

/-- R44: the outliers of one row added into its side row. -/
def sideWriteRow (x : AccRow) (os : List (Nat × List (Int × Int × Nat))) : AccRow × Ev :=
  os.foldl (fun (r : AccRow × Ev) o =>
    let v := o.2.foldl sideAdd (sget (fun _ => 0) r.1.vals o.1, Ev.none)
    ({ r.1 with vals := sset (fun _ => 0) r.1.vals o.1 v.1 }, r.2.join v.2)) (x, Ev.none)

/-! ### Streams -/

/-- R156: `AY_STATUS` follows the array. DESIGN CHOICE (log entry 59): ACTIVE_SIDE counts every entry before END, also those
that R45 ignores when a vector is fed. -/
def State.refreshArray (s : State) (u : Site) : State :=
  let t := s.tile u
  let claimed := t.feeder.any (fun x => x.swap && !x.begun)
  let shadow := if t.fill.isSome then 1 else match t.shadow with
    | none => 0
    | some _ => if claimed then 3 else 2
  let act := match t.active with
    | none => 0
    | some x => (x.fmt + 1) * 2 ^ 4 + (if x.sparse then 2 ^ 7 else 0) + x.side.length * 2 ^ 8
  s.setReg (Reg.AY_STATUS.FEEDER.on u 0) (BitVec.ofNat 64 (t.feeder.length + shadow * 2 ^ 2 + act))

/-- R143: the active and shadow sets after the streams of a list that have not begun take their exchanges. -/
def setsAfter : List Stream → Option WeightSet × Option WeightSet → Option WeightSet × Option WeightSet
  | [], p => p
  | x :: r, p => setsAfter r (if x.swap && !x.begun then (p.2, p.1) else p)

/-- R153: the set that will be in force when a stream issued now begins to feed. -/
def Tile.setInForce (t : Tile) (swap : Bool) : Option WeightSet :=
  let p := setsAfter t.feeder (t.active, match t.fill with | some f => some f.set | none => t.shadow)
  if swap then p.2 else p.1

/-- R147: the main row of output column `n` of token `tok` of vector `j`. -/
def mainRow (rows row0 q tokens j tok n : Nat) : Nat := (row0 + q * (tokens * j + tok) + n / 64) % rows

/-- R131: the bytes of a vector's granule. -/
def State.vecBytes (s : State) (u : Site) (afmt : Nat) (v : VecSrc) : List Byte :=
  s.readRun u.wing (rowOffset u.tile.toNat v.row + v.byte) (granuleBytes afmt)

/-- R150: every code of the vector is zero, in a mode that skips. -/
def vecSkips (afmt : Nat) (bytes : List Byte) : Bool := actIsInt afmt && bytes.all (fun b => b == 0)

/-- R132: block exponents of a token of a vector. -/
def State.vecExps (s : State) (u : Site) (v : VecSrc) (tok : Nat) : Int × Int :=
  match v.xrow with
  | none => (0, 0)
  | some r =>
    let b := s.readRun u.wing (rowOffset u.tile.toNat r + v.xbyte + 2 * tok) 2
    ((b.getD 0 0).toInt, (b.getD 1 0).toInt)

/-- The accumulator rows that a group list of one token lands in, with the outliers of each (R44, R147). -/
def tokenWrites (reg : Region) (x : Stream) (q tok : Nat) (groups : List Group)
    (outs : List (Nat × List (Int × Int × Nat))) : List AccWrite :=
  (List.range ((groups.length + 63) / 64)).map (fun h =>
    let r := mainRow reg.rows x.row0 q (tokensOf x.afmt) x.next tok (64 * h)
    { row := reg.base + r, sideRow := if reg.side then some (reg.base + reg.rows + r) else none
      groups := ((groups.drop (64 * h)).take 64).zipIdx.map (fun p => (p.2, p.1))
      outliers := outs.filterMap (fun o => if 64 * h ≤ o.1 ∧ o.1 < 64 * h + 64 then some (o.1 - 64 * h, o.2) else none)
      iss := x.iss, pc := x.pc })

/-- R44: the outliers of one token by column, in ascending K. -/
def tokenOutliers (kept : List (BitVec 32)) (as : List Int) (eA : Int × Int) : List (Nat × List (Int × Int × Nat)) :=
  let cols := (kept.map sideN).eraseDups
  cols.map (fun n => (n, (kept.filter (fun e => sideN e == n)).map (fun e =>
    let k := sideK e
    (as.getD k 0, if k < 32 then eA.1 else eA.2, sideV e))))

/-- R49 to R53, R144, R147: the writes and events of one fed vector. -/
def State.feedVector (s : State) (u : Site) (set : WeightSet) (x : Stream) (v : VecSrc) (bytes : List Byte) :
    List AccWrite × Ev :=
  let reg := s.region u x.region
  if actIsInt x.afmt then
    let bits := if x.afmt = 0 then 4 else if x.afmt = 1 then 8 else 16
    let su := set.sideUse
    (List.range (tokensOf x.afmt)).foldl (fun (acc : List AccWrite × Ev) tok =>
      let codes := elements (bytes.drop (32 * tok)) bits 64
      let escs := codes.countP (isEscape bits)
      let as := codes.map (fun c => if isEscape bits c then 0 else codeVal bits c)
      let eA := s.vecExps u v tok
      let ws := tokenWrites reg x (if set.sparse then 2 else 1) tok (set.intGroups as eA x.eAcc) (tokenOutliers su.kept as eA)
      let e := if escs = 0 then su.ev else su.ev.join ⟨32 + 16, escs⟩
      (acc.1 ++ ws, acc.2.join e)) ([], Ev.none)
  else
    let codes := elements bytes (if x.afmt = 5 then 16 else 8) 64
    let g := set.fpGroups x.afmt codes
    (tokenWrites reg x 1 0 (g.map (fun p => .fp p.1)) [], g.foldl (fun a p => a.join p.2) Ev.none)

/-- R170, R141: rows that a stream or load has read for the last time are counted, once for each row, and their locks end. -/
def State.unlockRows (s : State) (u : Site) (xs : List (Nat × Nat)) : State :=
  (oneEachRow (xs.map (fun p => ⟨p.1, p.2⟩))).foldl (fun s x => (s.countRead u x).settleRow u x.row) s

/-- R170: the rows of a vector, and at the stream's end its header row, that the rest of the stream does not read in any role. -/
def doneRows (v : VecSrc) (rest : List VecSrc) (header : Option (Nat × Nat)) : List (Nat × Nat) :=
  ((v.handle, v.row) :: ((v.xrow.map (fun r => (v.xhandle, r))).toList ++ (if rest.isEmpty then header.toList else []))).filter
    (fun p => !rest.any (fun y => y.row == p.2 || y.xrow == some p.2) &&
      (rest.isEmpty || (header.map (·.2)) != some p.2))

/-- R143: the stream at the head of the feeder begins to feed, and exchanges the sets when it swaps. -/
def State.streamBegin (s : State) (u : Site) : State :=
  let t := s.tile u
  match t.feeder with
  | x :: r =>
    if x.begun then s
    else
      let t := if x.swap then { t with active := t.shadow, shadow := t.active } else t
      (s.setTile u { t with feeder := { x with begun := true } :: r }).refreshArray u
  | [] => s

/-- R163, R164: an uncorrectable codeword in the rows that a vector reads. -/
def Tile.vecUe (t : Tile) (v : VecSrc) (found : RowErr) : Option (Nat × Nat × Bool) :=
  ((t.rowUe v.row found).map (fun c => (v.row, c))).or (v.xrow.bind (fun r => (t.rowUe r {}).map (fun c => (r, c))))

/-- R144, R150, R163, R164: the head stream feeds its next vector, or skips it; `found` is what the code finds in its rows. -/
def State.vectorFeed (s : State) (u : Site) (found : RowErr) : State :=
  let t := s.tile u
  match t.feeder, t.active with
  | x :: r, some set =>
    if !x.begun then s
    else match x.vecs with
      | [] => s
      | v :: vs => match t.vecUe v found with
       | some c => s.eccStop u c.1 c.2.1 false c.2.2
       | none =>
        let bytes := s.vecBytes u x.afmt v
        let f := s.feedVector u set x v bytes
        let s := s.countCorrected u found
        let x' := { x with vecs := vs, next := x.next + 1 }
        let left := if vs.isEmpty then r else x' :: r
        let done := doneRows v vs x.header
        let s' :=
          if vecSkips x.afmt bytes then
            (s.setTile u { t with feeder := left }).addTfld u Reg.AY_SKIP_COUNT.SKIPPED 1
          else
            (((s.setTile u { t with feeder := left, accWrites := t.accWrites ++ f.1 }).addTfld u
              Reg.AY_FED_COUNT.FED 1).addEv u x.iss f.2)
        ((s'.unlockRows u done).refreshArray u).pumpTile u
  | _, _ => s

/-- R148: the oldest fed result is accumulated into its row; a group of the other type stops the job. -/
def State.accRowWrite (s : State) (u : Site) : State :=
  let t := s.tile u
  match t.accWrites with
  | [] => s
  | w :: r =>
    let row := t.accRow w.row
    let typ := match w.groups with | (_, g) :: _ => g.typ | [] => row.typ
    if row.typ ≠ 0 ∧ row.typ ≠ typ then
      (s.setTile u { t with accWrites := r }).tileFault u stTagFault 12 w.pc
    else
      let m := accWriteRow row w.groups
      let t := { (t.setAccRow w.row m.1) with accWrites := r }
      match w.sideRow with
      | some sr =>
        let y := sideWriteRow (t.accRow sr) w.outliers
        (s.setTile u (t.setAccRow sr y.1)).addEv u w.iss (m.2.join y.2)
      | none => (s.setTile u t).addEv u w.iss m.2

/-- R138: the fill completes: the shadow set is loaded and the load's rows are read for the last time. -/
def State.fillComplete (s : State) (u : Site) : State :=
  let t := s.tile u
  match t.fill with
  | none => s
  | some f => (((s.setTile u { t with fill := none, shadow := some f.set }).unlockRows u f.rows).refreshArray u).pumpTile u

/-! ### Drain conditions (R89, R142, R148) -/

/-- R143: the set that the stream in place `i` of the feeder runs against. -/
def Tile.setOfStream (t : Tile) (i : Nat) : Option WeightSet :=
  let shadow := match t.fill with | some f => some f.set | none => t.shadow
  (setsAfter (t.feeder.take (i + 1)) (t.active, shadow)).1

/-- R147: the accumulator rows, side rows included, that a stream still writes. -/
def State.streamRows (s : State) (u : Site) (x : Stream) (sparse : Bool) : List Nat :=
  let reg := s.region u x.region
  let q := if sparse then 2 else 1
  (List.range x.vecs.length).flatMap (fun j => (List.range (tokensOf x.afmt)).flatMap (fun tok =>
    (List.range q).flatMap (fun h =>
      let m := reg.base + mainRow reg.rows x.row0 q (tokensOf x.afmt) (x.next + j) tok (64 * h)
      if reg.side then [m, m + reg.rows] else [m])))

/-- R89: an earlier-issued array operation still has a result to write into accumulator row `i`. -/
def State.accPending (s : State) (u : Site) (i : Nat) : Bool :=
  let t := s.tile u
  t.accWrites.any (fun w => w.row == i || w.sideRow == some i) ||
    t.feeder.zipIdx.any (fun p =>
      (s.streamRows u p.1 (match t.setOfStream p.2 with | some y => y.sparse | none => false)).contains i)

/-- R89: with RELEASE, an earlier-issued array operation still targets the region. -/
def State.regionPending (s : State) (u : Site) (r : Nat) : Bool :=
  let t := s.tile u
  let reg := s.region u r
  t.feeder.any (fun x => x.region == r) ||
    t.accWrites.any (fun w => decide (reg.base ≤ w.row) && decide (w.row < reg.base + reg.size))

end Sys2Proof.Machine
end

