-- ==== Sys2Proof/Machine/Special.lean ====
section
/-!
DEFINITION. The special functions (R65, R66): coefficients from their formulas by exact integer arithmetic, the quadratic
evaluated exactly and rounded once.
-/
namespace Sys2Proof.Machine

/-- Newton's iteration from above for the integer square root. -/
def isqrtFrom : Nat → Nat → Nat → Nat
  | 0, _, x => x
  | f + 1, n, x =>
    let y := (x + n / x) / 2
    if y < x then isqrtFrom f n y else x

/-- The largest integer whose square is at most n. -/
def isqrt (n : Nat) : Nat := if n = 0 then 0 else isqrtFrom 64 n (2 ^ (Nat.log2 n / 2 + 1))

/-- RNE(a / b, 1) of a positive quotient. -/
def rneDiv (a b : Nat) : Nat :=
  let q := a / b
  let r := a % b
  if b < 2 * r ∨ (2 * r = b ∧ q % 2 = 1) then q + 1 else q

/-- RNE(sqrt(a / b), 1): k is floor(2 sqrt(a / b)), and a tie needs 4a / b to be the square of k. -/
def rneSqrt (a b : Nat) : Nat :=
  let k := isqrt (4 * a / b)
  let m := k / 2
  if k % 2 = 0 then m else if k * k * b = 4 * a then m + m % 2 else m + 1

/-- Working precision of the irrational coefficients: 2^-160, far below the distance of any of them from a tie. -/
def wp : Nat := 160

/-- ln 2 times 2^wp, from the series sum of 1 / (k 2^k). -/
def ln2Scaled : Nat := (List.range 200).foldl (fun a k => a + 2 ^ (wp + 40) / ((k + 1) * 2 ^ (k + 1))) 0 / 2 ^ 40

/-- 2^(2^-j) times 2^wp, by repeated square roots. -/
def rootOfTwo : Nat → Nat
  | 0 => 2 ^ (wp + 1)
  | j + 1 => isqrt (rootOfTwo j * 2 ^ wp)

/-- 2^(i / 128) times 2^wp. -/
def exp2Scaled (i : Nat) : Nat :=
  (List.range 7).foldl (fun a j => if i.testBit (6 - j) then a * rootOfTwo (j + 1) / 2 ^ wp else a) (2 ^ wp)

/-- R65: the coefficients of a segment, in units of 2^-30, 2^-24 and 2^-18. -/
structure Coeffs where
  c0 : Int
  c1 : Int
  c2 : Int
  deriving DecidableEq, Repr

/-- `VEXP2`: f(u) = 2^u at u_i = i / 128. -/
def exp2Coeffs (i : Nat) : Coeffs :=
  let v := exp2Scaled i
  let l := ln2Scaled
  { c0 := rneDiv (v * 2 ^ 30) (2 ^ wp)
    c1 := rneDiv (v * l * 2 ^ 24) (2 ^ (2 * wp))
    c2 := rneDiv (v * l * l * 2 ^ 18) (2 ^ (3 * wp + 1)) }

/-- `VRCP`: f(u) = 1 / u at u_i = 1 + i / 512. -/
def rcpCoeffs (i : Nat) : Coeffs :=
  let u := 512 + i
  { c0 := rneDiv (2 ^ 30 * 512) u
    c1 := -(rneDiv (2 ^ 24 * 512 ^ 2) (u ^ 2) : Int)
    c2 := rneDiv (2 ^ 18 * 512 ^ 3) (u ^ 3) }

/-- `VRSQ`: f(u) = u^(-1/2) at u_i = n / 256; below 256 segments on [1, 2), then on [2, 4) in steps of 1 / 128. -/
def rsqCoeffs (i : Nat) : Coeffs :=
  let n := if i < 256 then 256 + i else 2 * i
  { c0 := rneSqrt (2 ^ 60 * 256) n
    c1 := -(rneSqrt (2 ^ 46 * 256 ^ 3) (n ^ 3) : Int)
    c2 := rneSqrt (9 * 2 ^ 30 * 256 ^ 5) (n ^ 5) }

/-- R65: p = c0 + c1 d + c2 d^2 exactly, for d = `n` * 2^-`b`; the exponent of the result is -(18 + 2 b) - 30. -/
def polyAt (c : Coeffs) (n b : Nat) : Int × Int :=
  (c.c0 * 2 ^ (18 + 2 * b) + c.c1 * n * 2 ^ (24 + b) + c.c2 * (n * n : Nat) * 2 ^ 30, -(48 + 2 * (b : Int)))

/-- The leading significand of a finite value: its magnitude as f * 2^(x - 23) with f of 24 bits. -/
def normal24 (m : Nat) (e : Int) : Nat × Int :=
  let l := Nat.log2 m
  if l ≤ 23 then (m * 2 ^ (23 - l), e + l) else (m / 2 ^ (l - 23), e + l)

/-- `VEXP2` (R65, R66). -/
def vexp2 (x : Lane) : Lane × Ev :=
  match fp x with
  | .nan => (nanLane, evNV)
  | .inf neg => (if neg then 0 else 0x7F800000, Ev.none)
  | .fin neg m e =>
    if m = 0 ∨ (Nat.log2 m : Int) + e < -25 then (0x3F800000, Ev.none)
    else if neg = false ∧ 7 ≤ (Nat.log2 m : Int) + e then (0x7F800000, evOF)
    else if neg = true ∧ 8 ≤ (Nat.log2 m : Int) + e then (0, evUF)
    else
      -- floor(x * 2^24): the 24-bit fraction below the integer n.
      let v : Int := scaleTo neg m 0 0
      let t : Int := if 0 ≤ e + 24 then v * 2 ^ (e + 24).toNat else v.fdiv (2 ^ (-(e + 24)).toNat)
      let n := t.fdiv (2 ^ 24)
      let f := (t - n * 2 ^ 24).toNat
      let p := polyAt (exp2Coeffs (f / 2 ^ 17)) (f % 2 ^ 17) 24
      let r := toFp 0 (dyad false p.1 (p.2 + n))
      if r.1.toNat < 0x00800000 then (r.1, r.2.join evUF) else r

/-- `VRCP` (R65, R66). -/
def vrcp (x : Lane) : Lane × Ev :=
  match fp x with
  | .nan => (nanLane, evNV)
  | .inf neg => (if neg then 0x80000000 else 0, Ev.none)
  | .fin neg m e =>
    if m = 0 then (if neg then 0xFF800000 else 0x7F800000, evDZ)
    else
      let u := normal24 m e
      let frac := u.1 - 2 ^ 23
      let p := polyAt (rcpCoeffs (frac / 2 ^ 14)) (frac % 2 ^ 14) 23
      toFp 0 (.fin neg p.1.natAbs (p.2 - u.2))

/-- `VRSQ` (R65, R66). -/
def vrsq (x : Lane) : Lane × Ev :=
  match fp x with
  | .nan => (nanLane, evNV)
  | .inf neg => if neg then (nanLane, evNV) else (0, Ev.none)
  | .fin neg m e =>
    if m = 0 then (if neg then 0xFF800000 else 0x7F800000, evDZ)
    else if neg then (nanLane, evNV)
    else
      let u := normal24 m e
      let n' := u.2.fdiv 2
      let odd := decide (u.2 % 2 = 1)
      let frac := u.1 - 2 ^ 23
      let i := frac / 2 ^ 15
      -- u = 2^odd * (1 + frac / 2^23); d counts 2^-23 on [1, 2) and 2^-22 on [2, 4).
      let p := if odd then polyAt (rsqCoeffs (256 + i)) (frac % 2 ^ 15) 22
               else polyAt (rsqCoeffs i) (frac % 2 ^ 15) 23
      toFp 0 (.fin false p.1.natAbs (p.2 - n'))

/-- `VSIGM` (R65, R66): the steps raise no flag of their own. -/
def vsigm (x : Lane) : Lane × Ev :=
  match fp x with
  | .nan => (nanLane, evNV)
  | .inf neg => (if neg then 0 else 0x3F800000, Ev.none)
  | .fin _ m e =>
    if m = 0 ∨ (Nat.log2 m : Int) + e < -126 then (0x3F000000, Ev.none)
    else
      let t := (fpMul 0 x 0x3FB8AA3B).1
      let w := (vexp2 (t ^^^ 0x80000000)).1
      let v := (fpAdd 0 0x3F800000 w).1
      ((vrcp v).1, Ev.none)

end Sys2Proof.Machine
end

