-- ==== Sys2Proof/Machine/Vector.lean ====
section
/-!
DEFINITION. The vector unit (R112 to R120): lane operations, widening (R115), narrowing into granules (R116),
quantisation (R117), reductions (R119), lists (R120), and the scalar forms.
-/
namespace Sys2Proof.Machine

/-- R54: bits of an element of a format code. -/
def fmtBits (f : Nat) : Nat := if f = 0 then 4 else if f = 1 ∨ f = 4 ∨ f = 5 then 8 else if f = 2 ∨ f = 6 then 16 else 32

/-- R115: slices of 64 elements in a row. -/
def fmtSlices (f : Nat) : Nat := 64 / fmtBits f

/-- R487: the latency class of a vector instruction. -/
def vecClass : VKind → Nat
  | .vadd | .vsub | .vmul | .vcvtif | .vcvtfi => 3
  | .vfma | .vqnt | .vresc | .vrmax | .vtopk => 4
  | .vrsum => 5
  | .vexp2 | .vrcp | .vrsq => 6
  | .vsigm => 7
  | _ => 2

/-- R114: one lane of an instruction that works lane by lane. -/
def laneFn (k : VKind) (mode : Nat) (a b c : Lane) : Lane × Ev :=
  match k with
  | .vadd => fpAdd mode a b
  | .vsub => fpSub mode a b
  | .vmul => fpMul mode a b
  | .vfma => fpFma mode a b c
  | .vmax => (fpMax a b, Ev.none)
  | .vmin => (fpMin a b, Ev.none)
  | .vabs => (if isNan a then nanLane else a &&& 0x7FFFFFFF, Ev.none)
  | .vneg => (if isNan a then nanLane else a ^^^ 0x80000000, Ev.none)
  | .vcmplt => (if fpLess a b then 1 else 0, Ev.none)
  | .vcmpeq => (if fpEq a b then 1 else 0, Ev.none)
  | .viadd => (a + b, Ev.none)
  | .visub => (a - b, Ev.none)
  | .vimul => (a * b, Ev.none)
  | .vshl => (a <<< (b.toNat % 32), Ev.none)
  | .vshr => (a.sshiftRight (b.toNat % 32), Ev.none)
  | .vand => (a &&& b, Ev.none)
  | .vor => (a ||| b, Ev.none)
  | .vxor => (a ^^^ b, Ev.none)
  | .vsel => (if a = 0 then c else b, Ev.none)
  | .vcvtif => cvtIF mode a
  | .vcvtfi => cvtFI mode a
  | .vexp2 => vexp2 a
  | .vrcp => vrcp a
  | .vrsq => vrsq a
  | .vsigm => vsigm a
  | _ => (a, Ev.none)

/-- Lanes of three registers through a lane operation, with the events of all lanes. -/
def laneMap (f : Lane → Lane → Lane → Lane × Ev) (a b c : List Lane) : List Lane × Ev :=
  let rs := (a.zip (b.zip c)).map (fun p => f p.1 p.2.1 p.2.2)
  (rs.map (·.1), rs.foldl (fun e r => e.join r.2) Ev.none)

/-- R114: the instruction's result depends on VA, VB and VC lane by lane. -/
def isLaneKind : VKind → Bool
  | .vadd | .vsub | .vmul | .vfma | .vmax | .vmin | .vabs | .vneg | .vcmplt | .vcmpeq | .viadd | .visub | .vimul
  | .vshl | .vshr | .vand | .vor | .vxor | .vsel | .vcvtif | .vcvtfi | .vexp2 | .vrcp | .vrsq | .vsigm => true
  | _ => false

/-! ### VLD (R115) -/

/-- R115: one element widened to a lane. -/
def widenElement (f c : Nat) : Lane :=
  if f ≤ 2 then BitVec.ofInt 32 (signedOf (fmtBits f) c)
  else if f = 3 ∨ f = 7 then BitVec.ofNat 32 c
  else widen (fpFmtOf f) c

/-- R115: an integer code with its block exponent; an escape becomes 0 and counts as an activation escape (R45). -/
def widenScaled (f c : Nat) (e : Int) : Lane × Ev :=
  if isEscape (fmtBits f) c then (0, ⟨32 + 16, 1⟩)
  else toFp 0 (dyad false (signedOf (fmtBits f) c) e)

/-- R115: the 64 lanes of a slice of a row; `exps` is the exponent row when XE applies. -/
def loadSlice (row : List Byte) (exps : Option (List Byte)) (f slice off : Nat) : List Lane × Ev :=
  let els := (elements (row.drop (slice * 8 * fmtBits f)) (fmtBits f) 64)
  match exps with
  | none => (els.map (widenElement f), Ev.none)
  | some x =>
    let rs := els.zipIdx.map (fun p => widenScaled f p.1 (x.getD (off + (64 * slice + p.2) / 32) 0).toInt)
    (rs.map (·.1), rs.foldl (fun e r => e.join r.2) Ev.none)

/-! ### VST (R116) -/

/-- R116: one lane narrowed to a code of a format. -/
def narrowLane (f mode : Nat) (x : Lane) : Nat × Ev :=
  if f = 3 ∨ f = 7 then (x.toNat, Ev.none)
  else if f ≤ 2 then (bitsOfInt (fmtBits f) (clampInt f x), Ev.none)
  else (fpFmtOf f).encode mode (fp x)

/-- Bytes of codes of `b` bits, in element order (R39). -/
def packCodes (b : Nat) : List Nat → List Byte
  | [] => []
  | [c] => leBytes (max 1 (b / 8)) c
  | c :: d :: r => if b = 4 then BitVec.ofNat 8 (c % 16 + 16 * (d % 16)) :: packCodes b r
                   else leBytes (b / 8) c ++ packCodes b (d :: r)

/-- R116: lanes that a `VST` writes: all, or a half or quarter. -/
def storeLanes (f q : Nat) (ls : List Lane) : List Lane :=
  if fmtBits f = 16 then (ls.drop (32 * q)).take 32 else if fmtBits f = 32 then (ls.drop (16 * q)).take 16 else ls

/-- R116: the granule's byte offset in its row. -/
def storeOffset (f w immB : Nat) : Nat :=
  if f = 0 then 32 * ((w / 4 + immB) % 16) else 64 * ((w / 8 + immB) % 8)

/-- R116: the bytes of a granule and the events of its conversions. -/
def storeGranule (f mode q : Nat) (ls : List Lane) : List Byte × Ev :=
  let rs := (storeLanes f q ls).map (narrowLane f mode)
  (packCodes (fmtBits f) (rs.map (·.1)), rs.foldl (fun e r => e.join r.2) Ev.none)

/-- R116: the largest q of a format. -/
def maxQuarter (f : Nat) : Nat := if fmtBits f = 16 then 1 else if fmtBits f = 32 then 3 else 255

/-! ### VRMAX and VTOPK (R64, R119, R120) -/

/-- R114: the maximum of the lanes. -/
def laneMax (ls : List Lane) : Lane := ls.foldl fpMax nanLane

/-- R120: an entry goes before another: larger value, or equal value and lower index. -/
def topBefore (a b : Lane × Lane) : Bool :=
  fpLess b.1 a.1 || (fpEq a.1 b.1 && decide (a.2.toNat < b.2.toNat))

/-- An entry put in its place, behind those it does not go before. -/
def topInsert (x : Lane × Lane) : List (Lane × Lane) → List (Lane × Lane)
  | [] => [x]
  | y :: r => if topBefore x y then x :: y :: r else y :: topInsert x r

/-- R47: a value as a result carries it: any NaN is the canonical one. -/
def canonLane (x : Lane) : Lane :=
  match fp x with
  | .nan => nanLane
  | _ => x

/-- R120, R47: the new VD: k entries kept of the list and the candidates. -/
def topK (k : Nat) (fresh : Bool) (start : Nat) (vd va : List Lane) : List Lane :=
  let old := if fresh then [] else (List.range k).map (fun i => (vd.getD i 0, vd.getD (8 + i) 0))
  let cand := va.zipIdx.map (fun p => (p.1, BitVec.ofNat 32 (start + p.2)))
  let kept := ((old ++ cand).foldl (fun l x => (topInsert x l).take k) [])
  let pad (l : List Lane) := l ++ List.replicate (8 - l.length) 0
  pad (kept.map (fun x => canonLane x.1)) ++ pad (kept.map (·.2)) ++ List.replicate 48 0

/-! ### Scalar forms (R113, R114) -/

/-- R114: the scalar result; `a`, `b` and `d` are s[SA], s[SB] and s[SD]. -/
def scalarFn (k : SKind) (f : SForm) (a b d : Word) : Word :=
  let imm : Word := f.imm32.signExtend 64
  let bi : Word := if f.sb = 0 then imm else b
  match k with
  | .vsadd => a + b + imm
  | .vssub => a - b - imm
  | .vsmul => a * b
  | .vsand => a &&& bi
  | .vsor => a ||| bi
  | .vsxor => a ^^^ bi
  | .vsshl => a <<< ((b + imm).toNat % 64)
  | .vsshr => a.sshiftRight ((b + imm).toNat % 64)
  | .vsmin => if b.toInt < a.toInt then b else a
  | .vsmax => if a.toInt < b.toInt then b else a
  | .vsli => if f.h then BitVec.ofNat 64 (f.imm32.toNat * 2 ^ 32 + d.toNat % 2 ^ 32) else imm

end Sys2Proof.Machine
end

