-- ==== Sys2Proof/Machine/Tile.lean ====
section
/-!
DEFINITION. A tile (03): what each slot of a bundle needs (rows, generators, faults), when the bundle waits (R30, R89), and
what its issue does (R29, R75 to R111), as one operation that every tile command calls.
-/
namespace Sys2Proof.Machine

/-! ### Register access (R15 to R19) -/

/-- R17: a register value after a 64-bit write, by the access code of each field; write-only fields trigger elsewhere. -/
def RegRow.write (r : RegRow) (old new : Word) : Word :=
  r.fields.foldl (fun v f =>
    let x := getBits new f.fld.lo f.fld.width
    match f.acc with
    | .rw | .rwl => setBits v f.fld.lo f.fld.width x
    | .w1c => setBits v f.fld.lo f.fld.width (getBits v f.fld.lo f.fld.width &&& (2 ^ f.fld.width - 1 - x))
    | .ro | .wo | .otp => v) old

/-- R17 applied to the register at a BAR0 offset. -/
def State.writeAccess (s : State) (b : Block) (o a : Nat) (v : Word) : State :=
  match b.row? o with
  | some r => s.setReg a (r.write (s.reg a) v)
  | none => s

/-! ### Needs of a slot -/

/-- What a slot names: its lowest fault, rows read, whole rows and narrow rows written, generators advanced. -/
structure Need where
  fault : Option Nat := none
  reads : List RowRef := []
  writes : List RowRef := []
  narrow : List RowRef := []
  adv : List Nat := []
  deriving DecidableEq, Repr

/-- The first cause whose condition holds, of a list in ascending order of cause (R643). -/
def firstCause (l : List (Bool × Nat)) : Option Nat := (l.find? (·.1)).map (·.2)

/-- R83, R87: the generator that a row operand advances. -/
def opAdv (r : RowOp) : List Nat := if !r.kind && r.adv then [rowGen r] else []

def optRows : Option (List RowRef) → List RowRef
  | some l => l
  | none => []

/-- R161: a row of a powered-down tier adds cause 15. -/
def State.withTier (s : State) (u : Site) (n : Need) : Need :=
  let down := (n.reads ++ n.writes ++ n.narrow).any (fun x => s.rowDown u x.row)
  { n with fault := n.fault.or (if down then some 15 else none) }

/-- R95, R96: the bundle stands at the END of a held loop. -/
def State.atLoopEnd (s : State) (u : Site) : Bool := (s.tile u).loops.any (fun x => x.last == s.pc u)

/-- R97: the row that a `TWAIT` of kind 0 or 1 names. -/
def State.twaitRow (s : State) (u : Site) (r : RowOp) : List RowRef := optRows (s.operandRows u r 1)

def State.ctlNeed (s : State) (u : Site) : CtlOp → Need
  | .brc cond .. => { fault := firstCause [(decide (8 ≤ cond.toNat), 1), (s.atLoopEnd u, 4)] }
  | .loop .. => { fault := firstCause [(s.atLoopEnd u, 4), (decide (4 ≤ (s.tile u).loops.length), 4)] }
  | .twait kind rowop fid _ =>
    let rows := decide (kind.toNat ≤ 1)
    { fault := firstCause [
        (decide (5 ≤ kind.toNat) || (rows && rowBadIndex rowop) || (kind == 4 && decide (16 ≤ fid.toNat)), 1),
        (rows && (s.operandRows u rowop 1).isNone, 2),
        (rows && (s.twaitRow u rowop).any (fun x => s.rowDown u x.row), 15)]
      adv := if rows then opAdv rowop else [] }
  | .stepBegin => {}
  | .stepEnd => { fault := if (s.tile u).ended then some 6 else none }
  | .reserved => { fault := some 1 }

/-- R102: an offset that the tile's own program may name. -/
def tcOffsetOk (o : Nat) : Bool := o % 8 == 0 && decide (o < 0x400) && (Block.row? .tile o).isSome

/-- R100, R101: the row that word W + WOFF of an operand lies in. -/
def State.wordRow (s : State) (u : Site) (r : RowOp) (woff : Nat) : Option (List RowRef) :=
  s.rowsOf u r.handle.toNat ((s.rowWord u r + woff) / 64) 1

/-- R194: the rows that a value written to `TC_TAG_EMPTY` names. -/
def State.tagEmptyRows (s : State) (u : Site) (v : Word) : Option (List RowRef) :=
  s.rowsOf u (getBits v 0 8) (getBits v 8 14) (getBits v 22 14 + 1)

/-- R195: the row that a value written to `TC_GATHER_SEAL` names. -/
def State.sealRow (s : State) (u : Site) (v : Word) : Option (List RowRef) :=
  s.rowsOf u (getBits v 0 8) (getBits v 8 14) 1

/-- R174: a row that `TC_TAG_EMPTY` may not name. -/
def Tile.qClaimed (t : Tile) (r : Nat) : Bool :=
  match t.claimOf r with | some (.load _) => true | some .remote => true | _ => false

/-- R174, R194, R195: the fault that a write of a tile register meets. -/
def State.tcWriteFault (s : State) (u : Site) (o : Nat) (v : Word) : Option Nat :=
  if o = 0x48 then
    match s.tagEmptyRows u v with
    | none => some 2
    | some l => if l.any (fun x => (s.tile u).qClaimed x.row) then some 15 else none
  else if o = 0x50 then (if (s.sealRow u v).isNone then some 2 else none)
  else none

def State.memNeed (s : State) (u : Site) : MemOp → Need
  | .ldw tkind tgt skind src woff =>
    let op := RowOp.ofBits src
    let rows := s.wordRow u op woff.toNat
    let sp := skind == 0
    { fault := firstCause [
        (decide (2 ≤ tkind.toNat) || (tkind == 1 && decide (32 ≤ tgt.toNat)) || decide (2 ≤ skind.toNat) ||
          (sp && rowBadIndex op), 1),
        (sp && rows.isNone, 2), (skind == 1 && !tcOffsetOk src.toNat, 7)]
      reads := if sp then optRows rows else []
      adv := if sp then opAdv op else [] }
  | .stw src dkind dst woff =>
    let op := RowOp.ofBits dst
    let rows := s.wordRow u op woff.toNat
    let sp := dkind == 0
    let v := (s.tile u).scalar src.toNat
    let wf := if dkind == 1 && tcOffsetOk dst.toNat then s.tcWriteFault u dst.toNat v else none
    { fault := firstCause [
        (decide (2 ≤ dkind.toNat) || (sp && rowBadIndex op), 1), ((sp && rows.isNone) || wf == some 2, 2),
        (dkind == 1 && !tcOffsetOk dst.toNat, 7), (wf == some 15, 15)]
      narrow := if sp then optRows rows else []
      adv := if sp then opAdv op else [] }
  | .reserved => { fault := some 1 }

def Tile.load (t : Tile) (k : Nat) : Ticket := sget (fun _ => {}) t.loads k
def Tile.store (t : Tile) (k : Nat) : Ticket := sget (fun _ => {}) t.stores k

/-- R103: the HBM offset that s[ADDR] holds. -/
def State.qOffset (s : State) (u : Site) (addr : Nat) : Nat := ((s.tile u).scalar addr).toNat % 2 ^ 39

/-- R104: the offset is aligned and the rows lie within one granule. -/
def qAligned (off n : Nat) : Bool := off % 512 == 0 && off / 2048 == (off + 512 * n - 1) / 2048

def State.qNeed (s : State) (u : Site) : QOp → Need
  | .qld ticket nrows rowop addr _ =>
    let n := nrows.toNat + 1
    let rows := s.operandRows u rowop n
    { fault := firstCause [(rowBadIndex rowop, 1), (rows.isNone, 2),
        (decide (((s.tile u).load ticket.toNat).state ≠ .free) || !qAligned (s.qOffset u addr.toNat) n, 5)]
      writes := optRows rows, adv := opAdv rowop }
  | .qst ticket nrows rowop addr _ =>
    let n := nrows.toNat + 1
    let rows := s.operandRows u rowop n
    { fault := firstCause [(rowBadIndex rowop, 1), (rows.isNone, 2),
        (decide (((s.tile u).store ticket.toNat).state ≠ .free) || !qAligned (s.qOffset u addr.toNat) n, 5)]
      reads := optRows rows, adv := opAdv rowop }
  | .qwait .. => {}
  | .reserved => { fault := some 1 }

/-- R266: the multicast line of a group cannot be used. -/
def State.badLine (s : State) (u : Site) (g : Nat) : Bool :=
  !(s.tbit u Reg.MX_MCAST.VALID g) || decide (s.tfld u Reg.MX_MCAST.HI g < s.tfld u Reg.MX_MCAST.LO g) ||
    decide (23 < s.tfld u Reg.MX_MCAST.INDEX g) || decide (23 < s.tfld u Reg.MX_MCAST.HI g)

def State.netNeed (s : State) (u : Site) : NetOp → Need
  | .send rowop nrows dst _ _ mcast mgroup =>
    let rows := s.operandRows u rowop (nrows.toNat + 1)
    { fault := firstCause [(rowBadIndex rowop, 1), (rows.isNone, 2),
        (((s.tile u).scalar dst.toNat).toNat % 512 != 0, 5), (mcast && s.badLine u mgroup.toNat, 8)]
      reads := optRows rows, adv := opAdv rowop }
  | .post rowop nrows .. =>
    let rows := s.operandRows u rowop (nrows.toNat + 1)
    { fault := firstCause [(rowBadIndex rowop, 1), (rows.isNone, 2)], reads := optRows rows, adv := opAdv rowop }
  | .rdrem rowop nrows src _ =>
    let rows := s.operandRows u rowop (nrows.toNat + 1)
    { fault := firstCause [(rowBadIndex rowop, 1), (rows.isNone, 2),
        (((s.tile u).scalar src.toNat).toNat % 512 != 0, 5)]
      writes := optRows rows, adv := opAdv rowop }
  | .bar .. => {}
  | .flag op _ _ _ remote _ =>
    { fault := firstCause [(decide (4 ≤ op.toNat), 1), (remote && (op == 2 || op == 3), 8)] }
  | .reserved => { fault := some 1 }

/-- R115: XE applies only to int4, int8 and int16 codes. -/
def vldScaled (f : VForm) : Bool := f.xe && decide (f.fmt.toNat ≤ 2)

/-- R118: the header row and the entry row of a rescale. -/
def State.rescRows (s : State) (u : Site) (f : VForm) : Option (List RowRef) :=
  let h := s.rowWord u f.rowop2 / 64
  match s.rowsOf u f.rowop2.handle.toNat h 1, s.rowsOf u f.rowop2.handle.toNat (h + 1 + f.immA.toNat) 1 with
  | some a, some b => some (a ++ b)
  | _, _ => none

/-- R153, cause 11: the region of an accumulator operand may be read or targeted. -/
def State.badRegion (s : State) (u : Site) (a : AccOp) : Bool := !((s.region u a.region.toNat).ok a.row.toNat)

def State.vecNeed (s : State) (u : Site) : VecOp → Need
  | .sca .. => {}
  | .reserved => { fault := some 1 }
  | .vec k f =>
    match k with
    | .vld =>
      let xe := vldScaled f
      let rows := s.operandRows u f.rowop 1
      let xrows := if xe then s.operandRows u f.rowop2 1 else some []
      { fault := firstCause [
          (decide (8 ≤ f.fmt.toNat) || decide (fmtSlices f.fmt.toNat ≤ f.immA.toNat) || rowBadIndex f.rowop ||
            (xe && rowBadIndex f.rowop2), 1), (rows.isNone || xrows.isNone, 2)]
        reads := optRows rows ++ optRows xrows
        adv := opAdv f.rowop ++ (if xe then opAdv f.rowop2 else []) }
    | .vlda => { fault := firstCause [(s.badRegion u f.acc, 11),
        (f.side && !(s.region u f.acc.region.toNat).side, 12)] }
    | .vst =>
      let rows := s.operandRows u f.rowop 1
      { fault := firstCause [(decide (8 ≤ f.fmt.toNat) || decide (maxQuarter f.fmt.toNat < f.immA.toNat) ||
          rowBadIndex f.rowop, 1), (rows.isNone, 2)]
        narrow := optRows rows, adv := opAdv f.rowop }
    | .vste =>
      let rows := s.operandRows u f.rowop 1
      { fault := firstCause [(rowBadIndex f.rowop, 1), (rows.isNone, 2)], narrow := optRows rows, adv := opAdv f.rowop }
    | .vqnt => { fault := firstCause [(decide (3 ≤ f.fmt.toNat) || decide (32 ≤ f.immA.toNat), 1)] }
    | .vmovs => { fault := firstCause [(decide (64 ≤ f.immA.toNat), 1)] }
    | .vresc =>
      let rows := s.rescRows u f
      { fault := firstCause [(rowBadIndex f.rowop2, 1), (rows.isNone, 2), (s.badRegion u f.acc, 11)]
        reads := optRows rows, adv := opAdv f.rowop2 }
    | .vtopk => { fault := firstCause [(decide (f.immA.toNat = 0) || decide (8 < f.immA.toNat), 1)] }
    | _ => {}

/-! ### Array operands -/

/-- R140: the word addresses of `n` vectors that walk a generator. -/
def walkWords (g : Gen) : Nat → List Nat → List Nat
  | 0, _ => []
  | n + 1, c => g.out c :: walkWords g n (advanceNest c g.n)

/-- R139, R140: the word addresses of a stream's vectors. -/
def State.streamWords (s : State) (u : Site) (r : RowOp) (n : Nat) (walk : Bool) : List Nat :=
  if walk then walkWords (s.gen u (rowGen r)) n ((s.tile u).counters (rowGen r))
  else (List.range n).map (fun j => s.rowWord u r + 64 * j)

/-- R131, R132: what the vector at word address `w` reads. -/
def State.vecSrc (s : State) (u : Site) (afmt h xh w : Nat) : Option VecSrc :=
  match s.rowsOf u h (w / 64) 1 with
  | some [x] =>
    let g := granuleOf afmt w
    let r := w / 64
    if actIsInt afmt then
      match s.rowsOf u xh (r / expRows afmt) 1 with
      | some [y] => some { handle := h, row := x.row, byte := g * granuleBytes afmt, xhandle := xh, xrow := some y.row
                           xbyte := r % expRows afmt * expBlocks afmt + expGran afmt * g }
      | _ => none
    else some { handle := h, row := x.row, byte := g * granuleBytes afmt }
  | _ => none

/-- All members, or none. -/
def allSome {α : Type} : List (Option α) → Option (List α)
  | [] => some []
  | some a :: r => (allSome r).map (a :: ·)
  | none :: _ => none

/-- R139 to R141: the vectors of a stream. -/
def State.streamVecs (s : State) (u : Site) (afmt : Nat) (r : RowOp) (xh : Nat) (n : Nat) (walk : Bool) :
    Option (List VecSrc) :=
  allSome ((s.streamWords u r n walk).map (s.vecSrc u afmt r.handle.toNat xh))

/-- R139: the header row of an integer stream. -/
def State.streamHeader (s : State) (u : Site) (afmt : Nat) (h : RowOp) : Option (List RowRef) :=
  if actIsInt afmt then s.operandRows u h 1 else some []

/-- R138: the rows of a load: values and metadata, exponent row, side-list row. -/
structure LoadRows where
  vals : List RowRef
  xrow : List RowRef
  srow : List RowRef
  deriving DecidableEq, Repr

def State.loadRows (s : State) (u : Site) (wfmt : Nat) (sparse : Bool) (r x sr : RowOp) (side : Bool) : Option LoadRows :=
  let n := valueRows wfmt sparse + (if sparse then 2 else 0)
  match s.operandRows u r n, (if wIsInt wfmt then s.operandRows u x 1 else some []),
      (if side then s.operandRows u sr 1 else some []) with
  | some a, some b, some c => some ⟨a, b, c⟩
  | _, _, _ => none

def LoadRows.all (l : LoadRows) : List RowRef := l.vals ++ l.xrow ++ l.srow

def optLoad : Option LoadRows → List RowRef
  | some l => l.all
  | none => []

/-- Needs of the ARR slot but for cause 14, which depends on the other slots. -/
def State.arrNeed (s : State) (u : Site) : ArrOp → Need
  | .mload wfmt rowop xrowop srowop side =>
    let w := wfmt.toNat
    let bad := decide (5 ≤ w) || (side && !wIsInt w)
    let rows := s.loadRows u w false rowop xrowop srowop side
    { fault := firstCause [
        (rowBadIndex rowop || (wIsInt w && rowBadIndex xrowop) || (side && rowBadIndex srowop), 1),
        (decide (w < 5) && rows.isNone, 2), (bad, 10)]
      reads := optLoad rows
      adv := opAdv rowop ++ (if wIsInt w then opAdv xrowop else []) ++ (if side then opAdv srowop else []) }
  | .msparse wfmt rowop xrowop =>
    let w := wfmt.toNat
    let rows := s.loadRows u w true rowop xrowop rowop false
    { fault := firstCause [(rowBadIndex rowop || rowBadIndex xrowop, 1),
        (decide (w < 2) && rows.isNone, 2), (decide (2 ≤ w), 10)]
      reads := optLoad rows, adv := opAdv rowop ++ opAdv xrowop }
  | .mstream afmt rowop xhandle acc count hrowop swap walk _ =>
    let a := afmt.toNat
    let vecs := s.streamVecs u a rowop xhandle.toNat (count.toNat + 1) walk
    let hdr := s.streamHeader u a hrowop
    let set := (s.tile u).setInForce swap
    let reg := s.region u acc.region.toNat
    { fault := firstCause [
        (rowBadIndex rowop || (actIsInt a && rowBadIndex hrowop), 1),
        (decide (a < 6) && ((!(walk && rowop.kind) && vecs.isNone) || hdr.isNone), 2),
        (decide (6 ≤ a) || (walk && rowop.kind) ||
          (match set with | some x => !pairingOk a x.fmt x.sparse | none => false), 10),
        (s.badRegion u acc, 11),
        (match set with | some x => !reg.side && !x.side.isEmpty | none => false, 12),
        (set.isNone, 13)]
      reads := (match vecs with
        | some l => (l.map (fun v => (⟨v.handle, v.row⟩ : RowRef)) ++
            l.filterMap (fun v => v.xrow.map (fun r => (⟨v.xhandle, r⟩ : RowRef)))).eraseDups
        | none => []) ++ optRows hdr
      adv := (if walk then [] else opAdv rowop) ++ (if actIsInt a then opAdv hrowop else []) }
  | .reserved => { fault := some 1 }

/-! ### A bundle's needs, faults and waits -/

def optNeed {α : Type} (f : α → Need) : Option α → Need
  | some x => f x
  | none => {}

/-- The needs of the six slots, in the order CTL, MEM, Q, NET, VEC, ARR. -/
def State.bundleNeeds (s : State) (u : Site) (b : Bundle) : List Need :=
  let first := [optNeed (s.ctlNeed u) b.ctl, s.withTier u (optNeed (s.memNeed u) b.mem),
    s.withTier u (optNeed (s.qNeed u) b.q), s.withTier u (optNeed (s.netNeed u) b.net),
    s.withTier u (optNeed (s.vecNeed u) b.vec)]
  let a := optNeed (s.arrNeed u) b.arr
  let hit := a.reads.any (fun x => first.any (fun n => (n.writes ++ n.narrow).any (fun y => y.row == x.row)))
  first ++ [s.withTier u { a with fault := a.fault.or (if hit then some 14 else none) }]

/-- The rows that a bundle reads. -/
def State.readRows (s : State) (u : Site) (b : Bundle) : List Nat :=
  (s.bundleNeeds u b).flatMap (fun n => n.reads.map (·.row))

/-- R164: the first row that the bundle reads and whose code finds an uncorrectable codeword, or a parity error. -/
def State.badRow (s : State) (u : Site) (b : Bundle) : Option (Nat × Nat × Bool) :=
  match s.readRows u b with
  | [] => none
  | r :: rs => (((s.tile u).rowUe r b.ecc).map (fun c => (r, c))).or
      (rs.findSome? (fun r => ((s.tile u).rowUe r {}).map (fun c => (r, c))))

/-- R118: the header that a `VRESC` reads. -/
def State.rescHeader (s : State) (u : Site) (f : VForm) : RescaleHeader :=
  match optRows (s.rescRows u f) with
  | x :: _ => RescaleHeader.ofRow (s.readRow u x.row)
  | [] => ⟨0, 0, 0, false⟩

/-- R118, R148: faults of a `VRESC` that its header decides, once the table's rows can be read: an E pair beyond 31; and, once
the accumulator row holds all its results, a row of the other type. -/
def State.headerFault (s : State) (u : Site) (b : Bundle) : Option Nat :=
  match b.vec with
  | some (.vec .vresc f) =>
    let t := s.tile u
    let rows := optRows (s.rescRows u f)
    if rows.isEmpty || !rows.all (fun x => t.isFull x.row) || (s.badRow u b).isSome then none
    else
      let h := s.rescHeader u f
      let i := (s.region u f.acc.region.toNat).base + f.acc.row.toNat
      firstCause [(decide (h.outFmt ≤ 3) && decide (32 ≤ f.immB.toNat), 1),
        (!s.accPending u i && decide ((t.accRow i).typ ≠ 0) && decide ((t.accRow i).typ ≠ (if h.accFp then 2 else 1)), 12)]
  | _ => none

/-- The lower of two causes. -/
def minCause : Option Nat → Option Nat → Option Nat
  | some a, some b => some (min a b)
  | a, b => a.or b

/-- R643: the lowest cause of each slot, in the order of the slots. -/
def State.slotFaults (s : State) (u : Site) (b : Bundle) : List (Option Nat) :=
  (s.bundleNeeds u b).zipIdx.map (fun p => if p.2 = 4 then minCause p.1.fault (s.headerFault u b) else p.1.fault)

/-- R643: the fault of the first slot that has one; a fetch from an empty program row (R78) comes before the slots. DESIGN
CHOICE (log entry 60): the fault belongs to the bundle that comes to issue; a row that the fetch buffer reads ahead (R78), and
from which no bundle comes to issue, stops nothing. -/
def State.bundleFault (s : State) (u : Site) (b : Bundle) : Option Nat :=
  if !(s.tile u).isFull (s.pc u / 8) then some 3
  else (s.slotFaults u b).findSome? id

/-- R30: the condition of a narrow write; a row whose open program entry is its own is held by it. -/
def State.narrowOk (s : State) (u : Site) (x : RowRef) : Bool :=
  let t := s.tile u
  if (t.programEntry x.row).isSome then
    !(t.locked x.row) && (decide ((s.handle u x.handle).mode = 2) || !(t.isFull x.row))
  else s.writable u x

/-- R176: entries for every narrow row of the bundle. -/
def State.gatherOk (s : State) (u : Site) (rows : List RowRef) : Bool :=
  let t := s.tile u
  let fresh := ((rows.map (·.row)).eraseDups).filter (fun r => (t.programEntry r).isNone)
  fresh.isEmpty || decide (fresh.length + (t.gathers.countP (fun g => decide (g.entry < 3))) ≤ 3)

/-- R30: row conditions of a slot, in the order of their causes. -/
def State.rowWaits (s : State) (u : Site) (n : Need) : List (Bool × Nat) :=
  [(n.reads.any (fun x => !(s.tile u).isFull x.row), 1),
   (n.writes.any (fun x => !s.writable u x) || n.narrow.any (fun x => !s.narrowOk u x), 2)]

/-- R61: earlier array operations have delivered their events. -/
def Tile.arrayIdle (t : Tile) : Bool := t.feeder.isEmpty && t.accWrites.isEmpty

/-- R89, R97: what a CTL instruction waits for. DESIGN CHOICE (log entry 60): a `TWAIT` on a row, for which R127 gives no code of
its own, shows row read (1) while it waits for full and row write (2) while it waits for empty. -/
def State.ctlWaits (s : State) (u : Site) : CtlOp → List (Bool × Nat)
  | .brc cond .. => [(cond == 7 && !(s.tile u).arrayIdle, 9)]
  | .twait kind rowop fid sv =>
    let v := ((s.tile u).scalar sv.toNat).toNat % 2 ^ 32
    let full := (s.twaitRow u rowop).all (fun x => (s.tile u).isFull x.row)
    match kind.toNat with
    | 0 => [(!full, 1)]
    | 1 => [((s.twaitRow u rowop).any (fun x => (s.tile u).isFull x.row), 2)]
    | 2 => [(decide (s.flagWord u fid.toNat < v), 5)]
    | 3 => [(decide (s.flagWord u fid.toNat ≠ v), 5)]
    | _ => [(!s.barDone u fid.toNat, 5)]
  | .stepBegin => [(decide (s.fld Reg.TB_STEP.STEP u.wing ≤ s.tfld u Reg.TC_STEP_LOCAL.STEP), 6)]
  | _ => []

/-- R106: the tickets of a mask that are in flight. -/
def State.qWaits (s : State) (u : Site) : QOp → List (Bool × Nat)
  | .qwait queue mask =>
    let t := s.tile u
    [((bitsOf 32 mask.toNat).any (fun k =>
        decide ((if queue then t.store k else t.load k).state = .inFlight)), 4)]
  | _ => []

/-- R89, R343, R347: no room for the rows in the injection buffer, or none in their fabric stream. -/
def State.netWaits (s : State) (u : Site) : NetOp → List (Bool × Nat)
  | .send _ nrows dst chan flaglast mcast _ =>
    let a := ((s.tile u).scalar dst.toNat).toNat
    [(decide (32 < (s.tile u).injected + nrows.toNat + 1) ||
      (!mcast && s.fabricFull u.wing 0 (a / 2 ^ 48) (a / 2 ^ 23 % 1024) chan flaglast (nrows.toNat + 1)), 7)]
  | .post _ nrows dst chan _ =>
    let d := ((s.tile u).scalar dst.toNat).toNat
    [(decide (32 < (s.tile u).injected + nrows.toNat + 1) ||
      s.fabricFull u.wing 1 (d / 2 ^ 48) (d / 2 ^ 24 % 1024) chan false (nrows.toNat + 1), 7)]
  | .bar bid wait => [(!(wait && (s.tile u).barSent) && !s.barRoom u bid.toNat, 5)]
  | .flag op fid sv dst remote chan =>
    let v := ((s.tile u).scalar sv.toNat).toNat % 2 ^ 32
    let d := ((s.tile u).scalar dst.toNat).toNat
    match op.toNat with
    | 2 => [(decide (s.flagWord u fid.toNat < v), 5)]
    | 3 => [(decide (s.flagWord u fid.toNat ≠ v), 5)]
    | _ => [(remote && s.fabricFull u.wing 0xB (d / 2 ^ 48) (d / 2 ^ 24 % 1024) chan true 1, 7)]
  | _ => []

def State.vecWaits (s : State) (u : Site) : VecOp → List (Bool × Nat)
  | .vec k f =>
    let reg := s.region u f.acc.region.toNat
    let main := reg.base + f.acc.row.toNat
    let side := reg.base + reg.rows + f.acc.row.toNat
    let rel := f.release && s.regionPending u f.acc.region.toNat
    match k with
    | .vlda => [(s.accPending u main || (f.side && s.accPending u side) || rel, 8)]
    | .vresc => [(s.accPending u main || (reg.side && s.accPending u side) || rel, 8)]
    | _ => []
  | _ => []

/-- R142: an array instruction's accumulator target is free. -/
def State.arrWaits (s : State) (u : Site) : ArrOp → List (Bool × Nat)
  | .mstream _ _ _ _ _ _ swap _ _ =>
    let t := s.tile u
    [(decide (2 ≤ t.feeder.length) || (swap && t.fill.isSome), 3)]
  | .reserved => []
  | _ =>
    let t := s.tile u
    [(t.fill.isSome || t.feeder.any (fun x => x.swap && !x.begun), 3)]

def optWaits {α : Type} (f : α → List (Bool × Nat)) : Option α → List (Bool × Nat)
  | some x => f x
  | none => []

/-- R30, R89: the cause for which the bundle waits, of the first slot that waits (log entry 11); the completion of an
awaited barrier comes after these. -/
def State.bundleWait (s : State) (u : Site) (b : Bundle) : Option Nat :=
  let ns := s.bundleNeeds u b
  let own := [optWaits (s.ctlWaits u) b.ctl, [], optWaits (s.qWaits u) b.q, optWaits (s.netWaits u) b.net,
    optWaits (s.vecWaits u) b.vec, optWaits (s.arrWaits u) b.arr]
  firstCause ((ns.zip own).flatMap (fun p => s.rowWaits u p.1 ++ p.2) ++ [(!s.gatherOk u (ns.flatMap (·.narrow)), 2)])

/-! ### Results becoming visible (R80, R81) -/

def State.applyEffect (s : State) (u : Site) : Effect → State
  | .scalar r v => s.setTile u ((s.tile u).setScalar r v)
  | .vector r ls => s.setTile u ((s.tile u).setVector r ls)
  | .expPair j a b => s.setTile u (((s.tile u).setExpByte (2 * j) a).setExpByte (2 * j + 1) b)
  | .genWord g w v =>
    let a := tileAddr u (0x200 + 0x20 * g + 8 * w)
    let s := s.writeAccess .tile (0x200 + 0x20 * g + 8 * w) a v
    s.setTile u ((s.tile u).setCounters g [])
  | .rowFill r data => (s.fillRow u r data).endClaim u r

/-- Results due by the next beat become visible. -/
def State.settle (s : State) (u : Site) : State :=
  let t := s.tile u
  let due := t.pend.filter (fun p => decide (p.due ≤ t.beat))
  due.foldl (fun s p => s.applyEffect u p.eff)
    (s.setTile u { t with pend := t.pend.filter (fun p => decide (t.beat < p.due)) })

/-- R177: whether a completed row lands while the bundle waits: not where the bundle reads the earlier contents of a full row
that it does not write. -/
def State.landsBefore (s : State) (u : Site) (b : Bundle) (r : Nat) : Bool :=
  let ns := s.bundleNeeds u b
  !(s.tile u).isFull r || !ns.any (fun n => n.reads.any (fun x => x.row == r)) ||
    ns.any (fun n => (n.writes ++ n.narrow).any (fun x => x.row == r))

/-- R127: the bundle waits; entries that completed before it land in their own time (R177). -/
def State.markWait (s : State) (u : Site) (b : Bundle) (cause : Nat) : State :=
  let a := Reg.TC_WAIT_STATE.WAITING.on u 0
  ((s.setReg a (BitVec.ofNat 64 (1 + cause % 16 * 2 + s.pc u * 2 ^ 5))).landFills u (s.landsBefore u b)).pumpTile u

/-! ### Effects of the slots; `s0` is the state at issue, `n` the bundle's beat -/

/-- Results join those on their way, in order (R81). -/
def State.addResults (s : State) (u : Site) (l : List PendWrite) : State :=
  s.setTile u (l.foldl (fun t p => t.addPend p.due p.eff) (s.tile u))

/-- The control flow of a bundle: next program counter, loop records, extra empty beats. -/
structure Flow where
  pc : Nat
  loops : List LoopRec
  extra : Nat
  deriving DecidableEq, Repr

/-- R95: at the END of loops, innermost first: iterate, or remove the record and go on. -/
def loopEnd (pc : Nat) : List LoopRec → Nat × List LoopRec
  | [] => (pc + 1, [])
  | x :: r =>
    if x.last ≠ pc then ((loopEnd pc r).1, x :: (loopEnd pc r).2)
    else if 0 < x.remaining then (x.first, { x with remaining := x.remaining - 1 } :: r)
    else loopEnd pc r

/-- R95: a taken branch removes the records of loops whose body does not hold the target, and of loops nested in them. -/
def loopsAfterBranch (target : Nat) : List LoopRec → List LoopRec
  | [] => []
  | x :: r =>
    if (x :: r).all (fun y => decide (y.first ≤ target) && decide (target ≤ y.last)) then x :: r
    else loopsAfterBranch target r

/-- R93: the condition of a branch. -/
def branchTaken (cond : Nat) (a b : Word) (past : Bool) : Bool :=
  match cond with
  | 0 => true
  | 1 => a == b
  | 2 => a != b
  | 3 => decide (a.toInt < b.toInt)
  | 4 => decide (b.toInt ≤ a.toInt)
  | 5 => decide (a.toNat < b.toNat)
  | 6 => decide (b.toNat ≤ a.toNat)
  | _ => past

/-- R61: COUNT exceeds LIMIT. -/
def State.satOver (s : State) (u : Site) : Bool :=
  decide (s.tfld u Reg.TC_SAT_CTL.LIMIT < s.tfld u Reg.TC_SAT_COUNT.COUNT)

/-- R79, R93 to R95: where control goes after the bundle. DESIGN CHOICE (log entry 60): a `LOOP` whose END lies below its own
counter plus 1 (R94 names no consequence) is no fault: its record is taken as it stands. -/
def State.flow (s : State) (u : Site) (c : Option CtlOp) : Flow :=
  let t := s.tile u
  let pc := s.pc u
  let seq := let e := loopEnd pc t.loops; (⟨e.1, e.2, 0⟩ : Flow)
  match c with
  | some (.brc cond sa sb target) =>
    if branchTaken cond.toNat (t.scalar sa.toNat) (t.scalar sb.toNat) (s.satOver u) then
      ⟨target.toNat, loopsAfterBranch target.toNat t.loops, 1⟩
    else seq
  | some (.loop csrc sc imm last) =>
    let n := if csrc then (t.scalar sc.toNat).toNat % 2 ^ 32 else imm.toNat
    if n = 0 then ⟨last.toNat + 1, t.loops, 1⟩
    else ⟨pc + 1, { first := pc + 1, last := last.toNat, remaining := n - 1 } :: t.loops, 0⟩
  | _ => seq

/-- R247: a table set's publication takes effect at the tile. -/
def State.swapTable (s : State) (u : Site) (v n : Nat) : State :=
  let gen := s.fld Reg.SV_TABLE_PUB1.GEN u.wing n
  let a := Reg.TC_TABLE_SEL.ACTIVE.on u 0
  let seen := getBits (s.reg a) (8 + 4 * n) 4
  if s.fld Reg.SV_TABLE_PUB1.STATE u.wing n = 1 ∧ s.fld Reg.SV_TABLE_PUB0.SWAP_STEP u.wing n ≤ v ∧ seen ≠ gen then
    let s := s.setReg a (setBits (s.reg a) n 1 (1 - getBits (s.reg a) n 1))
    s.setReg a (setBits (s.reg a) (8 + 4 * n) 4 gen)
  else s

/-- R98: a `STEP` BEGIN takes the counter's value. -/
def State.beginStep (s : State) (u : Site) : State :=
  let v := s.fld Reg.TB_STEP.STEP u.wing
  let s := s.setTfld u Reg.TC_STEP_LOCAL.STEP v
  let s := s.setTfld u Reg.TC_BEAT_COUNT.BEATS 0
  let s := s.setTfld u Reg.TC_WIDE_RUNS.RUNS 0
  let s := s.setTfld u Reg.AY_SKIP_COUNT.SKIPPED 0
  let s := s.setTfld u Reg.AY_FED_COUNT.FED 0
  let s := s.setTile u { s.tile u with ended := false }
  (List.range 8).foldl (fun s n => s.swapTable u v n) s

/-- R173: the rows of STEPCLR handles that are full or claimed. -/
def State.stepClearRows (s : State) (u : Site) : List Nat :=
  let t := s.tile u
  let hs := (List.range 256).filterMap (fun h => let d := s.handle u h; if d.valid && d.stepclr then some d else none)
  (t.full ++ t.claims.map (·.1)).filter (fun r => hs.any (fun d => decide (d.base ≤ r) && decide (r < d.base + d.rows)))

/-- R98, R173, R289: a `STEP` END reports the end of the tile's step and empties STEPCLR handles. -/
def State.endStep (s : State) (u : Site) : State :=
  let t := s.tile u
  let s := s.setTile u { t with
    ended := true, stores := smap (fun _ => {}) (fun _ x => { x with beforeEnd := true }) t.stores }
  let x := s.wing u.wing
  let s := s.setWing u.wing { x with endedTiles := nins u.tile.toNat x.endedTiles }
  (s.stepClearRows u).foldl (fun s r => s.stepEmpty u r) s

def State.ctlEffect (s0 : State) (u : Site) (s : State) : CtlOp → State
  | .brc cond .. => if cond = 7 ∧ s0.satOver u then s.addTfld u Reg.TC_WIDE_RUNS.RUNS 1 else s
  | .stepBegin => s.beginStep u
  | .stepEnd => s.endStep u
  | _ => s

/-- R182, R183, R192: a write of `TC_WIN_CTL`. -/
def State.winCtl (s : State) (u : Site) (v : Word) : State :=
  let w := getBits v 0 4
  match getBits v 4 2 with
  | 1 => s.windowOpen u w (getBits v 6 1 != 0) (BitVec.ofNat 6 (getBits v 7 6))
  | 2 => s.windowClose u w
  | _ => s

/-- R124, R499: a write of `TC_RUN`; RUN 1 on a stopped tile starts it at ENTRY under a profile in force; a tile that stops has
no bundle that waits (R127). DESIGN CHOICE (log entry 60): under a profile that keeps tiles from starting, RUN stays 0, ENTRY
takes its value, and the tile does not start later by itself. -/
def State.runWrite (s : State) (u : Site) (v : Word) : State :=
  let was := s.tbit u Reg.TC_RUN.RUN
  let prof := s.fld Reg.CF_PROFILE.PROFILE u.wing
  let run := getBits v 0 1 != 0 && (was || prof == 1 || prof == 2)
  let s := s.setTfld u Reg.TC_RUN.ENTRY (getBits v 17 17)
  let s := s.setTfld u Reg.TC_RUN.RUN (if run then 1 else 0)
  let s := if run && was then s else s.setReg (Reg.TC_WAIT_STATE.WAITING.on u 0) 0
  if run && !was then (s.setTfld u Reg.TC_PC.PC (getBits v 17 17)).setFld Reg.CM_STATUS.JOB u.wing 1
  else s

/-- R174: the rows named by `TC_TAG_EMPTY` become empty, in order. -/
def State.tagEmpty (s : State) (u : Site) (v : Word) : State :=
  (optRows (s.tagEmptyRows u v)).foldl (fun s x => s.discardRow u x.row) s

/-- R178: a seal at beat `n`. -/
def State.sealWrite (s : State) (u : Site) (n : Nat) (v : Word) : State :=
  (optRows (s.sealRow u v)).foldl (fun s x => s.seal u n x.row) s

/-- The result goes to word `w` of generator `g`. -/
def PendWrite.isGen (p : PendWrite) (g w : Nat) : Bool :=
  match p.eff with | .genWord a b _ => a == g && b == w | _ => false

/-- R85, R101, R122 to R129, R192 to R195: a write of a register of the tile's TC_ block; `own` says that the tile's own
program makes it, `n` is the beat. -/
def State.tcWrite (s : State) (u : Site) (own : Bool) (n o : Nat) (v : Word) : State :=
  let a := tileAddr u o
  let run := s.tbit u Reg.TC_RUN.RUN
  if o = 0x8 then s.runWrite u v
  else if run && !own then s
  else if o = 0x30 ∨ o = 0x58 then (if own then s else s.writeAccess .tile o a v)
  else if o = 0x38 then s.winCtl u v
  else if o = 0x48 then s.tagEmpty u v
  else if o = 0x50 then s.sealWrite u n v
  else if o = 0x110 then
    let s := (s.writeAccess .tile o a v).refreshOver u
    if getBits v 32 1 = 1 then s.clearSat u n else s
  else if 0x200 ≤ o ∧ o < 0x300 then
    let s := s.writeAccess .tile o a v
    -- R81: an earlier result for the same word that becomes visible by the same beat does not prevail.
    let t := s.tile u
    let t := { t with pend := t.pend.filter (fun p => !(p.isGen ((o - 0x200) / 0x20) (o % 0x20 / 8) && decide (p.due ≤ n + 1))) }
    s.setTile u (t.setCounters ((o - 0x200) / 0x20) [])
  else s.writeAccess .tile o a v

/-- R100: the value that an `LDW` reads. -/
def State.ldwValue (s : State) (u : Site) (skind : BitVec 2) (src : BitVec 16) (woff : BitVec 6) : Word :=
  if skind = 0 then
    let op := RowOp.ofBits src
    match optRows (s.wordRow u op woff.toNat) with
    | x :: _ =>
      BitVec.ofNat 64 (leNat (s.readRun u.wing (rowOffset u.tile.toNat x.row + 8 * ((s.rowWord u op + woff.toNat) % 64)) 8))
    | [] => 0
  else s.reg (tileAddr u src.toNat)

/-- R100: the result of a MEM slot. -/
def State.memResults (s0 : State) (u : Site) (n : Nat) : MemOp → List PendWrite
  | .ldw tkind tgt skind src woff =>
    let v := s0.ldwValue u skind src woff
    [⟨n + s0.lat u.wing 1, if tkind = 0 then .scalar tgt.toNat v else .genWord (tgt.toNat / 4) (tgt.toNat % 4) v⟩]
  | .stw .. => []
  | .reserved => []

def State.memEffect (s0 : State) (u : Site) (n : Nat) (s : State) : MemOp → State
  | .ldw _ _ skind src woff =>
    if skind = 0 then s.countReads u (optRows (s0.wordRow u (RowOp.ofBits src) woff.toNat)) else s
  | .stw src dkind dst woff =>
    let v := (s0.tile u).scalar src.toNat
    if dkind = 0 then
      let op := RowOp.ofBits dst
      let w := s0.rowWord u op + woff.toNat
      match optRows (s0.wordRow u op woff.toNat) with
      | x :: _ => s.narrowWrite u n x.row (8 * (w % 64)) (leBytes 8 v.toNat)
      | [] => s
    else s.tcWrite u true n dst.toNat v
  | .reserved => s

/-- `CM_Q_STATE` follows the tickets in use. -/
def State.refreshQ (s : State) (u : Site) : State :=
  let t := s.tile u
  let mask (f : Nat → Ticket) := (List.range 32).foldl (fun a k => if (f k).state = .free then a else a + 2 ^ k) 0
  (s.setTfld u Reg.CM_Q_STATE.LD_INUSE (mask t.load)).setTfld u Reg.CM_Q_STATE.ST_INUSE (mask t.store)

def State.setLoad (s : State) (u : Site) (k : Nat) (x : Ticket) : State :=
  let t := s.tile u
  (s.setTile u { t with loads := sset (fun _ => {}) t.loads k x }).refreshQ u

def State.setStore (s : State) (u : Site) (k : Nat) (x : Ticket) : State :=
  let t := s.tile u
  (s.setTile u { t with stores := sset (fun _ => {}) t.stores k x }).refreshQ u

/-- R280: the stack that holds an offset. -/
def hbmStack (off : Nat) : Nat := off / 2048 % 10

/-- R105, R106: a completed load ticket is released: its rows become full, or on an error status the job stops. -/
def State.releaseLoad (s : State) (u : Site) (k : Nat) : State :=
  let x := (s.tile u).load k
  if x.state ≠ .completed then s
  else
    let s := s.setLoad u k {}
    let s := x.rows.foldl (fun s r =>
      let t := s.tile u
      let s := if x.status = stOk then s.setTile u { t with full := nins r t.full, reads := sset (fun _ => 0) t.reads r 0 }
               else s
      s.endClaim u r) s
    if x.status = stOk then s else s.stopHere u.wing x.status 3 (hbmStack x.off)

def State.releaseStore (s : State) (u : Site) (k : Nat) : State :=
  let x := (s.tile u).store k
  if x.state ≠ .completed then s
  else
    let s := s.setStore u k {}
    if x.status = stOk then s else s.stopHere u.wing x.status 3 (hbmStack x.off)

/-- R103: s[ADDR] increases by 512 for each row, for the next bundle. -/
def State.qResults (s0 : State) (u : Site) (n : Nat) : QOp → List PendWrite
  | .qld _ nrows _ addr inc | .qst _ nrows _ addr inc =>
    if inc then [⟨n + s0.lat u.wing 0, .scalar addr.toNat
      ((s0.tile u).scalar addr.toNat + BitVec.ofNat 64 (512 * (nrows.toNat + 1)))⟩]
    else []
  | .qwait .. => []
  | .reserved => []

/-- R103, R287: a ticket comes into flight. -/
def State.takeTicket (s : State) (u : Site) : State :=
  let t := s.tile u
  s.setTile u { t with issued := t.issued + 1 }

/-- R103 to R106: the effect of the Q slot. DESIGN CHOICE (log entry 60): a `QWAIT` releases its tickets by ascending number, so
where several carry an error status, the lowest one's stops the job. -/
def State.qEffect (s0 : State) (u : Site) (s : State) : QOp → State
  | .qld ticket nrows rowop addr _ =>
    let rows := optRows (s0.operandRows u rowop (nrows.toNat + 1))
    let s := rows.foldl (fun s x => s.claimTarget u x.row (.load ticket.toNat)) s
    let t := s.tile u
    (s.takeTicket u).setLoad u ticket.toNat
      { state := .inFlight, off := s0.qOffset u addr.toNat, nrows := nrows.toNat + 1
        rows := rows.map (·.row), order := t.issued, beforeEnd := !t.ended }
  | .qst ticket nrows rowop addr _ =>
    let rows := optRows (s0.operandRows u rowop (nrows.toNat + 1))
    let s := s.countReads u rows
    let t := s.tile u
    (s.takeTicket u).setStore u ticket.toNat
      { state := .inFlight, off := s0.qOffset u addr.toNat, nrows := nrows.toNat + 1
        data := rows.flatMap (fun x => s0.readRow u x.row), order := t.issued, beforeEnd := !t.ended }
  | .qwait queue mask =>
    (bitsOf 32 mask.toNat).foldl (fun s k => if queue then s.releaseStore u k else s.releaseLoad u k) s
  | .reserved => s

/-- R107, R260: the packet of one row of a `SEND`. -/
def State.sendPacket (s : State) (u : Site) (a : Nat) (chan : BitVec 4) (last mcast : Bool) (g : Nat)
    (data : List Byte) : Packet :=
  let off := a % 2 ^ 48
  let line (f : Fld) := s.tfld u f g
  { s.packetTo u 0 (a / 2 ^ 48) (off / 2 ^ 23 % 1024) with
    flaglast := last, chan := chan, addr := BitVec.ofNat 48 off, arg := BitVec.ofNat 20 (off / 512 % 2 ^ 14)
    data := data, mcast := mcast
    axis := mcast && s.tbit u Reg.MX_MCAST.AXIS g
    index := if mcast then BitVec.ofNat 5 (line Reg.MX_MCAST.INDEX) else 0
    lo := if mcast then BitVec.ofNat 5 (line Reg.MX_MCAST.LO) else 0
    hi := if mcast then BitVec.ofNat 5 (line Reg.MX_MCAST.HI) else 0 }

/-- R27: a packet of this module toward a tile number that no tile has is dropped and reported; toward another chip it
travels. `off` is the offset it names. -/
def State.sendTo (s : State) (u : Site) (off : Nat) (p : Packet) : State :=
  if p.place ≠ 2 ∧ 576 ≤ p.dstTile.toNat then s.report u.wing stWindowViolation off else s.inject u p

/-- R27: a row write of this module that names an offset outside scratchpad is dropped and reported. -/
def State.sendRow (s : State) (u : Site) (p : Packet) : State :=
  if p.mcast && (outputsOf u p).isEmpty then s
  else match placeOf p.addr.toNat with
  | .scratch _ _ => if p.mcast then s.inject u p else s.sendTo u p.addr.toNat p
  | _ => if p.place = 2 then s.inject u p else s.report u.wing stWindowViolation p.addr.toNat

def State.netEffect (s0 : State) (u : Site) (s : State) : NetOp → State
  | .send rowop nrows dst chan flaglast mcast mgroup =>
    let rows := optRows (s0.operandRows u rowop (nrows.toNat + 1))
    let a := ((s0.tile u).scalar dst.toNat).toNat
    let s := s.countReads u rows
    rows.zipIdx.foldl (fun s p => s.sendRow u (s0.sendPacket u (a + 512 * p.2) chan
      (flaglast && p.2 + 1 == rows.length) mcast mgroup.toNat (s0.readRow u p.1.row))) s
  | .post rowop nrows dst chan seq =>
    let rows := optRows (s0.operandRows u rowop (nrows.toNat + 1))
    let d := ((s0.tile u).scalar dst.toNat).toNat
    let rank := ((s0.tile u).scalar seq.toNat).toNat / 2 ^ 32 % 2 ^ 16
    let s := s.countReads u rows
    rows.zipIdx.foldl (fun s p => s.sendTo u (rowOffset (d / 2 ^ 24 % 1024) 0)
      { s0.packetTo u 1 (d / 2 ^ 48) (d / 2 ^ 24 % 1024) with
        chan := chan, win := BitVec.ofNat 4 d, arg := BitVec.ofNat 20 (rows.length * rank + p.2)
        data := s0.readRow u p.1.row }) s
  | .rdrem rowop nrows src merge =>
    let rows := optRows (s0.operandRows u rowop (nrows.toNat + 1))
    let a := ((s0.tile u).scalar src.toNat).toNat
    let s := rows.foldl (fun s x => s.claimTarget u x.row .remote) s
    rows.zipIdx.foldl (fun s p =>
      let off := (a + 512 * p.2) % 2 ^ 48
      let q : Packet := { s0.packetTo u 3 ((a + 512 * p.2) / 2 ^ 48) (off / 2 ^ 23 % 1024) with
        addr := BitVec.ofNat 48 off, rrow := BitVec.ofNat 14 p.1.row
        arg := BitVec.ofNat 20 (off / 512 % 2 ^ 14 + (if merge then 2 ^ 14 else 0)) }
      match placeOf off with
      | .scratch t _ =>
        if q.place ≠ 2 ∧ 576 ≤ t then s.arriveStatus u p.1.row stWindowViolation else s.inject u q
      | _ => if q.place = 2 then s.inject u q else s.arriveStatus u p.1.row stWindowViolation) s
  | .bar bid wait => if wait then s else s.barLocal u bid.toNat
  | .flag op fid sv dst remote chan =>
    let v := ((s0.tile u).scalar sv.toNat).toNat % 2 ^ 32
    if 2 ≤ op.toNat then s
    else if remote then
      let d := ((s0.tile u).scalar dst.toNat).toNat
      s.sendTo u (rowOffset (d / 2 ^ 24 % 1024) 0) { s0.packetTo u 0xB (d / 2 ^ 48) (d / 2 ^ 24 % 1024) with
        chan := chan, arg := BitVec.ofNat 20 (fid.toNat + 64 * op.toNat), data := leBytes 4 v }
    else s.flagUpdate u fid.toNat op.toNat v
  | .reserved => s

/-- R118, R148: the type under which a row is rescaled: its own, or the header's for an empty row. -/
def rescType (row : AccRow) (h : RescaleHeader) : Nat := if row.typ ≠ 0 then row.typ else if h.accFp then 2 else 1

/-- The lanes of an accumulator row. -/
def AccRow.lanes (r : AccRow) : List Lane := (List.range 64).map (fun i => sget (fun _ => 0) r.vals i)

/-- R118: the rescaled lanes and their events. -/
def State.rescLanes (s : State) (u : Site) (f : VForm) : List Lane × Ev :=
  let h := s.rescHeader u f
  let entries := match optRows (s.rescRows u f) with | _ :: y :: _ => s.readRow u y.row | _ => []
  let reg := s.region u f.acc.region.toNat
  let t := s.tile u
  let row := t.accRow (reg.base + f.acc.row.toNat)
  let typ := rescType row h
  let side := if typ = 1 ∧ reg.side ∧ row.typ ≠ 0 then (t.accRow (reg.base + reg.rows + f.acc.row.toNat)).lanes
              else List.replicate 64 0
  let rs := (List.range 64).map (fun i =>
    rescale h (RescaleEntry.ofRow entries i) typ (row.lanes.getD i 0) (side.getD i 0))
  (rs.map (·.1), rs.foldl (fun e r => e.join r.2) Ev.none)

/-- R148: RELEASE empties the whole region. -/
def State.release (s : State) (u : Site) (f : VForm) : State :=
  if f.release then s.setTile u ((s.tile u).releaseRegion (s.region u f.acc.region.toNat)) else s

/-- R117: the blocks that a `VQNT` makes of the two halves of va: codes, exponent, events. -/
def State.quantHalf (s : State) (u : Site) (f : VForm) (second : Bool) : List Lane × Int × Ev :=
  let va := (s.tile u).vector f.va.toNat
  quantBlock f.rmode.toNat f.fmt.toNat f.immB.toInt f.immC.toInt (if second then va.drop 32 else va.take 32)

/-- R114 to R120: the lanes that a vector-form instruction writes to vd, and their events. -/
def State.vecLanes (s0 : State) (u : Site) (k : VKind) (f : VForm) : Option (List Lane × Ev) :=
  let t := s0.tile u
  let va := t.vector f.va.toNat
  match k with
  | .vld =>
    let row := match optRows (s0.operandRows u f.rowop 1) with | x :: _ => s0.readRow u x.row | [] => []
    let exps := match (if vldScaled f then optRows (s0.operandRows u f.rowop2 1) else []) with
      | x :: _ => some (s0.readRow u x.row) | [] => none
    some (loadSlice row exps f.fmt.toNat f.immA.toNat f.immB.toNat)
  | .vlda =>
    let reg := s0.region u f.acc.region.toNat
    some ((t.accRow (reg.base + f.acc.row.toNat + (if f.side then reg.rows else 0))).lanes, Ev.none)
  | .vst => none
  | .vste => none
  | .vmovs => none
  | .vqnt =>
    let a := s0.quantHalf u f false
    let b := s0.quantHalf u f true
    some (a.1 ++ b.1, a.2.2.join b.2.2)
  | .vbcast => some (List.replicate 64 (BitVec.ofNat 32 (t.scalar f.sa.toNat).toNat), Ev.none)
  | .vresc => some (s0.rescLanes u f)
  | .vrsum => let r := treeSum 6 va; some (List.replicate 64 (r.1.headD 0), r.2)
  | .vrmax => some (List.replicate 64 (laneMax va), Ev.none)
  | .vtopk => some (topK f.immA.toNat (f.immB.toNat % 2 == 1) ((t.scalar f.sa.toNat).toNat % 2 ^ 32)
      (t.vector f.vd.toNat) va, Ev.none)
  | _ => some (laneMap (fun a b c => laneFn k f.rmode.toNat a b c) va (t.vector f.vb.toNat) (t.vector f.vc.toNat))

/-- R114 to R120: the results of a vector-form instruction. -/
def State.vecResults (s0 : State) (u : Site) (n : Nat) (k : VKind) (f : VForm) : List PendWrite :=
  let due := n + s0.lat u.wing (vecClass k)
  (match s0.vecLanes u k f with
    | some r => [⟨due, .vector f.vd.toNat r.1⟩]
    | none => []) ++
  (match k with
    | .vmovs => [⟨due, .scalar f.sa.toNat ((((s0.tile u).vector f.va.toNat).getD f.immA.toNat 0).signExtend 64)⟩]
    | .vqnt => [⟨due, .expPair f.immA.toNat (BitVec.ofInt 8 (s0.quantHalf u f false).2.1)
        (BitVec.ofInt 8 (s0.quantHalf u f true).2.1)⟩]
    | .vresc =>
      let h := s0.rescHeader u f
      if h.outFmt ≤ 3 then [⟨due, .expPair f.immB.toNat (BitVec.ofInt 8 h.eOut) (BitVec.ofInt 8 h.eOut)⟩] else []
    | _ => [])

/-- R60: the events of an instruction's lanes. -/
def State.addLaneEv (s : State) (u : Site) (n : Nat) (r : Option (List Lane × Ev)) : State :=
  match r with
  | some r => s.addEv u n r.2
  | none => s

/-- R114 to R120: what a vector-form instruction does beside its results: events, counted reads, stores, RELEASE. -/
def State.vecEffect (s0 : State) (u : Site) (n : Nat) (s : State) (k : VKind) (f : VForm) : State :=
  let t := s0.tile u
  let s := s.addLaneEv u n (s0.vecLanes u k f)
  match k with
  | .vld => s.countReads u (optRows (s0.operandRows u f.rowop 1) ++
      (if vldScaled f then optRows (s0.operandRows u f.rowop2 1) else []))
  | .vlda => s.release u f
  | .vst =>
    let g := storeGranule f.fmt.toNat f.rmode.toNat f.immA.toNat (t.vector f.va.toNat)
    match optRows (s0.operandRows u f.rowop 1) with
    | x :: _ => (s.narrowWrite u n x.row (storeOffset f.fmt.toNat (s0.rowWord u f.rowop) f.immB.toNat) g.1).addEv u n g.2
    | [] => s
  | .vste =>
    match optRows (s0.operandRows u f.rowop 1) with
    | x :: _ => s.narrowWrite u n x.row (storeOffset 1 (s0.rowWord u f.rowop) f.immB.toNat)
        ((List.range 64).map t.expByte)
    | [] => s
  | .vresc => (s.countReads u (optRows (s0.rescRows u f))).release u f
  | _ => s

/-- R112, R113: the results of the VEC slot. -/
def State.slotResults (s0 : State) (u : Site) (n : Nat) : VecOp → List PendWrite
  | .vec k f => s0.vecResults u n k f
  | .sca k f =>
    let t := s0.tile u
    [⟨n + s0.lat u.wing 0,
      .scalar f.sd.toNat (scalarFn k f (t.scalar f.sa.toNat) (t.scalar f.sb.toNat) (t.scalar f.sd.toNat))⟩]
  | .reserved => []

def State.vecSlot (s0 : State) (u : Site) (n : Nat) (s : State) : VecOp → State
  | .vec k f => State.vecEffect s0 u n s k f
  | .sca .. => s
  | .reserved => s

/-- R138: a load reads its rows and fills the shadow set. -/
def State.loadEffect (s0 : State) (u : Site) (s : State) (w : Nat) (sparse : Bool) (l : LoadRows) (side : Bool) : State :=
  let bytes (xs : List RowRef) := xs.flatMap (fun x => s0.readRow u x.row)
  let nv := valueRows w sparse
  let set := WeightSet.ofBytes w sparse (bytes (l.vals.take nv)) (bytes (l.vals.drop nv)) (bytes l.xrow) (bytes l.srow) side
  let t := s.tile u
  (s.setTile u { t with shadow := none
                        fill := some { set := set, rows := l.all.map (fun x => (x.handle, x.row)), beats := l.all.length } }
    ).refreshArray u

def State.arrEffect (s0 : State) (u : Site) (n : Nat) (s : State) : ArrOp → State
  | .mload wfmt rowop xrowop srowop side =>
    match s0.loadRows u wfmt.toNat false rowop xrowop srowop side with
    | some l => State.loadEffect s0 u s wfmt.toNat false l side
    | none => s
  | .msparse wfmt rowop xrowop =>
    match s0.loadRows u wfmt.toNat true rowop xrowop rowop false with
    | some l => State.loadEffect s0 u s wfmt.toNat true l false
    | none => s
  | .mstream afmt rowop xhandle acc count hrowop swap walk inl =>
    let a := afmt.toNat
    let k := count.toNat + 1
    let vecs := (s0.streamVecs u a rowop xhandle.toNat k walk).getD []
    let hdr := optRows (s0.streamHeader u a hrowop)
    let eAcc := match hdr with | x :: _ => (RescaleHeader.ofRow (s0.readRow u x.row)).eAcc | [] => 0
    let t := s.tile u
    let x : Stream := { afmt := a, region := acc.region.toNat, row0 := acc.row.toNat, count := k, next := 0, vecs := vecs
                        header := hdr.head?.map (fun y => (y.handle, y.row)), eAcc := eAcc, swap := swap, inl := inl
                        begun := false, iss := n, pc := s0.pc u }
    let g := rowGen rowop
    let t := if walk then t.setCounters g (advanceBy (s0.gen u g).n k ((s0.tile u).counters g)) else t
    (s.setTile u { t with feeder := t.feeder ++ [x] }).refreshArray u
  | .reserved => s

/-- R152: the beats that an inline stream's bundle costs beyond its own. -/
def State.inlineBeats (s : State) (u : Site) : Option ArrOp → Nat
  | some (.mstream afmt rowop xhandle _ count _ _ walk true) =>
    let a := afmt.toNat
    let vecs := (s.streamVecs u a rowop xhandle.toNat (count.toNat + 1) walk).getD []
    let f := vecs.countP (fun v => !vecSkips a (s.vecBytes u a v))
    max ((if a = 2 then 2 * f else f)) 1 - 1
  | _ => 0

/-- The generator that a walking stream advances by itself (R140). -/
def walkGen : Option ArrOp → List Nat
  | some (.mstream _ rowop _ _ _ _ _ true _) => [rowGen rowop]
  | _ => []

/-- R87: every generator that a slot advances, once. -/
def State.advance (s0 : State) (u : Site) (gs : List Nat) (s : State) : State :=
  gs.eraseDups.foldl (fun s g =>
    s.setTile u ((s.tile u).setCounters g (advanceNest ((s0.tile u).counters g) (s0.gen u g).n))) s

def optEffect {α : Type} (f : State → α → State) (o : Option α) (s : State) : State :=
  match o with
  | some x => f s x
  | none => s

/-- R471: the break of a replay run, when the named tile reaches its beat. -/
def State.checkBreak (s : State) (u : Site) : State :=
  let w := u.wing
  if s.bit Reg.AU_REPLAY.ENABLE w && s.bit Reg.AU_REPLAY.BREAK w && s.fld Reg.AU_REPLAY.TILE w == u.tile.toNat &&
      s.tfld u Reg.TC_STEP_LOCAL.STEP == s.fld Reg.AU_BREAK_STEP.STEP w &&
      decide (s.fld Reg.AU_REPLAY.BEAT w ≤ s.tfld u Reg.TC_BEAT_COUNT.BEATS)
  then s.setFld Reg.AU_REPLAY.BROKEN w 1 else s

/-- R29, R75: what a bundle does at issue beside its results: generators advance, then the slots take effect in the
order of R81. DESIGN CHOICE (log entry 60): where the bundle writes a word of the generator that its own stream walks, R85 clears
the counters and R140 leaves them advanced COUNT + 1 times; the walk prevails, as the later slot, whereas an ordinary advance
comes before the write. -/
def State.slotEffects (s0 : State) (u : Site) (b : Bundle) : State :=
  let n := (s0.tile u).beat
  let walk := walkGen b.arr
  let gs := ((s0.bundleNeeds u b).flatMap (·.adv)).filter (fun g => !walk.contains g)
  let s := State.advance s0 u gs s0
  let s := optEffect (State.ctlEffect s0 u) b.ctl s
  let s := optEffect (State.memEffect s0 u n) b.mem s
  let s := optEffect (State.qEffect s0 u) b.q s
  let s := optEffect (State.netEffect s0 u) b.net s
  let s := optEffect (State.vecSlot s0 u n) b.vec s
  optEffect (State.arrEffect s0 u n) b.arr s

def optResults {α : Type} (f : α → List PendWrite) : Option α → List PendWrite
  | some x => f x
  | none => []

/-- R80, R81: the results of a bundle, in the order of its slots. -/
def State.results (s0 : State) (u : Site) (b : Bundle) : List PendWrite :=
  let n := (s0.tile u).beat
  optResults (s0.memResults u n) b.mem ++ optResults (s0.qResults u n) b.q ++ optResults (s0.slotResults u n) b.vec

/-- R90, R91: the tile's bundle is in a timed wait: any wait but that for a step. DESIGN CHOICE (log entry 60): a bundle that
waits for a step and for something else at once shows cause 6 and is not timed while the step is awaited. -/
def State.timedWait (s : State) (u : Site) : Bool :=
  s.tbit u Reg.TC_WAIT_STATE.WAITING && s.tfld u Reg.TC_WAIT_STATE.CAUSE != 6

/-- R79, R91, R127, R129, R163: the counters of the issue: beats, program counter, loop records, wait state, choices. -/
def State.retire (s0 : State) (u : Site) (b : Bundle) (s : State) : State :=
  let fl := s0.flow u b.ctl
  let beats := 1 + fl.extra + s0.inlineBeats u b.arr
  let s := if (s0.readRows u b).isEmpty then s else s.countCorrected u b.ecc
  let s := s.countCorrected u b.fetch
  let s := s.addTfld u Reg.TC_BEAT_COUNT.BEATS beats
  let s := s.setTfld u Reg.TC_PC.PC (fl.pc % 2 ^ 17)
  let s := s.setReg (Reg.TC_WAIT_STATE.WAITING.on u 0) 0
  let t := s.tile u
  let s := s.setTile u { t with beat := t.beat + beats, loops := fl.loops, barSent := false }
  (s.countTdc u.wing (b.met && s0.timedWait u)).checkBreak u

/-- R29, R75: the bundle issues whole. -/
def State.issueNow (s0 : State) (u : Site) (b : Bundle) : State :=
  State.retire s0 u b (((s0.slotEffects u b).pumpTile u).addResults u (s0.results u b))

/-- The bundle's barrier wait (R110). -/
def bundleBar (b : Bundle) : Option Nat :=
  match b.net with
  | some (.bar bid true) => some bid.toNat
  | _ => none

/-- R110: the arrival of an awaited barrier is sent once. -/
def State.barAwait (s : State) (u : Site) (bid : Nat) : State :=
  if (s.tile u).barSent then s
  else
    let s := s.barLocal u bid
    s.setTile u { s.tile u with barSent := true }

/-- R110: the bundle issues when the awaited barrier is complete. -/
def State.issueBar (s : State) (u : Site) (b : Bundle) (bid : Nat) : State :=
  let s := s.barAwait u bid
  if s.barDone u bid then s.issueNow u b else s.markWait u b 5

/-- R124, R152, R471: the tile presents no bundle: it is stopped, an inline stream holds its issue, or its break has
fired. -/
def State.presents (s : State) (u : Site) : Bool :=
  s.tbit u Reg.TC_RUN.RUN && s.tileLive u.wing u.tile.toNat && !(s.tile u).feeder.any (·.inl) &&
    !(s.bit Reg.AU_REPLAY.BROKEN u.wing && s.fld Reg.AU_REPLAY.TILE u.wing == u.tile.toNat)

/-- R78, R164: the fetch of the bundle meets an uncorrectable codeword in its program row, or a parity error. -/
def State.fetchBad (s : State) (u : Site) (b : Bundle) : Option (Nat × Bool) :=
  if (s.tile u).isFull (s.pc u / 8) then (s.tile u).rowUe (s.pc u / 8) b.fetch else none

/-- A bundle comes to issue: its fetch fails, it faults, waits, or issues. -/
def State.issueSettled (s : State) (u : Site) (b : Bundle) : State :=
  match s.fetchBad u b with
  | some c => s.eccStop u (s.pc u / 8) c.1 false c.2
  | none => match s.bundleFault u b with
    | some c => s.tileFault u stTagFault c (s.pc u)
    | none => match s.bundleWait u b with
      | some c => s.markWait u b c
      | none => match s.badRow u b with
        | some r => s.eccStop u r.1 r.2.1 false r.2.2
        | none => match bundleBar b with
          | some bid => s.issueBar u b bid
          | none => s.issueNow u b

/-- R29, R30, R75: one bundle of a tile comes to issue. -/
def State.issue (s : State) (u : Site) (b : Bundle) : State :=
  if s.presents u then (s.settle u).issueSettled u b else s

end Sys2Proof.Machine
end

