-- ==== Sys2Proof/Machine/Hbm.lean ====
section
/-!
DEFINITION. The context memory (09): regions and their kinds (R283, R284), violations (R314), the stacks' tries, codes and
poison (R292, R293, R304, R305), the store filter and its span banks (R299, R300), tickets (R287, R288), and the commands
of the HBM.
-/
namespace Sys2Proof.Machine

/-! ### Regions and admission -/

/-- R284: who accesses HBM. -/
inductive HbmSrc where
  | load | store | hawkRead | hawkWrite | hostRead | hostWrite | fabricWrite | pairWrite
  /-- A packet that is no data-class HBM_WRITE of a hawk core of another chip. -/
  | other
  deriving DecidableEq, Repr

/-- R284, R314: the kinds of region that permit an access; the pair port brings fabric writes of the partner as well (R340). -/
def permits (k : Nat) : HbmSrc → Bool
  | .load => k == 1 || k == 3 || k == 5
  | .store => k == 1 || k == 8
  | .hawkRead => decide (1 ≤ k) && decide (k ≤ 8)
  | .hawkWrite => k == 1 || k == 2 || k == 3 || k == 4 || k == 5 || k == 7
  | .hostRead => k == 4
  | .hostWrite => k == 3 || k == 5
  | .fabricWrite => k == 1
  | .pairWrite => k == 1 || k == 6
  | .other => false

/-- R308: a region as its descriptor holds it, in bytes. -/
structure HbmRegion where
  num : Nat
  base : Nat
  size : Nat
  kind : Nat
  valid : Bool
  deriving DecidableEq, Repr

/-- R284, R308: descriptor `n`; kinds 0 and 9 to 15 are not valid. -/
def State.hbmRegion (s : State) (w : Fin 2) (n : Nat) : HbmRegion :=
  let v := s.reg (Reg.CM_REGION.BASE.at w n)
  { num := n, base := getBits v 0 18 * 2 ^ 21, size := getBits v 18 18 * 2 ^ 21, kind := getBits v 36 4
    valid := getBits v 40 1 != 0 && decide (1 ≤ getBits v 36 4) && decide (getBits v 36 4 ≤ 8) }

/-- R283: the lowest-numbered valid region that contains an offset. -/
def State.regionAt (s : State) (w : Fin 2) (off : Nat) : Option HbmRegion :=
  ((List.range 16).map (s.hbmRegion w)).find? (fun r => r.valid && decide (r.base ≤ off) && decide (off < r.base + r.size))

/-- The lowest-numbered valid region of a kind. -/
def State.regionOfKind (s : State) (w : Fin 2) (k : Nat) : Option HbmRegion :=
  ((List.range 16).map (s.hbmRegion w)).find? (fun r => r.valid && r.kind == k)

/-- R314, R318: the reason for which an access moves no data, when there is one; `chip` is a fabric write's source. -/
def State.hbmRefusal (s : State) (w : Fin 2) (src : HbmSrc) (chip off : Nat) : Option Nat :=
  if 0x7800000000 ≤ off then some 2
  else match s.regionAt w off with
    | none => some 0
    | some r =>
      if r.kind = 6 ∧ (src = .fabricWrite ∨ src = .pairWrite) ∧
          (chip ≠ s.fld Reg.CM_MIRROR_CTL.PARTNER_CHIP w ∨ chip = 0xFFFF) then some 3
      else if !permits r.kind src then some 1
      else none

/-- R283, R314: a violation is counted, and recorded when no record is held. -/
def State.hbmViolation (s : State) (w : Fin 2) (reason kind chip tile : Nat) : State :=
  let s := s.addFld Reg.CM_VIOL.COUNT w 1
  if s.bit Reg.CM_VIOL.VALID w then s
  else
    let s := s.setFld Reg.CM_VIOL.VALID w 1
    let s := s.setFld Reg.CM_VIOL.SRC_KIND w kind
    let s := s.setFld Reg.CM_VIOL.SRC_CHIP w chip
    let s := s.setFld Reg.CM_VIOL.SRC_TILE w tile
    s.setFld Reg.CM_VIOL.REASON w reason

/-! ### Stacks, codes and poison -/

/-- R280: granules that a run of bytes touches. -/
def granulesOf (off n : Nat) : List Nat := runOf (off / 2048) ((off % 2048 + n + 2047) / 2048)

/-- R293: the stack has failed. -/
def State.stackFailed (s : State) (w : Fin 2) (stack : Nat) : Bool := (s.fld Reg.CM_STATUS.FAILED w).testBit stack

/-- R305: granules wholly written lose their poison. -/
def State.clearPoison (s : State) (w : Fin 2) (off n : Nat) : State :=
  let x := s.wing w
  s.setWing w { x with poison := x.poison.filter (fun g => !(decide (off ≤ 2048 * g) && decide (2048 * g + 2048 ≤ off + n))) }

/-- R305: an uncorrectable block poisons its granule and is recorded. -/
def State.poisonGranule (s : State) (w : Fin 2) (g block source : Nat) : State :=
  let x := s.wing w
  let s := if x.poison.contains g then s
    else (s.setWing w { x with poison := nins g x.poison }).addFld Reg.CM_ECC_STATUS.POISONED w 1
  if s.bit Reg.CM_ECC_UE.VALID w then s
  else
    let s := s.setFld Reg.CM_ECC_UE.VALID w 1
    let s := s.setFld Reg.CM_ECC_UE.GRANULE w g
    let s := s.setFld Reg.CM_ECC_UE.BLOCK w block
    s.setFld Reg.CM_ECC_UE.SOURCE w source

/-- R292, R293: a request meets refresh and retries at its stack; the status with which its command ends. -/
def State.hbmCommand (s : State) (w : Fin 2) (off n : Nat) (o : HbmOut) : State × Nat :=
  let stack := hbmStack off
  if (granulesOf off n).any (fun g => s.stackFailed w (g % 10)) then (s, stLinkLost)
  else
    let busy := o.refreshed && (s.wing w).refreshing.any (fun b => b / 256 == stack)
    let s := if busy then s.addFld Reg.CM_TIMING_COUNT.REFRESH_WAITS w 1 else s
    let s := s.addFld Reg.CM_TIMING_COUNT.RETRIES w (min 2 o.fails.toNat)
    if o.fails = 3 then (s.setFld Reg.CM_STATUS.FAILED w (s.fld Reg.CM_STATUS.FAILED w ||| 2 ^ stack), stLinkLost)
    else (s, stOk)

/-- R304, R305: a read's code checks; `source` as R311 codes it. -/
def State.hbmReadCheck (s : State) (w : Fin 2) (off n source : Nat) (o : HbmOut) : State × Nat :=
  let c := s.hbmCommand w off n o
  if c.2 ≠ stOk then c
  else
    let s := c.1.addFld Reg.CM_ECC_STATUS.CORRECTED w o.corrected.toNat
    let s := s.addFld Reg.CM_ECC_STATUS.ONDIE w o.ondie.toNat
    if (granulesOf off n).any (fun g => (s.wing w).poison.contains g) then (s, stEcc)
    else match o.bad with
      | some b => (s.poisonGranule w (off / 2048) b.toNat source, stEcc)
      | none => (s, stOk)

/-- R418: the mirror carries the regions of kinds 1, 2, 4 and 7. -/
def mirroredKind (k : Nat) : Bool := k == 1 || k == 2 || k == 4 || k == 7

/-- R418: the 512-byte blocks that a write changes are noted for the mirror. -/
def State.markDirty (s : State) (w : Fin 2) (off n : Nat) : State :=
  match s.regionAt w off with
  | some r =>
    if mirroredKind r.kind then
      let x := s.wing w
      s.setWing w { x with dirty := (runOf (off / 512) ((off % 512 + n + 511) / 512)).foldl (fun l b => nins b l) x.dirty }
    else s
  | none => s

/-- A write at a controller: its bytes, the poison that it clears, and what the mirror has to carry. -/
def State.hbmStore (s : State) (w : Fin 2) (off : Nat) (data : List Byte) : State :=
  ((s.writeRun w off data).clearPoison w off data.length).markDirty w off data.length

/-- R292, R293: one write at a stack. -/
def State.hbmPut (s : State) (w : Fin 2) (off : Nat) (data : List Byte) (o : HbmOut) : State × Nat × List Byte :=
  let c := s.hbmCommand w off data.length o
  (if c.2 = stOk then c.1.hbmStore w off data else c.1, c.2, [])

/-- R292, R293, R305: one read at a stack, by the hawk cores or the host. -/
def State.hbmGet (s : State) (w : Fin 2) (off n : Nat) (o : HbmOut) : State × Nat × List Byte :=
  let c := s.hbmReadCheck w off n 1 o
  (c.1, c.2, if c.2 = stOk then c.1.readRun w off n else [])

/-- R280, R508: a run of `n` bytes cut at the multiples of `g`: the first byte and the length of each piece. -/
def piecesOf (g off n : Nat) : List (Nat × Nat) :=
  if n = 0 then []
  else (runOf (off / g) ((off % g + n + g - 1) / g)).map (fun k =>
    let lo := max off (g * k)
    (lo, min (off + n) (g * k + g) - lo))

/-- R509: the pieces of a request in order; the request ends with the first status that is not OK. -/
def State.overPieces (f : State → Nat → Nat → Nat → State × Nat × List Byte) (s : State) (l : List (Nat × Nat)) :
    State × Nat × List Byte :=
  l.zipIdx.foldl (fun r p =>
    let x := f r.1 p.2 p.1.1 p.1.2
    (x.1, if r.2.1 = stOk then x.2.1 else r.2.1, r.2.2 ++ x.2.2)) (s, stOk, [])

/-! ### The store filter (R299, R300, R315 to R317) -/

/-- R317: an entry of a span bank: first granule, granules, slot. -/
structure Span where
  first : Nat
  count : Nat
  slot : Nat
  deriving DecidableEq, Repr

def State.span (s : State) (w : Fin 2) (bank e : Nat) : Span :=
  let v := s.reg (Reg.CM_SPAN_BANK.FIRST.at w (32768 * bank + e))
  { first := getBits v 0 28, count := getBits v 28 20 + 1, slot := getBits v 48 14 }

/-- R316: entries of a bank that are valid. -/
def State.spanCount (s : State) (w : Fin 2) (bank : Nat) : Nat :=
  min 32768 (if bank = 0 then s.fld Reg.CM_SPAN_CTL.COUNT0 w else s.fld Reg.CM_SPAN_CTL.COUNT1 w)

/-- R300: the slot whose span in the bank in force holds a granule. -/
def State.spanSlot (s : State) (w : Fin 2) (g : Nat) : Option Nat :=
  let bank := s.fld Reg.CM_SPAN_CTL.ACTIVE w
  ((List.range (s.spanCount w bank)).find? (fun e =>
    let x := s.span w bank e
    decide (x.first ≤ g) && decide (g < x.first + x.count))).map (fun e => (s.span w bank e).slot)

/-- R315: the cancel bit of a slot. -/
def State.cancelBit (s : State) (w : Fin 2) (slot : Nat) : Bool :=
  (s.fld Reg.CM_CANCEL_MAP.MAP w (slot / 64)).testBit (slot % 64)

def State.setCancelBit (s : State) (w : Fin 2) (slot : Nat) (b : Bool) : State :=
  let a := Reg.CM_CANCEL_MAP.MAP.at w (slot / 64)
  s.setReg a (setBits (s.reg a) (slot % 64) 1 (if b then 1 else 0))

/-- R300: a store into a region of kind 1 that the filter discards. -/
def State.filtered (s : State) (w : Fin 2) (off : Nat) : Bool :=
  (match s.regionAt w off with | some r => r.kind == 1 | none => false) &&
    (match s.spanSlot w (off / 2048) with | some slot => s.cancelBit w slot | none => false)

/-- R299: the bank in force changes when the step counter reaches `CM_SPAN_STEP`. -/
def State.flipSpans (s : State) (w : Fin 2) (step : Nat) : State :=
  if s.bit Reg.CM_SPAN_CTL.ARMED w ∧ s.fld Reg.CM_SPAN_STEP.STEP w ≤ step then
    (s.setFld Reg.CM_SPAN_CTL.ACTIVE w (1 - s.fld Reg.CM_SPAN_CTL.ACTIVE w)).setFld Reg.CM_SPAN_CTL.ARMED w 0
  else s

/-- R299, R316: a write of `CM_SPAN_CTL`. The count of the bank in force keeps its value; a late arm is refused. -/
def State.spanCtl (s : State) (w : Fin 2) (v : Word) : State :=
  let act := s.bit Reg.CM_SPAN_CTL.ACTIVE w
  let s := if getBits v 3 1 = 1 then s.setFld Reg.CM_SPAN_CTL.REFUSED w 0 else s
  let s := if act then s.setFld Reg.CM_SPAN_CTL.COUNT0 w (getBits v 4 16) else s.setFld Reg.CM_SPAN_CTL.COUNT1 w (getBits v 20 16)
  if getBits v 0 1 = 0 then s
  else if s.fld Reg.TB_STEP.STEP w < s.fld Reg.CM_SPAN_STEP.STEP w then s.setFld Reg.CM_SPAN_CTL.ARMED w 1
  else (s.setFld Reg.CM_SPAN_CTL.REFUSED w 1).stopHere w stPlanMismatch 6 2

/-! ### Tickets (R287, R288) -/

/-- Two runs of rows share a byte. -/
def Ticket.overlaps (x y : Ticket) : Bool :=
  decide (x.off < y.off + 512 * y.nrows) && decide (y.off < x.off + 512 * x.nrows)

/-- R288: an earlier-issued store of the tile still in flight names a byte of the ticket. -/
def Tile.behindStore (t : Tile) (x : Ticket) : Bool :=
  t.stores.any (fun e => decide (e.2.state = .inFlight) && decide (e.2.order < x.order) && e.2.overlaps x)

/-- R286, R288: the request has left its queue: neither it nor an earlier one of its queue is held. -/
def Tile.sentTicket (t : Tile) (q : Sparse Ticket) (x : Ticket) : Bool :=
  !(q.any (fun e => decide (e.2.state = .inFlight) && decide (e.2.order ≤ x.order) && t.behindStore e.2))

/-- R287, R305: rows of a completed load are written into their targets; the tags stay empty. -/
def State.loadRowsInto (s : State) (u : Site) (rows : List Nat) (off : Nat) : State :=
  rows.zipIdx.foldl (fun s p =>
    let s := s.writeRow u p.1 (s.readRun u.wing (off + 512 * p.2) 512)
    s.setTile u { s.tile u with upsets := sset (fun _ => none) (s.tile u).upsets p.1 none }) s

/-- R281, R283, R287, R293, R305: a load ticket completes. -/
def State.completeLoad (s : State) (u : Site) (k : Nat) (o : HbmOut) : State :=
  let t := s.tile u
  let x := t.load k
  if x.state ≠ .inFlight ∨ !t.sentTicket t.loads x then s
  else match s.hbmRefusal u.wing .load 0 x.off with
    | some r => (s.hbmViolation u.wing r 0 (s.chip u.wing) u.tile.toNat).setLoad u k
        { x with state := .completed, status := stWindowViolation }
    | none =>
      let c := s.hbmReadCheck u.wing x.off (512 * x.nrows) 0 o
      let s := c.1.setLoad u k { x with state := .completed, status := c.2 }
      if c.2 = stOk then s.loadRowsInto u x.rows x.off else s

/-- R281, R283, R287, R293, R300: a store ticket completes. -/
def State.completeStore (s : State) (u : Site) (k : Nat) (o : HbmOut) : State :=
  let t := s.tile u
  let x := t.store k
  if x.state ≠ .inFlight ∨ !t.sentTicket t.stores x then s
  else match s.hbmRefusal u.wing .store 0 x.off with
    | some r => (s.hbmViolation u.wing r 0 (s.chip u.wing) u.tile.toNat).setStore u k
        { x with state := .completed, status := stWindowViolation, data := [] }
    | none =>
      if s.filtered u.wing x.off then
        (s.addFld Reg.CM_FILTER_COUNT.FILTERED u.wing 1).setStore u k { x with state := .completed, status := stOk, data := [] }
      else
        let c := s.hbmCommand u.wing x.off (512 * x.nrows) o
        let s := c.1.setStore u k { x with state := .completed, status := c.2, data := [] }
        if c.2 = stOk then s.hbmStore u.wing x.off x.data else s

/-! ### Accesses of the hawk cores, the host and the fabric -/

/-- R283: an access by a source other than a tile: the state, the status, and the bytes of a read. `kind` and `chip` are
those of `CM_VIOL`. -/
def State.hbmAccess (s : State) (w : Fin 2) (src : HbmSrc) (kind chip off n : Nat) (data : List Byte) (o : HbmOut) :
    State × Nat × List Byte :=
  match s.hbmRefusal w src chip off with
  | some r => (s.hbmViolation w r kind (if kind = 2 then 0 else chip) 0x3FF, stWindowViolation, [])
  | none =>
    match src with
    | .hawkRead | .hostRead | .load => s.hbmGet w off n o
    | _ => s.hbmPut w off data o

/-- R280, R283, R305: an access of the hawk cores: one check by its first byte, then each granule at its stack. -/
def State.hawkAccess (s : State) (w : Fin 2) (write : Bool) (off n : Nat) (data : List Byte) (outs : List HbmOut) :
    State × Nat × List Byte :=
  match s.hbmRefusal w (if write then .hawkWrite else .hawkRead) (s.chip w) off with
  | some r => (s.hbmViolation w r 1 (s.chip w) 0x3FF, stWindowViolation, [])
  | none =>
    if write then
      s.overPieces (fun s i o k => s.hbmPut w o ((data.drop (o - off)).take k) (outs.getD i {})) (piecesOf 2048 off data.length)
    else s.overPieces (fun s i o k => s.hbmGet w o k (outs.getD i {})) (piecesOf 2048 off n)

/-- What the hawk cores get back from an access. -/
def State.hawkAnswer (s : State) (w : Fin 2) (status : Nat) (data : List Byte) : State :=
  s.setWing w { s.wing w with hawkStatus := status, hawkData := data }

/-! ### Commands -/

/-- QLD_COMPLETE (R287). -/
def execQldComplete (u : Site) (ticket : BitVec 5) (o : HbmOut) (s : State) : Res :=
  .next (s.completeLoad u ticket.toNat o)

/-- QST_COMPLETE (R287, R300, R307). -/
def execQstComplete (u : Site) (ticket : BitVec 5) (o : HbmOut) (tie : Bool) (s : State) : Res :=
  .next ((s.countTdc u.wing tie).completeStore u ticket.toNat o)

/-- HBM_REFRESH (R292): a bank enters or leaves its refresh; the controller refreshes one bank of its stack at a time. -/
def execHbmRefresh (w : Fin 2) (stack : Fin 10) (bank : BitVec 8) (ends : Bool) (s : State) : Res :=
  let x := s.wing w
  let others := x.refreshing.filter (fun b => ends || b / 256 != stack.val)
  .next (s.setWing w { x with refreshing := nset others (256 * stack.val + bank.toNat) (!ends) })

/-- CM_SCRUB (R293, R306): the scrubber reads a granule of a valid region. -/
def execCmScrub (w : Fin 2) (granule : BitVec 28) (o : HbmOut) (s : State) : Res :=
  let off := 2048 * granule.toNat
  if s.fld Reg.CM_SCRUB_CTL.PERIOD_H w = 0 ∨ (s.regionAt w off).isNone ∨ s.stackFailed w (granule.toNat % 10) then .next s
  else
    let c := s.hbmCommand w off 2048 o
    let s := (c.1.addFld Reg.CM_ECC_STATUS.CORRECTED w o.corrected.toNat).addFld Reg.CM_ECC_STATUS.ONDIE w o.ondie.toNat
    if c.2 ≠ stOk then .next c.1
    else match o.bad with
    | some b =>
      let kind := match s.regionAt w off with | some r => r.kind | none => 0
      .next ((s.poisonGranule w granule.toNat b.toNat 2).event 6 stEcc
        (leBytes 8 granule.toNat ++ leBytes 1 w.val ++ leBytes 1 kind))
    | none => .next s

/-- HAWK_HBM_ACCESS (R283, R307): a read that fails returns no data (R305). -/
def execHawkHbmAccess (w : Fin 2) (write : Bool) (off : BitVec 48) (len : Nat) (data : List Byte) (outs : List HbmOut)
    (tie : Bool) (s : State) : Res :=
  let r := (s.countTdc w tie).hawkAccess w write off.toNat len data outs
  .next (r.1.hawkAnswer w r.2.1 (if r.2.1 = stOk then r.2.2 else []))

/-- R284: how a packet of the fabric or the pair port reaches the HBM switch. -/
def State.switchSrc (s : State) (w : Fin 2) (p : FPacket) : HbmSrc :=
  if p.kind = 0xC ∧ p.srcKind = 1 ∧ !p.vclass ∧ p.srcChip.toNat ≠ s.chip w then (if p.viaPair then .pairWrite else .fabricWrite)
  else .other

/-- R344, R346: the verdict on a fabric packet of a flag channel. -/
def fabricVerdict (p : FPacket) (taken : Bool) : Option Verdict :=
  if p.order && ordered p.kind then
    some { chip := p.srcChip, chan := p.chan, dstKind := p.dstKind, dstTile := p.dstTile, msg := p.msg, taken := taken }
  else none

/-- R283, R284, R293, R346: a packet of the fabric or the pair port is applied at the HBM switch, and its verdict is given. -/
def State.fabricStore (s : State) (w : Fin 2) (p : FPacket) (o : HbmOut) : State :=
  let r := s.hbmAccess w (s.switchSrc w p) 3 p.srcChip.toNat p.addr.toNat 0 (padTo 512 p.data) o
  r.1.giveVerdict w (fabricVerdict p (r.2.1 == stOk))

/-- R303, R345: an earlier packet of the same source and channel waits at the switch. -/
def Wing.switchAhead (x : Wing) (p : FPacket) : Bool :=
  (x.toHbm.takeWhile (· != p)).any (fun q => q.srcChip == p.srcChip && q.chan == p.chan)

/-- HBM_WRITE (R283, R284, R303, R307): a packet takes effect after the earlier ones of its source and channel. -/
def execHbmWrite (w : Fin 2) (p : FPacket) (o : HbmOut) (tie : Bool) (s : State) : Res :=
  let x := s.wing w
  if x.switchAhead p then .next (s.setWing w { x with toHbm := if x.toHbm.contains p then x.toHbm else x.toHbm ++ [p] })
  else .next (((s.countTdc w tie).setWing w { x with toHbm := x.toHbm.erase p }).fabricStore w p o)

/-- CM_CANCEL_SET (R300, R315). -/
def execCmCancelSet (w : Fin 2) (slot : BitVec 14) (tie : Bool) (s : State) : Res :=
  .next (s.whenUp ((s.countTdc w tie).setCancelBit w slot.toNat true))

/-- CM_CANCEL_CLR (R315). -/
def execCmCancelClr (w : Fin 2) (slot : BitVec 14) (s : State) : Res := .next (s.whenUp (s.setCancelBit w slot.toNat false))

/-- SPAN_ARM (R299, R307, R316): a write of `CM_SPAN_CTL`. -/
def execSpanArm (w : Fin 2) (value : BitVec 64) (tie : Bool) (s : State) : Res :=
  .next (s.whenUp ((s.countTdc w tie).spanCtl w value))

/-- HBM_STACK_TRAINED (R282). -/
def execHbmStackTrained (w : Fin 2) (stack : Fin 10) (s : State) : Res :=
  .next (s.setFld Reg.CM_STATUS.TRAINED w (s.fld Reg.CM_STATUS.TRAINED w ||| 2 ^ stack.val))

/-- HBM_STACK_HOT (R292). -/
def execHbmStackHot (w : Fin 2) (stack : Fin 10) (hot : Bool) (s : State) : Res :=
  let v := s.fld Reg.CM_STATUS.HOT w
  .next (s.setFld Reg.CM_STATUS.HOT w (if hot then v ||| 2 ^ stack.val else v - (v &&& 2 ^ stack.val)))

end Sys2Proof.Machine
end

