-- ==== Sys2Proof/Machine/TileEvents.lean ====
section
/-!
DEFINITION. What happens at a tile besides its bundles: the array's own events (R138, R143, R144, R148), waits and holds that
end (R90, R188, R189), the scrubber (R165), writes of its TC_ registers from any source (R122 to R124, R182, R183).
-/
namespace Sys2Proof.Machine

/-! ### The array -/

/-- STREAM_BEGIN_FEED (R143). -/
def execStreamBeginFeed (u : Site) (s : State) : Res := .next (s.streamBegin u)

/-- VECTOR_FEED (R144, R150). -/
def execVectorFeed (u : Site) (found : RowErr) (s : State) : Res := .next (s.vectorFeed u found)

/-- ACC_ROW_WRITE (R148). -/
def execAccRowWrite (u : Site) (s : State) : Res := .next (s.accRowWrite u)

/-- WEIGHT_FILL_COMPLETE (R138). -/
def execWeightFillComplete (u : Site) (s : State) : Res := .next (s.fillComplete u)

/-! ### Waits and holds -/

/-- R90, R91: the timed wait of the tile's bundle reaches its limit; `tie` says that the awaited condition comes true at the
same moment, and that the timeout wins. Nothing expires where no bundle is in a timed wait (`timedWait`; DESIGN CHOICE, log entry
60: a bundle that awaits a step and another condition at once is in none). -/
def State.waitExpires (s : State) (u : Site) (tie : Bool) : State :=
  if s.presents u && s.timedWait u then
    (s.countTdc u.wing tie).tileFault u stTimeout 9 (s.tfld u Reg.TC_WAIT_STATE.PC)
  else s

/-- WAIT_TIMEOUT (R90, R91). -/
def execWaitTimeout (u : Site) (tie : Bool) (s : State) : Res := .next (s.waitExpires u tie)

/-- R184, R188: the held row lands when its tag, lock and claim allow, and what waited behind it proceeds. -/
def State.landHeld (s : State) (u : Site) : State :=
  match (s.tile u).inbound with
  | none => s
  | some h =>
    if !s.canLand u h.row then s
    else
      let s := (s.setTile u { s.tile u with inbound := none }).landIn u h
      let s := match (s.tile u).outsideEntry with
        | some g => if g.whole then s.completeOutside u g else s
        | none => s
      s.pumpTile u

/-- INBOUND_ROW_LAND (R188). -/
def execInboundRowLand (u : Site) (s : State) : Res := .next (s.landHeld u)

/-- INBOUND_HOLD_TIMEOUT (R188, R191). -/
def execInboundHoldTimeout (u : Site) (tie : Bool) (s : State) : Res :=
  if (s.tile u).inbound.isNone then .next s
  else .next ((s.countTdc u.wing tie).tileFault u stTimeout 15 (s.pc u))

/-- R189: the hold of the oldest held merging read of a row ends, and the port serves what it can. -/
def releaseHold (row : Nat) : List PortRead → List PortRead
  | [] => []
  | x :: r => if x.hold && x.row == row then { x with hold := false } :: r else x :: releaseHold row r

/-- MERGE_HOLD_EXPIRY (R189). -/
def execMergeHoldExpiry (u : Site) (row : BitVec 14) (s : State) : Res :=
  let t := s.tile u
  .next ((s.setTile u { t with readPort := releaseHold row.toNat t.readPort }).pumpTile u)

/-! ### The scrubber -/

/-- R165: the scrubber reads a row. -/
def State.scrubRow (s : State) (u : Site) (row : Nat) (found : RowErr) : State :=
  let s := s.countCorrected u found
  if found.parity then s.eccStop u 0 0 true true
  else match found.bad with
  | none => s
  | some c =>
    let t := s.tile u
    if t.isFull row then
      (s.setTile u { t with upsets := sset (fun _ => none) t.upsets row (some found) }).eccStop u row c.toNat true false
    else ((s.writeRow u row []).setTile u { t with upsets := sset (fun _ => none) t.upsets row none }).addTfld u
      Reg.SP_ECC_STATUS.CORRECTED 1

/-- SP_SCRUB (R165): not while the scrubber is disabled (R202) or the row's tier is down (R160). -/
def execSpScrub (u : Site) (row : BitVec 14) (found : RowErr) (s : State) : Res :=
  if s.tfld u Reg.SP_SCRUB_CTL.PERIOD_MS = 0 ∨ s.rowDown u row.toNat ∨ s.tileLive u.wing u.tile.toNat = false then .next s
  else .next (s.scrubRow u row.toNat found)

/-! ### Writes of TC_ registers (R122) -/

/-- R9, R23, R122, R643: a write of a TC_ register by a source; a disabled tile has none. The tile's own program meets its faults as
at issue. DESIGN CHOICE (log entry 60): R122 speaks of TC_ registers, and R102 names the generator words of the TC_ block beside
them; writes of those words from outside a running tile are ignored as well. -/
def State.tcAccess (s : State) (u : Site) (src : Src) (o : Nat) (v : Word) : State :=
  if !s.up || !s.tileLive u.wing u.tile.toNat then s
  else if src = .program then
    if !s.presents u then s
    else match s.tcWriteFault u o v with
      | some c => s.tileFault u stTagFault c (s.pc u)
      | none => (s.tcWrite u true (s.tile u).beat o v).pumpTile u
  else if s.tbit u Reg.TC_RUN.RUN && o != 0x8 then s
  else match s.tcWriteFault u o v with
    | some c => s.tileFault u stTagFault c (s.pc u)
    | none => (s.tcWrite u false (s.tile u).beat o v).pumpTile u

/-- TC_RUN (R124). -/
def execTcRun (u : Site) (src : Src) (value : BitVec 64) (s : State) : Res := .next (s.tcAccess u src 0x8 value)

/-- SAT_CLEAR (R60, R73): a write of `TC_SAT_CTL`. -/
def execSatClear (u : Site) (src : Src) (value : BitVec 64) (s : State) : Res := .next (s.tcAccess u src 0x110 value)

/-- The value of `TC_WIN_CTL` that opens or closes a window (R192). -/
def winCtlValue (win op : Nat) (notify : Bool) (fid : Nat) : Word :=
  BitVec.ofNat 64 (win + 16 * op + (if notify then 64 else 0) + 128 * fid)

/-- WIN_OPEN (R182, R183, R190). -/
def execWinOpen (u : Site) (src : Src) (win : BitVec 4) (notify : Bool) (fid : BitVec 6) (tie : Bool) (s : State) : Res :=
  .next (s.whenUp ((s.countTdc u.wing tie).tcAccess u src 0x38 (winCtlValue win.toNat 1 notify fid.toNat)))

/-- WIN_CLOSE (R182, R190). -/
def execWinClose (u : Site) (src : Src) (win : BitVec 4) (tie : Bool) (s : State) : Res :=
  .next (s.whenUp ((s.countTdc u.wing tie).tcAccess u src 0x38 (winCtlValue win.toNat 2 false 0)))

/-- TC_TAG_EMPTY (R174, R194). -/
def execTcTagEmpty (u : Site) (src : Src) (value : BitVec 64) (s : State) : Res := .next (s.tcAccess u src 0x48 value)

/-- TC_GATHER_SEAL (R178, R195). -/
def execTcGatherSeal (u : Site) (src : Src) (value : BitVec 64) (s : State) : Res := .next (s.tcAccess u src 0x50 value)

/-- VIOL_COUNT_CLEAR (R199): accepted at any time. -/
def execViolCountClear (u : Site) (value : BitVec 64) (s : State) : Res :=
  if s.up ∧ getBits value 32 1 = 1 then .next (s.setTfld u Reg.SP_VIOL_COUNT.COUNT 0) else .next s

/-! ### Packets that arrive at a tile (R185 to R189, R109, R267, R270) -/

/-- ROW_WRITE (R185). -/
def execRowWrite (u : Site) (dir : Dir) (p : Packet) (tie : Bool) (s : State) : Res :=
  .next (s.arrive u dir { p with kind := 0 } tie)

/-- ROW_POST (R186). -/
def execRowPost (u : Site) (dir : Dir) (p : Packet) (tie : Bool) (s : State) : Res :=
  .next (s.arrive u dir { p with kind := 1 } tie)

/-- WORD_WRITE (R175). -/
def execWordWrite (u : Site) (dir : Dir) (p : Packet) (tie : Bool) (s : State) : Res :=
  .next (s.arrive u dir { p with kind := 2 } tie)

/-- READ_REQ (R181). -/
def execReadReq (u : Site) (dir : Dir) (p : Packet) (tie : Bool) (s : State) : Res :=
  .next (s.arrive u dir { p with kind := 3 } tie)

/-- READ_DATA (R109). -/
def execReadData (u : Site) (dir : Dir) (p : Packet) (tie : Bool) (s : State) : Res :=
  .next (s.arrive u dir { p with kind := 4 } tie)

/-- READ_STATUS (R109). -/
def execReadStatus (u : Site) (dir : Dir) (p : Packet) (tie : Bool) (s : State) : Res :=
  .next (s.arrive u dir { p with kind := 6 } tie)

/-- WORD_READ (R181). -/
def execWordRead (u : Site) (dir : Dir) (p : Packet) (tie : Bool) (s : State) : Res :=
  .next (s.arrive u dir { p with kind := 7 } tie)

/-- BAR_ARRIVE (R267, R268). -/
def execBarArrive (u : Site) (dir : Dir) (p : Packet) (tie : Bool) (s : State) : Res :=
  .next (s.arrive u dir { p with kind := 9 } tie)

/-- BAR_RELEASE (R267, R268). -/
def execBarRelease (u : Site) (dir : Dir) (p : Packet) (tie : Bool) (s : State) : Res :=
  .next (s.arrive u dir { p with kind := 0xA } tie)

/-- FLAG_OP (R270, R271). -/
def execFlagOp (u : Site) (dir : Dir) (p : Packet) (tie : Bool) (s : State) : Res :=
  .next (s.arrive u dir { p with kind := 0xB } tie)

end Sys2Proof.Machine
end

