-- ==== Sys2Proof/Machine/Fabric.lean ====
section
/-!
DEFINITION. The fabric router of a wing (10, 11): header conversion (R331), the source side (R342 to R350), routing (R337 to
R340, R370, R382, R383), the destination side (R332, R342 to R348), the edge (R588, R589) and fabric barriers (R352).
-/
namespace Sys2Proof.Machine

/-! ### Counters and roles -/

/-- R364: a packet discarded under R327, R332, R340, R352, R370, R373, R382 or R386. -/
def State.discard (s : State) (w : Fin 2) : State := s.addFld Reg.FB_DROP_COUNT.DISCARDED w 1

/-- R320, R321: the role that a port acts in: 0 fabric, 1 edge, 2 pair, 3 off. -/
def State.roleOf (s : State) (w : Fin 2) (p : Nat) : Nat :=
  let r := s.fld Reg.FB_PORT_CFG.ROLE w p
  if p = 7 then (if r = 2 then 2 else 3)
  else if r = 1 then (if (List.range p).any (fun q => s.fld Reg.FB_PORT_CFG.ROLE w q == 1) then 3 else 1)
  else if r = 0 then 0 else 3

/-- R373: an edge device's chip number. -/
def isEdgeChip (c : Nat) : Bool := decide (0x1000 ≤ c) && decide (c < 0x1100)

/-! ### Header conversion (R331) -/

/-- R331: flits of payload of a kind. -/
def payloadFlits (k : BitVec 4) : BitVec 4 :=
  if k = 0 ∨ k = 1 ∨ k = 4 ∨ k = 0xC then 8 else if k = 2 ∨ k = 8 then 1 else 0

/-- R331: a mesh packet as it enters the fabric router. -/
def toFabric (p : Packet) : FPacket :=
  { kind := p.kind, chan := p.chan, flag := p.flaglast || p.kind == 0xB
    dstChip := p.dstChip, dstTile := p.dstTile, dstKind := if p.dstTile = 0x3FF then 1 else 0
    srcChip := p.srcChip, srcTile := p.srcTile, srcKind := p.srcKind
    nflits := payloadFlits p.kind
    addr := if p.kind = 1 then p.win.zeroExtend 48 else if p.kind = 0xB then BitVec.ofNat 48 (p.arg.toNat % 1024) else p.addr
    arg := if p.kind = 0xB then BitVec.ofNat 32 (leNat (p.data.take 4)) else p.arg.zeroExtend 32
    raddr := if p.kind = 3 then BitVec.ofNat 48 (rowOffset p.srcTile.toNat p.rrow.toNat)
             else if isReply p.kind then p.raddr else 0
    status := p.status, data := if p.kind = 0xB then [] else p.data }

/-- R331, R346: a fabric packet as it enters the silk mesh. -/
def toMesh (p : FPacket) : Packet :=
  let a := p.addr.toNat % 2 ^ 23
  { kind := p.kind, place := 0, dstTile := p.dstTile, dstChip := p.dstChip, srcTile := p.srcTile, srcChip := p.srcChip
    srcKind := p.srcKind, flaglast := p.flag, chan := p.chan, win := BitVec.ofNat 4 p.addr.toNat
    arg := match p.kind.toNat with
      | 0 | 3 => BitVec.ofNat 20 (a / 512)
      | 2 | 7 => BitVec.ofNat 20 (a / 8)
      | 0xB => BitVec.ofNat 20 (p.addr.toNat % 1024)
      | _ => BitVec.ofNat 20 p.arg.toNat
    rrow := BitVec.ofNat 14 (p.raddr.toNat % 2 ^ 23 / 512)
    addr := p.addr, raddr := p.raddr, msg := if p.order && ordered p.kind then some p.msg else none
    status := p.status, data := if p.kind = 0xB then leBytes 4 p.arg.toNat else p.data }

/-! ### Where packets end up in the wing -/

/-- R331: a packet reaches the hawk cores. -/
def State.toHawkCores (s : State) (w : Fin 2) (p : FPacket) : State :=
  let x := s.wing w
  s.setWing w { x with toHawk := x.toHawk ++ [p] }

/-- R256: a packet enters the silk mesh at the row port of its tile's row. -/
def State.enterMesh (s : State) (w : Fin 2) (p : Packet) : State :=
  s.enqueue (siteAt w (tileRow p.dstTile.toNat) (portCol w)) .rowPort p

/-! ### Routing -/

/-- R339: the chip that the packet's present leg leads to. -/
def legTarget (p : FPacket) : Nat := if p.vclass && !p.vleg then p.midChip.toNat else p.dstChip.toNat

/-- Flits that wait for an output (R385); output 8 is the crossing link. -/
def Wing.waitingFlits (x : Wing) (out : Nat) : Nat :=
  ((if out = 8 then x.crossing else (x.port out).out.map (·.2)).map flitsOf).sum

/-- R338: free credits of a port's virtual channel; the crossing link has room for 64 flits. -/
def Wing.freeCredits (x : Wing) (out vc : Nat) : Nat :=
  if out = 8 then 64 - ((x.crossing.filter (fun p => vcOf p == vc)).map flitsOf).sum else (x.port out).credit vc

/-- R338: the listed port with the most free credits, ties to the lower number. -/
def bestPort (free : Nat → Nat) : List Nat → Option Nat
  | [] => none
  | p :: r =>
    match bestPort free r with
    | some q => if free p < free q then some q else some p
    | none => some p

/-- R338 to R340, R382: the port by which a packet leaves. -/
def State.portFor (s : State) (w : Fin 2) (p : FPacket) : Option Nat :=
  let t := legTarget p
  let ports := bitsOf 9 (s.route w t).1
  if t = s.fld Reg.CM_MIRROR_CTL.PARTNER_CHIP w ∧ t ≠ 0xFFFF then some 7
  else if isEdgeChip t ∨ p.vclass then ports.head?
  else bestPort (fun q => (s.wing w).freeCredits q (vcOf p)) ports

/-- R588, R589: the edge keys of a wing's edge port are installed. -/
def State.edgeKeyed (s : State) (w : Fin 2) : Bool := (s.fld Reg.SC_EDGE_STATUS.KEY_VALID 0).testBit w.val

/-- The last counter of a direction of a wing's edge port: 0 outbound, 1 inbound. -/
def State.edgeCtr (s : State) (w : Fin 2) (d : Nat) : Nat := sget (fun _ => 0) s.cocoon.edgeCtr (2 * w.val + d)

def State.setEdgeCtr (s : State) (w : Fin 2) (d v : Nat) : State :=
  s.setCocoon { s.cocoon with edgeCtr := sset (fun _ => 0) s.cocoon.edgeCtr (2 * w.val + d) v }

/-- R336: the input of a packet that the wing's own tiles or hawk cores offer. -/
def ownInput (p : FPacket) : Nat := 36 + vcOf p

/-- R323, R335: a packet leaves the input buffer that held it. -/
def State.leave (s : State) (w : Fin 2) (input : Nat) (p : FPacket) : State :=
  s.setWing w ((s.wing w).leaveInput input (flitsOf p))

/-- A packet joins a port's queue. -/
def State.queueOut (s : State) (w : Fin 2) (input port : Nat) (p : FPacket) : State :=
  let x := s.wing w
  let q := x.port port
  (s.setWing w (x.setPort port { q with out := q.out ++ [(input, p)] })).pumpPort w port

/-- R370, R588, R589: a packet is put onto an output. -/
def State.putOut (s : State) (w : Fin 2) (input port : Nat) (p : FPacket) : State :=
  if port = 8 then
    let x := s.wing w
    (s.setWing w { x with crossing := x.crossing ++ [p] }).leave w input p
  else if p.hops = 3 ∧ p.kind ≠ 0xE then (s.discard w).leave w input p
  else
    let p := { p with hops := p.hops + 1 }
    if s.roleOf w port = 1 then
      if !s.edgeKeyed w then ((s.addFld Reg.SC_EDGE_STATUS.AUTH_FAILS 0 1).discard w).leave w input p
      else
        let c := s.edgeCtr w 0 + 1
        (s.setEdgeCtr w 0 c).queueOut w input port { p with ctr := BitVec.ofNat 64 c }
    else s.queueOut w input port p

/-- R382: a packet is sent on toward the target of its leg. -/
def State.sendOn (s : State) (w : Fin 2) (input : Nat) (p : FPacket) : State :=
  if !(s.route w (legTarget p)).2.1 then (s.discard w).leave w input p
  else match s.portFor w p with
    | some q => s.putOut w input q p
    | none => (s.discard w).leave w input p

/-! ### The source router -/

/-- R383: the next value of the 32-bit shift register (x^32 + x^22 + x^2 + x + 1). -/
def lfsrNext (x : BitVec 32) : BitVec 32 :=
  let fb := (x.getLsbD 31 ^^ x.getLsbD 21) ^^ (x.getLsbD 1 ^^ x.getLsbD 0)
  (x <<< 1) ||| (if fb then 1 else 0)

/-- R383, R403: entry `i` of the valiant list. -/
def State.valChip (s : State) (w : Fin 2) (i : Nat) : Nat :=
  getBits (s.reg (Reg.FB_VAL.CHIP0.at w (i / 4))) (16 * (i % 4)) 16

/-- R339, R383: a candidate's group condition. -/
def State.valOk (s : State) (w : Fin 2) (src dst c : Nat) : Bool :=
  let g (x : Nat) := (s.route w x).2.2.1
  if g src = g dst then g c == g src && c != src && c != dst else g c != g src && g c != g dst

/-- R339, R383: the valiant draw, or the direct path on the second leg. -/
def State.drawMid (s : State) (w : Fin 2) (p : FPacket) : State × FPacket :=
  let n := min 256 (s.fld Reg.FB_ROUTE_CTL.VAL_COUNT w)
  if n = 0 then (s, { p with vleg := true })
  else
    let x := lfsrNext (s.wing w).lfsr
    let s := s.setWing w { s.wing w with lfsr := x }
    let cand := ((List.range n).map (fun i => s.valChip w ((x.toNat + i) % n))).find?
      (s.valOk w p.srcChip.toNat p.dstChip.toNat)
    match cand with
    | some c => (s, { p with vleg := false, midChip := BitVec.ofNat 16 c })
    | none => (s, { p with vleg := true })

/-- R340: a packet for the partner chip or an edge device has one way only, and draws no intermediate. -/
def State.oneWay (s : State) (w : Fin 2) (p : FPacket) : Bool :=
  isEdgeChip p.dstChip.toNat || (p.dstChip != 0xFFFF && p.dstChip.toNat == s.fld Reg.CM_MIRROR_CTL.PARTNER_CHIP w)

/-- R337, R339, R340, R382: a numbered packet leaves its source router; one for the router's own chip stays there. -/
def State.launch (s : State) (w : Fin 2) (p : FPacket) : State :=
  if p.dstChip.toNat = s.chip w then
    if (s.route w (s.chip w)).2.1 then
      let x := s.wing w
      s.setWing w { x with heldIn := x.heldIn ++ [(9, p)] }
    else s.discard w
  else if !p.vclass then s.sendOn w (ownInput p) p
  else if s.oneWay w p then s.sendOn w (ownInput p) { p with vleg := true }
  else
    let d := s.drawMid w p
    d.1.sendOn w (ownInput d.2) d.2

/-- R342, R344: two packets of one stream of a wing. -/
def State.sameStream (s : State) (w : Fin 2) (p q : FPacket) : Bool :=
  inStream (s.flagChan w p.chan.toNat) p.kind && inStream (s.flagChan w p.chan.toNat) q.kind && p.dstChip == q.dstChip &&
    p.chan == q.chan

/-- R330, R337: what the source router stamps on a packet of the job. -/
def State.stamp (s : State) (w : Fin 2) (p : FPacket) : FPacket :=
  let bar := p.kind == 9 || p.kind == 0xA
  { p with
    order := s.flagChan w p.chan.toNat, viaPair := false
    vclass := bar || (!isReply p.kind && (s.fld Reg.FB_CHAN_CFG.CLASS w).testBit p.chan.toNat)
    vleg := false, hops := 0, poison := false
    epoch := BitVec.ofNat 8 (s.fld Reg.FB_JOB.EPOCH w) }

/-- R342, R344, R348: a packet with room in its stream is numbered and leaves. -/
def State.acceptSource (s : State) (w : Fin 2) (p : FPacket) : State :=
  let p := s.stamp w p
  let x := s.wing w
  if !inStream p.order p.kind then s.launch w p
  else if p.order then
    let f := x.flagTxOf p
    if 65535 ≤ f.sent then s.stopHere w stTagFault 5 0
    else if p.flag then
      let f' := { f with msg := f.msg + 1, sent := 0, openMsgs := f.openMsgs ++ [(f.msg, p.srcKind == 1)] }
      (s.setWing w (x.setFlagTx p f')).launch w { p with msg := f.msg, mcount := BitVec.ofNat 16 (f.sent + 1) }
    else (s.setWing w (x.setFlagTx p { f with sent := f.sent + 1 })).launch w { p with msg := f.msg }
  else
    let c := x.strictOf p.dstChip.toNat p.chan.toNat
    let p' := { p with pseq := c.nextTx }
    (s.setWing w (x.setStrict p.dstChip.toNat p.chan.toNat
      { c with nextTx := c.nextTx + 1, unacked := c.unacked + 1 })).launch w p'

/-- A unicast packet is offered to the source router: it leaves, or waits for room behind its stream (R343, R347). -/
def State.offerOne (s : State) (w : Fin 2) (p : FPacket) : State :=
  let x := s.wing w
  if (routeIndex p.dstChip.toNat).isNone then s.discard w
  else if x.fabricWait.any (s.sameStream w p) || s.streamFull w p 1 then s.setWing w { x with fabricWait := x.fabricWait ++ [p] }
  else s.acceptSource w p

/-- R331, R333, R350, R374: a packet of this wing's tiles or hawk cores enters its fabric router. -/
def State.offer (s : State) (w : Fin 2) (p : FPacket) : State :=
  let c := p.dstChip.toNat
  if s.chip w = 0xFFFF then s
  else if !s.bit Reg.FB_JOB.LOADED w then s.lateDrop w
  else if 0xF000 ≤ c ∧ c < 0xF010 ∧ (p.kind = 0 ∨ (p.srcKind = 1 ∧ ordered p.kind)) then
    match s.mcastMembers w (c - 0xF000) with
    | none => s.stopHere w stTagFault 5 0
    | some l => l.foldl (fun s m => s.offerOne w { p with dstChip := BitVec.ofNat 16 m }) s
  else s.offerOne w p

/-- Packets that waited are offered again, in order. -/
def State.pumpWaiting (s : State) (w : Fin 2) : State :=
  let l := (s.wing w).fabricWait
  l.foldl (fun s p => s.offerOne w p) (s.setWing w { s.wing w with fabricWait := [] })

/-! ### The destination router -/

/-- R26, R27, R331: a packet names a place that is no scratchpad of a tile: its tile number, or the region of its ADDR. -/
def noPlace (p : FPacket) : Bool :=
  decide (576 ≤ p.dstTile.toNat) ||
    ((p.kind == 0 || p.kind == 2 || p.kind == 3 || p.kind == 7) &&
      !(decide (0x8000000000 ≤ p.addr.toNat) && decide (p.addr.toNat < 0x8200000000)))

/-- R27, R346: a write to no place is dropped and reported; a read completes at once. -/
def State.refuseAt (s : State) (w : Fin 2) (p : FPacket) : State :=
  if p.kind = 3 ∨ p.kind = 7 then
    s.offer w { kind := 6, chan := p.chan, dstChip := p.srcChip, dstTile := p.srcTile, dstKind := p.srcKind, srcChip := p.dstChip
                srcTile := p.dstTile, raddr := p.raddr, status := BitVec.ofNat 8 stWindowViolation }
  else (s.report w stWindowViolation p.addr.toNat).giveVerdict w (fabricVerdict p false)

/-- R382: a packet handed to the silk mesh, the hawk cores or the HBM switch. DESIGN CHOICE (log entry 61): the hawk cores take
every packet that reaches them. -/
def State.handOn (s : State) (w : Fin 2) (p : FPacket) : State :=
  match p.dstKind.toNat with
  | 0 => if noPlace p then s.refuseAt w p else s.enterMesh w (toMesh p)
  | 1 => (s.toHawkCores w p).giveVerdict w (fabricVerdict p true)
  | _ => let x := s.wing w; s.setWing w { x with toHbm := x.toHbm ++ [p] }

/-- R343, R346: a COMPLETE sent to a source router; `v` is a PSEQ or a MSG. -/
def State.sendComplete (s : State) (w : Fin 2) (chip chan dstKind dstTile v : Nat) : State :=
  s.offer w { kind := 0xD, chan := BitVec.ofNat 4 chan, dstChip := BitVec.ofNat 16 chip, dstTile := 0x3FF, dstKind := 1
              srcChip := BitVec.ofNat 16 (s.chip w), srcTile := BitVec.ofNat 10 dstTile
              srcKind := if dstKind = 0 then 0 else 1, arg := BitVec.ofNat 32 v }

/-- R343: one more delivery of a strict stream; every eighth is acknowledged. -/
def State.strictDelivered (s : State) (w : Fin 2) (p : FPacket) : State :=
  let chip := p.srcChip.toNat
  let chan := p.chan.toNat
  let c := (s.wing w).strictOf chip chan
  let c := { c with nextRx := c.nextRx + 1, owedAck := c.owedAck + 1 }
  if 8 ≤ c.owedAck then
    (s.setWing w ((s.wing w).setStrict chip chan { c with owedAck := 0 })).sendComplete w chip chan 0 0x3FF p.pseq.toNat
  else s.setWing w ((s.wing w).setStrict chip chan c)

/-- R342: early packets whose turn has come; `n` bounds how many. -/
def State.drainEarly (w : Fin 2) (chip chan : Nat) : Nat → State → State
  | 0, s => s
  | n + 1, s =>
    let c := (s.wing w).strictOf chip chan
    match c.early.find? (fun p => p.pseq == c.nextRx) with
    | none => s
    | some p =>
      let s := s.setWing w ((s.wing w).setStrict chip chan { c with early := c.early.erase p })
      State.drainEarly w chip chan n ((s.handOn w p).strictDelivered w p)

/-- R342: flits in the reorder memory. -/
def Wing.reorderFlits (x : Wing) : Nat := (x.strict.map (fun e => (e.2.early.map flitsOf).sum)).sum

/-- R342: a packet of a strict stream arrives. -/
def State.strictArrive (s : State) (w : Fin 2) (p : FPacket) : State :=
  let chip := p.srcChip.toNat
  let chan := p.chan.toNat
  let x := s.wing w
  let c := x.strictOf chip chan
  if p.pseq = c.nextRx then
    (State.drainEarly w chip chan c.early.length ((s.handOn w p).strictDelivered w p)).refreshOrder w
  else (s.setWing w (x.setStrict chip chan { c with early := c.early ++ [p] })).refreshOrder w

/-- R344, R346: the message that a packet belongs to. -/
def FlagRx.isOf (m : FlagRx) (chip : BitVec 16) (chan : BitVec 4) (dstKind : BitVec 2) (dstTile : BitVec 10)
    (msg : BitVec 8) : Bool :=
  m.chip == chip && m.chan == chan && m.dstKind == dstKind && m.dstTile == dstTile && m.msg == msg

def FlagRx.holds (m : FlagRx) (p : FPacket) : Bool := m.isOf p.srcChip p.chan p.dstKind p.dstTile p.msg

def Wing.setFlagRx (x : Wing) (m : FlagRx) : Wing :=
  { x with flagRx := x.flagRx.filter (fun y => !y.isOf m.chip m.chan m.dstKind m.dstTile m.msg) ++ [m] }

/-- R346: the message has taken effect: a COMPLETE is sent and the message closes. -/
def State.tryCloseMsg (s : State) (w : Fin 2) (m : FlagRx) : State :=
  match m.mcount with
  | none => s
  | some n =>
    if m.dropped ∨ m.taken < n then s
    else
      let x := s.wing w
      let s := s.setWing w { x with
        flagRx := x.flagRx.filter (fun y => !y.isOf m.chip m.chan m.dstKind m.dstTile m.msg) }
      s.sendComplete w m.chip.toNat m.chan.toNat m.dstKind.toNat m.dstTile.toNat m.msg.toNat

/-- R345: the held flagged packet is handed on once the others of its message have been. -/
def State.releaseHeld (s : State) (w : Fin 2) (m : FlagRx) : State :=
  match m.held, m.mcount with
  | some p, some n =>
    if n ≤ m.handed + 1 then
      let m := { m with held := none, handed := m.handed + 1 }
      ((s.setWing w ((s.wing w).setFlagRx m)).handOn w p).tryCloseMsg w m
    else s.setWing w ((s.wing w).setFlagRx m)
  | _, _ => s.setWing w ((s.wing w).setFlagRx m)

/-- R345, R348: a packet of a flag channel arrives. -/
def State.flagArrive (s : State) (w : Fin 2) (p : FPacket) : State :=
  let m := ((s.wing w).flagRx.find? (·.holds p)).getD
    { chip := p.srcChip, dstKind := p.dstKind, dstTile := p.dstTile, chan := p.chan, msg := p.msg
      handed := 0, taken := 0, dropped := false, mcount := none, held := none }
  let s' :=
    if p.flag then s.releaseHeld w { m with mcount := some p.mcount.toNat, held := some p }
    else (s.handOn w p).releaseHeld w { m with handed := m.handed + 1 }
  s'.refreshOrder w

/-! ### Fabric barriers (R352, R367) -/

/-- R352, R367: an entry's local place and shape. -/
structure FbBar where
  tile : Nat
  bid : Nat
  nchild : Nat
  hasParent : Bool
  valid : Bool
  deriving DecidableEq, Repr

def State.fbBar (s : State) (w : Fin 2) (n : Nat) : FbBar :=
  let v := s.reg (Reg.FB_BAR0.LOCAL_TILE.at w n)
  { tile := getBits v 0 10, bid := getBits v 10 4, nchild := getBits v 14 3, hasParent := getBits v 17 1 != 0
    valid := getBits v 18 1 != 0 && decide (getBits v 14 3 ≤ 6) }

/-- R352: the chip and tile of child `k` of entry `n`. -/
def State.fbChild (s : State) (w : Fin 2) (n k : Nat) : Nat × Nat :=
  let v := s.reg (regAddr w .fb (0x410 + 0x40 * n + 8 * k))
  (getBits v 0 16, getBits v 16 10)

/-- The VALID entry of a local tile and barrier. -/
def State.fbEntry (s : State) (w : Fin 2) (tile bid : Nat) : Option Nat :=
  (List.range 16).find? (fun n => let e := s.fbBar w n; e.valid && e.tile == tile && e.bid == bid)

/-- The children of an entry. -/
def State.fbChildren (s : State) (w : Fin 2) (n : Nat) : List (Nat × Nat) :=
  (List.range (s.fbBar w n).nchild).map (s.fbChild w n)

/-- R337, R352: a barrier packet across the fabric. -/
def State.sendFabricBar (s : State) (w : Fin 2) (kind chip tile fromTile bid : Nat) : State :=
  s.offer w { kind := BitVec.ofNat 4 kind, dstChip := BitVec.ofNat 16 chip, dstTile := BitVec.ofNat 10 tile
              srcChip := BitVec.ofNat 16 (s.chip w), srcTile := BitVec.ofNat 10 fromTile, arg := BitVec.ofNat 32 bid }

/-- R352: one packet into the row-port input of the local tile's router. -/
def State.toRowPort (s : State) (w : Fin 2) (tile kind bid : Nat) : State :=
  s.enqueue ⟨w, BitVec.ofNat 10 tile⟩ .rowPort
    { kind := BitVec.ofNat 4 kind, dstTile := BitVec.ofNat 10 tile, dstChip := BitVec.ofNat 16 (s.chip w)
      srcTile := 0x3FF, srcChip := BitVec.ofNat 16 (s.chip w), arg := BitVec.ofNat 20 bid }

/-- R352: an arrival from a child counts, or pends. -/
def State.fbArrival (s : State) (w : Fin 2) (n : Nat) : State :=
  if s.bit Reg.FB_BAR1.WAITREL w n then s.setFld Reg.FB_BAR1.PENDING w (s.fld Reg.FB_BAR1.PENDING w n + 1) n
  else
    let e := s.fbBar w n
    let s := s.setFld Reg.FB_BAR1.ARRIVED w (s.fld Reg.FB_BAR1.ARRIVED w n + 1) n
    if s.fld Reg.FB_BAR1.ARRIVED w n = e.nchild then
      (s.setFld Reg.FB_BAR1.WAITREL w 1 n).toRowPort w e.tile 9 e.bid
    else s

/-- R352: `k` pending arrivals applied one at a time. -/
def State.fbApply (w : Fin 2) (n : Nat) : Nat → State → State
  | 0, s => s
  | k + 1, s => State.fbApply w n k (s.fbArrival w n)

/-- R352: a fabric arrival. -/
def State.fbChildArrive (s : State) (w : Fin 2) (p : FPacket) : State :=
  match s.fbEntry w p.dstTile.toNat (p.arg.toNat % 16) with
  | none => s.discard w
  | some n =>
    if (s.fbChildren w n).contains (p.srcChip.toNat, p.srcTile.toNat) then s.fbArrival w n else s.discard w

/-- R352: a fabric release from the parent. -/
def State.fbParentRelease (s : State) (w : Fin 2) (p : FPacket) : State :=
  match s.fbEntry w p.dstTile.toNat (p.arg.toNat % 16) with
  | none => s.discard w
  | some n =>
    let e := s.fbBar w n
    if e.hasParent ∧ s.fld Reg.FB_BAR1.PARENT_CHIP w n = p.srcChip.toNat ∧ s.fld Reg.FB_BAR1.PARENT_TILE w n = p.srcTile.toNat
    then s.toRowPort w e.tile 0xA e.bid else s.discard w

/-! ### Packets at their destination -/

/-- R343, R346, R347: a COMPLETE reaches the source router of its stream. -/
def State.completeArrive (s : State) (w : Fin 2) (p : FPacket) : State :=
  let x := s.wing w
  let chip := p.srcChip.toNat
  let chan := p.chan.toNat
  if s.flagChan w chan then
    let msg := BitVec.ofNat 8 p.arg.toNat
    let hit (f : FlagTx) : Bool :=
      f.chip == p.srcChip && f.chan == p.chan && (if p.srcKind = 0 then f.dstKind == 0 && f.dstTile == p.srcTile else f.dstKind != 0) &&
        f.openMsgs.any (fun m => m.1 == msg)
    match x.flagTx.find? hit with
    | none => s
    | some f =>
      let hawk := f.openMsgs.any (fun m => m.1 == msg && m.2)
      let x := { x with flagTx := x.flagTx.map (fun g => if g = f then { g with openMsgs := g.openMsgs.filter (fun m => m.1 != msg) } else g) }
      let x := if hawk then { x with toHawk := x.toHawk ++ [p] } else x
      (s.setWing w x).pumpWaiting w
  else
    let c := x.strictOf chip chan
    let upto := BitVec.ofNat 16 p.arg.toNat
    let done := (upto + 1 - (c.nextTx - BitVec.ofNat 16 c.unacked)).toNat
    if done ≤ c.unacked then
      (s.setWing w (x.setStrict chip chan { c with unacked := c.unacked - done, ackedTo := upto })).pumpWaiting w
    else s

/-- R332: the header of a packet that a destination router discards. -/
def badHeader (p : FPacket) : Bool :=
  p.poison || !p.pcrcOk || p.kind == 5 || p.kind == 0xF || p.dstKind == 3 || decide (2 ≤ p.srcKind.toNat)

/-- R332, R382: a packet whose destination is the router's own chip. -/
def State.arriveOwn (s : State) (w : Fin 2) (p : FPacket) : State :=
  if badHeader p then s.discard w
  else match p.kind.toNat with
    | 9 => s.fbChildArrive w p
    | 0xA => s.fbParentRelease w p
    | 0xD => s.completeArrive w p
    | _ =>
      if !inStream p.order p.kind then s.handOn w p
      else if p.order then s.flagArrive w p
      else s.strictArrive w p

/-- R352: the entry of a fabric arrival holds seven pending ones and waits for its release. -/
def State.fbFull (s : State) (w : Fin 2) (p : FPacket) : Bool :=
  match s.fbEntry w p.dstTile.toNat (p.arg.toNat % 16) with
  | none => false
  | some n => (s.fbChildren w n).contains (p.srcChip.toNat, p.srcTile.toNat) && s.bit Reg.FB_BAR1.WAITREL w n &&
      s.fld Reg.FB_BAR1.PENDING w n == 7

/-- R342, R348, R352: a packet at its destination has to stay in its input buffer. -/
def State.mustHold (s : State) (w : Fin 2) (p : FPacket) : Bool :=
  let x := s.wing w
  if badHeader p then false
  else if p.kind = 9 then s.fbFull w p
  else if !inStream p.order p.kind then false
  else if p.order then !(x.flagRx.any (·.holds p)) && decide (4096 ≤ x.flagRx.length)
  else p.pseq != (x.strictOf p.srcChip.toNat p.chan.toNat).nextRx && decide (16384 < x.reorderFlits + flitsOf p)

/-- R335: a packet at its destination takes effect and leaves its input buffer, or stays in it. -/
def State.takeOwn (s : State) (w : Fin 2) (port : Nat) (p : FPacket) : State :=
  if s.mustHold w p then
    let x := s.wing w
    s.setWing w { x with heldIn := x.heldIn ++ [(port, p)] }
  else (s.arriveOwn w p).leave w (4 * port + vcOf p) p

/-- Packets held in their input buffers are tried again, in order. -/
def State.pumpHeldIn (s : State) (w : Fin 2) : State :=
  let l := (s.wing w).heldIn
  l.foldl (fun s e => s.takeOwn w e.1 e.2) (s.setWing w { s.wing w with heldIn := [] })

/-- R352: an arrival of the local router toward its row port. -/
def State.fbLocalArrive (s : State) (w : Fin 2) (tile bid : Nat) : State :=
  match s.fbEntry w tile bid with
  | none => s.discard w
  | some n =>
    if (s.fbBar w n).hasParent then
      (s.sendFabricBar w 9 (s.fld Reg.FB_BAR1.PARENT_CHIP w n) (s.fld Reg.FB_BAR1.PARENT_TILE w n) tile bid).pumpHeldIn w
    else s

/-- R588, R589: an inbound packet of the edge port passes its checks; the counters follow. -/
def State.edgeCheck (s : State) (w : Fin 2) (p : FPacket) : State × Bool :=
  if !s.edgeKeyed w || !p.tagOk then ((s.addFld Reg.SC_EDGE_STATUS.AUTH_FAILS 0 1).discard w, false)
  else if p.ctr.toNat ≤ s.edgeCtr w 1 then ((s.addFld Reg.SC_EDGE_STATUS.REPLAYS 0 1).discard w, false)
  else (s.setEdgeCtr w 1 p.ctr.toNat, true)

/-- R339, R382: an accepted packet is delivered, turned onto its second leg, or sent on. -/
def State.routePacket (s : State) (w : Fin 2) (port : Nat) (p : FPacket) : State :=
  let own := s.chip w
  let input := 4 * port + vcOf p
  if p.dstChip.toNat = own then
    if (s.route w own).2.1 then s.takeOwn w port p else (s.discard w).leave w input p
  else if p.vclass ∧ !p.vleg ∧ p.midChip.toNat = own then s.sendOn w input { p with vleg := true, hops := 0 }
  else s.sendOn w input p

/-! ### Sweeps (R386) -/

/-- Samples of output `out` in bin `b` since the last SWEEP. -/
def Wing.sweepBin (x : Wing) (out b : Nat) : Nat := sget (fun _ => 0) x.sweepBins (8 * out + b)

/-- R386: the highest bin that is not empty (0 when all are). -/
def highestBin (n : Nat → Nat) : Nat := ((List.range 8).filter (fun b => decide (n b ≠ 0))).getLast?.getD 0

/-- R386: the bin at or below which 99 % of the samples lie. -/
def bin99 (n : Nat → Nat) : Nat :=
  let total := ((List.range 8).map n).sum
  ((List.range 8).find? (fun b => decide (99 * total ≤ 100 * ((List.range (b + 1)).map n).sum))).getD 7

/-- R386: the record that a router appends. -/
def State.sweepRecord (s : State) (w : Fin 2) : List Byte :=
  let x := s.wing w
  padTo 64 (leBytes 2 (s.chip w) ++ leBytes 8 (s.reg (Reg.TB_TIME.TIME.at w 0)).toNat ++
    (List.range 9).flatMap (fun p => leBytes 1 (highestBin (x.sweepBin p)) ++ leBytes 1 (bin99 (x.sweepBin p))))

/-- R386: flits of VC1 packets that wait for an output. -/
def Wing.repliesWaiting (x : Wing) (out : Nat) : Nat :=
  ((((x.port out).out.map (·.2)).filter (fun p => vcOf p == 1)).map flitsOf).sum

/-- R386: an output's VC1 has room for a whole packet. -/
def State.sweepRoom (s : State) (w : Fin 2) (p : FPacket) (out : Nat) : Bool :=
  if out = 8 then decide (flitsOf p ≤ (s.wing w).freeCredits 8 1)
  else s.carries w out && decide ((s.wing w).repliesWaiting out + flitsOf p ≤ (s.wing w).freeCredits out 1)

/-- R386: a SWEEP originates at the router (port 9) or arrives on another port, with a record more. -/
def State.sweepArrive (s : State) (w : Fin 2) (port : Nat) (p : FPacket) : State :=
  let p := if port = 9 then { p with kind := 0xE, epoch := BitVec.ofNat 8 (s.fld Reg.FB_JOB.EPOCH w) }
           else { p with nflits := p.nflits + 1, data := p.data ++ s.sweepRecord w }
  let s := if port = 9 then s else s.setWing w { s.wing w with sweepBins := [] }
  let held := p.nflits.toNat
  let nib := p.arg.toNat / 16 ^ (held - 1) % 16
  if nib = 15 ∨ 8 ≤ held then s.toHawkCores w p
  else if 8 < nib ∨ !s.sweepRoom w p nib then s.discard w
  else s.putOut w (ownInput p) nib p

/-- R333: a packet is of another epoch than the router's, or of a job that has stopped. -/
def State.lateAt (s : State) (w : Fin 2) (p : FPacket) : Bool :=
  p.epoch.toNat != s.fld Reg.FB_JOB.EPOCH w || !s.bit Reg.FB_JOB.LOADED w

/-- R332, R333, R340, R378, R382, R386: a whole packet has arrived from another router on a port: 0 to 7, or 8, the crossing
link. -/
def State.acceptPacket (s : State) (w : Fin 2) (port : Nat) (p : FPacket) : State :=
  let done (s : State) := s.leave w (4 * port + vcOf p) p
  if port < 8 ∧ !s.carries w port then done s
  else if s.lateAt w p then done (s.lateDrop w)
  else if p.kind = 0xE then done (if p.poison ∨ !p.pcrcOk then s.discard w else s.sweepArrive w port p)
  else if port < 8 ∧ (s.roleOf w port = 1 ∨ s.roleOf w port = 2) ∧ p.dstChip.toNat ≠ s.chip w then done (s.discard w)
  else
    let p := { p with viaPair := port == 7 }
    if port < 8 ∧ s.roleOf w port = 1 then
      let c := s.edgeCheck w p
      if c.2 then (c.1.routePacket w port p).pumpHeldIn w else done c.1
    else (s.routePacket w port p).pumpHeldIn w

/-- R374: a packet reaches the router on a port; 9 is the wing's own tiles and hawk cores. -/
def State.packetArrive (s : State) (w : Fin 2) (port : Nat) (p : FPacket) : State :=
  if s.chip w = 0xFFFF then s
  else if port = 9 then (if p.kind = 0xE then s.sweepArrive w 9 p else (s.offer w p).pumpHeldIn w)
  else s.acceptPacket w port p

/-- R332, R333, R374: a packet that has reached its destination router takes effect, unless it is late or bad. -/
def State.checked (s : State) (w : Fin 2) (p : FPacket) (f : State → State) : State :=
  if s.chip w = 0xFFFF then s
  else if s.lateAt w p then s.lateDrop w
  else if badHeader p then s.discard w
  else f s

/-! ### Commands -/

/-- FABRIC_PACKET_RECEIVE (R332, R333, R382). A packet on the crossing link is one that the other router put there. -/
def execFabricPacketReceive (w : Fin 2) (port : Fin 10) (p : FPacket) (s : State) : Res :=
  if port.val = 8 then
    let y := s.wing (otherWing w)
    if y.crossing.contains p then
      .next ((s.setWing (otherWing w) { y with crossing := y.crossing.erase p }).packetArrive w 8 p)
    else .next s
  else .next (s.packetArrive w port.val p)

/-- COMPLETE (R332, R333, R343, R346, R347). -/
def execComplete (w : Fin 2) (p : FPacket) (s : State) : Res :=
  let p := { p with kind := 0xD }
  .next (s.checked w p (fun s => (s.completeArrive w p).pumpHeldIn w))

/-- R346: the verdict of a packet of the message waits on the verdict path. -/
def Wing.verdictWaits (x : Wing) (v : Verdict) : Bool := x.verdicts.contains v

/-- R346: the router takes a verdict of a message. -/
def State.takeVerdict (s : State) (w : Fin 2) (v : Verdict) : State :=
  let x := s.wing w
  let s := s.setWing w { x with verdicts := x.verdicts.erase v }
  match (s.wing w).flagRx.find? (·.isOf v.chip v.chan v.dstKind v.dstTile v.msg) with
  | none => s
  | some m =>
    let m := if v.taken then { m with taken := m.taken + 1 } else { m with dropped := true }
    ((((s.setWing w ((s.wing w).setFlagRx m)).tryCloseMsg w m).refreshOrder w).pumpHeldIn w)

/-- VERDICT (R346): a verdict that a unit has given reaches the router. -/
def execVerdict (w : Fin 2) (chip : BitVec 16) (chan : BitVec 4) (dstKind : BitVec 2) (dstTile : BitVec 10) (msg : BitVec 8)
    (taken : Bool) (s : State) : Res :=
  let v : Verdict := { chip := chip, chan := chan, dstKind := dstKind, dstTile := dstTile, msg := msg, taken := taken }
  .next (if (s.wing w).verdictWaits v then s.takeVerdict w v else s)

/-- STRICT_ACK_TIMER (R343). -/
def execStrictAckTimer (w : Fin 2) (chip : BitVec 16) (chan : BitVec 4) (s : State) : Res :=
  let c := (s.wing w).strictOf chip.toNat chan.toNat
  if c.owedAck = 0 then .next s
  else .next ((s.setWing w ((s.wing w).setStrict chip.toNat chan.toNat { c with owedAck := 0 })).sendComplete w
    chip.toNat chan.toNat 0 0x3FF (c.nextRx - 1).toNat)

/-- FLAG_HOLD_TIMEOUT (R349, R354): the limit of a held flagged packet; `tie` says that its count completes within the arbiter
window. A packet already handed on has won, and the meeting counts. -/
def execFlagHoldTimeout (w : Fin 2) (chip : BitVec 16) (chan : BitVec 4) (dstKind : BitVec 2) (dstTile : BitVec 10)
    (msg : BitVec 8) (tie : Bool) (s : State) : Res :=
  match (s.wing w).flagRx.find? (·.isOf chip chan dstKind dstTile msg) with
  | some m =>
    if m.held.isSome then .next ((s.countTdc w tie).stopHere w stTimeout 5 0)
    else .next (s.countTdc w (tie && m.mcount.isSome))
  | none => .next s

/-- FB_BAR_LOCAL_ARRIVE (R352). -/
def execFbBarLocalArrive (w : Fin 2) (tile : BitVec 10) (bid : BitVec 4) (s : State) : Res :=
  .next (s.fbLocalArrive w tile.toNat bid.toNat)

/-- FB_BAR_CHILD_ARRIVE (R332, R333, R352): with PENDING full it holds its input buffer. -/
def execFbBarChildArrive (w : Fin 2) (p : FPacket) (s : State) : Res :=
  let p := { p with kind := 9 }
  .next (s.checked w p (fun s => s.takeOwn w 9 p))

/-- FB_BAR_PARENT_RELEASE (R332, R333, R352). -/
def execFbBarParentRelease (w : Fin 2) (p : FPacket) (s : State) : Res :=
  let p := { p with kind := 0xA }
  .next (s.checked w p (fun s => s.fbParentRelease w p))

/-- R352: a release of the local router toward its row port. -/
def State.fbLocalRelease (s : State) (w : Fin 2) (tile bid : Nat) : State :=
  match s.fbEntry w tile bid with
  | none => s.discard w
  | some n =>
    let s := (s.fbChildren w n).foldl (fun s c => s.sendFabricBar w 0xA c.1 c.2 tile bid) s
    let s := s.setFld Reg.FB_BAR1.ARRIVED w 0 n
    let s := s.setFld Reg.FB_BAR1.WAITREL w 0 n
    let s := s.setFld Reg.FB_BAR1.GEN w (s.fld Reg.FB_BAR1.GEN w n + 1) n
    let k := s.fld Reg.FB_BAR1.PENDING w n
    (State.fbApply w n k (s.setFld Reg.FB_BAR1.PENDING w 0 n)).pumpHeldIn w

/-- FB_BAR_LOCAL_RELEASE (R352). -/
def execFbBarLocalRelease (w : Fin 2) (tile : BitVec 10) (bid : BitVec 4) (s : State) : Res :=
  .next (s.fbLocalRelease w tile.toNat bid.toNat)

end Sys2Proof.Machine
end

