-- ==== Sys2Proof/Machine/Forward.lean ====
section
/-!
DEFINITION. Forwarding in the silk mesh (R256 to R263, R266): the choice of an input (R257), the copies that leave, link
errors (R263), and what leaves by a row port toward the fabric router and the hawk cores.
-/
namespace Sys2Proof.Machine

/-- R257: the input that an output serves next. -/
def State.nextInput (s : State) (u : Site) (out : Dir) : Option Dir :=
  (inputOrder (sget (fun _ => 0) (s.tile u).served (dirCode out))).find? (fun d => s.wants u d out)

/-- The output is taken: the pointer moves on, and the packet leaves its queue once every output has it. -/
def State.taken (s : State) (u : Site) (input out : Dir) (p : Packet) : State :=
  let t := s.tile u
  let done := nins (dirCode out) (t.forkedOf input)
  let t := t.servedBy input out
  if (outputsOf u p).all (fun d => done.contains (dirCode d)) then
    s.setTile u ((t.setForked input []).setQueue input (t.queue input).tail)
  else s.setTile u (t.setForked input done)

/-- R256, R331, R352: a packet leaves by the row port: to the fabric barrier table, the wing's hawk cores, or the fabric
router. -/
def State.leaveRowPort (s : State) (u : Site) (p : Packet) : State :=
  match p.kind.toNat with
  | 9 => s.fbLocalArrive u.wing p.srcTile.toNat (p.arg.toNat % 16)
  | 0xA => s.fbLocalRelease u.wing p.srcTile.toNat (p.arg.toNat % 16)
  | _ => if p.dstChip.toNat = s.chip u.wing then s.toHawkCores u.wing (toFabric p)
    else (s.offer u.wing (toFabric p)).pumpHeldIn u.wing

/-- R257: a router forwards one whole packet to an output; `tie` says that a packet delivered to its tile meets another event
there (R190, R271). -/
def State.meshForward (s : State) (u : Site) (out : Dir) (e : LinkErr) (tie : Bool) : State :=
  if !hasLink u out || decide (576 ≤ u.tile.toNat) then s
  else match s.nextInput u out with
    | none => s
    | some input =>
      match (s.tile u).queue input with
      | [] => s
      | p :: r =>
        if reservedPacket p then
          (s.setTile u (((s.tile u).setForked input []).setQueue input r)).badPacket u input
        else if !s.canLeave u input out p then s
        else
          let q := copyFor u out p
          let s := s.taken u input out p
          match out with
          | .tile => (s.countTdc u.wing (tie && tieCounts q)).deliver u input
              { q with found := if q.found = {} then e.row else q.found }
          | .rowPort => s.leaveRowPort u q
          | _ => s.cross u out q e

/-- MESH_FORWARD (R257, R263). -/
def execMeshForward (u : Site) (out : Dir) (e : LinkErr) (tie : Bool) (s : State) : Res := .next (s.meshForward u out e tie)

/-- READ_MERGED (R262): the copy forks, or queues behind what its input holds. -/
def execReadMerged (u : Site) (dir : Dir) (p : Packet) (tie : Bool) (s : State) : Res :=
  .next (s.arrive u dir { p with kind := 5 } tie)

/-- WORD_DATA (R331): the reply of a word read leaves by the row port, to the hawk cores of the wing that it is addressed to, or
queues (R257). -/
def execWordData (u : Site) (dir : Dir) (p : Packet) (tie : Bool) (s : State) : Res :=
  let p := { p with kind := 8 }
  if reservedPacket p then .next (s.badPacket u dir)
  else if s.passes u dir [.rowPort] p then
    .next (((s.countTdc u.wing tie).setTile u ((s.tile u).servedBy dir .rowPort)).toHawkCores u.wing (toFabric p))
  else .next (s.enqueue u dir { p with place := 2 })

end Sys2Proof.Machine
end

