-- ==== Sys2Proof/Machine/Topology.lean ====
section
/-!
DEFINITION. Machine time and the step counter (R387 to R396), routing banks (R384), congestion telemetry (R385, R386,
R401), and the spread of a stop (R599, R600).
-/
namespace Sys2Proof.Machine

/-! ### Machine time (R387 to R392) -/

def State.timeOf (s : State) (w : Fin 2) : Nat := s.fld Reg.TB_TIME.TIME w
def State.stepOf (s : State) (w : Fin 2) : Nat := s.fld Reg.TB_STEP.STEP w
def State.loaded (s : State) (w : Fin 2) : Bool := s.bit Reg.FB_JOB.LOADED w

/-- R407: the port to the wing's parent, where it has one. -/
def State.parentPort (s : State) (w : Fin 2) : Option Nat :=
  let p := s.fld Reg.TB_TREE.PARENT w
  if p ≤ 8 then some p else none

/-- R407: the ports to the wing's children. -/
def State.childPorts (s : State) (w : Fin 2) : List Nat := bitsOf 9 (s.fld Reg.TB_TREE.CHILDREN w)

/-- R389: the parent notes a child's T1 and its own T2. -/
def State.delayReq (s : State) (w : Fin 2) (port t1 : Nat) : State :=
  if (s.childPorts w).contains port then
    let x := s.wing w
    s.setWing w { x with time := { x.time with echo := sput port (t1, s.timeOf w) x.time.echo } }
  else s

/-- R389: the difference of two stamps, which wrap at 2^64. -/
def stampDiff (a b : BitVec 64) : Int := (a - b).toInt

/-- R389: delay and offset of an exchange, in units of 1/16 ns; the division truncates toward zero, as the spec's pseudocode does. -/
def exchange (t1 t2 t3 t4 : BitVec 64) : Int × Int :=
  ((stampDiff t4 t1 - stampDiff t3 t2).tdiv 2, (stampDiff t2 t1 + stampDiff t3 t4).tdiv 2)

/-- R326, R389: the port has sent a NAK and awaits the resent frame. -/
def State.nakWindow (s : State) (w : Fin 2) (port : Nat) : Bool := decide (port < 8) && ((s.wing w).port port).nakOpen

/-- R369, R375: a control record that came over the crossing link (port 8) has left the other wing. -/
def State.takeCrossing (s : State) (w : Fin 2) (port : Nat) (c : Control) : State :=
  if port = 8 then
    let o := otherWing w
    let x := s.wing o
    let q := x.port 8
    s.setWing o (x.setPort 8 { q with control := q.control.erase c })
  else s

/-- R390, R408: what one exchange does to the child's timebase and status. -/
def State.syncTo (s : State) (w : Fin 2) (delay offset : Int) : State :=
  let x := s.wing w
  let good := decide (-2 ≤ offset) && decide (offset ≤ 2)
  let n := if good then x.time.inBound + 1 else 0
  let loaded := s.loaded w
  let s := s.setWing w { x with time := { x.time with
    inBound := n, slew := if loaded then offset else 0, slewTick := if loaded then x.time.slewTick else 0 } }
  let s := if loaded then s
    else s.setReg (Reg.TB_TIME.TIME.at w 0) (s.reg (Reg.TB_TIME.TIME.at w 0) + BitVec.ofInt 64 offset)
  let s := s.setFld Reg.TB_STATUS.OFFSET w (BitVec.ofInt 32 offset).toNat
  let s := s.setFld Reg.TB_STATUS.DELAY w (BitVec.ofInt 16 delay).toNat
  let s := s.setFld Reg.TB_STATUS.HOLDOVER w 0
  let s := s.setFld Reg.TB_STATUS.LOCKED w (if 16 ≤ n then 1 else 0)
  if loaded ∧ (offset < -16 ∨ 16 < offset) then
    (s.setFld Reg.TB_STATUS.OUT_OF_BOUND w 1).event 7 stOk (leBytes 2 (s.chip w))
  else s

/-- R389, R390: a SYNC from the parent. -/
def State.syncArrive (s : State) (w : Fin 2) (port : Nat) (t3 t2 t1 : BitVec 64) : State :=
  if s.parentPort w = some port then
    let e := exchange t1 t2 t3 (s.reg (Reg.TB_TIME.TIME.at w 0))
    s.syncTo w e.1 e.2
  else s

/-- R389: the SYNC for each child whose request has come, and the wing's own request to its parent. -/
def State.timesync (s : State) (w : Fin 2) : State :=
  let now := s.reg (Reg.TB_TIME.TIME.at w 0)
  let s := (s.childPorts w).foldl (fun s p =>
    match (s.wing w).time.echo.find? (fun e => e.1 == p) with
    | some e => s.sendControl w p (.sync now (BitVec.ofNat 64 e.2.2) (BitVec.ofNat 64 e.2.1))
    | none => s) s
  match s.parentPort w with
  | some p => s.sendControl w p (.delayReq now)
  | none => s

/-! ### The step counter (R393 to R395) -/

/-- The tiles of the wing whose TC_RUN.RUN is set. -/
def State.runTiles (s : State) (w : Fin 2) : List Nat :=
  (s.regs.filter (fun e => isTcRun w e.1 && e.2.getLsbD 0)).map (fun e => e.1 % 0x1000000 / 0x2000)

/-- R393: the tiles of the job on the wing: those that the job's imago loads (log entry 34). -/
def State.jobTiles (s : State) (w : Fin 2) : List Nat :=
  match s.job.img with
  | some i => (i.tiles.filter (fun t => t.site.wing == w)).map (fun t => t.site.tile.toNat)
  | none => s.runTiles w

/-- R393: every tile of the job on the wing has issued its END. -/
def State.allEnded (s : State) (w : Fin 2) : Bool := (s.jobTiles w).all (fun t => (s.wing w).endedTiles.contains t)

/-- R247: a publication whose SWAP_STEP the counter exceeds is swapped. -/
def State.swapPublications (s : State) (w : Fin 2) (step : Nat) : State :=
  (List.range 8).foldl (fun s n =>
    if s.fld Reg.SV_TABLE_PUB1.STATE w n = 1 ∧ s.fld Reg.SV_TABLE_PUB0.SWAP_STEP w n < step then
      s.setFld Reg.SV_TABLE_PUB1.STATE w 2 n
    else s) s

/-- R247, R299, R393: the wing's step counter takes a new value. -/
def State.advanceStep (s : State) (w : Fin 2) (step : Nat) : State :=
  let s := s.setFld Reg.TB_STEP.STEP w step
  let x := s.wing w
  let s := s.setWing w { x with
    endedTiles := [], batch := x.nextBatch, nextBatch := [], parts := [], nextPages := [], bnd := {}
    tableVer := (List.range 8).foldl (fun m n =>
      if s.fld Reg.SV_TABLE_PUB1.STATE w n = 1 ∧ s.fld Reg.SV_TABLE_PUB0.SWAP_STEP w n ≤ step then
        sset (fun _ => 0) m n (sget (fun _ => 0) x.tablePend n)
      else m) x.tableVer
    time := { x.time with go := none, reported := none } }
  (s.flipSpans w step).swapPublications w step

/-- R393: STEP_GO for the children. -/
def State.forwardGo (s : State) (w : Fin 2) (step t : Nat) : State :=
  (s.childPorts w).foldl (fun s p => s.sendControl w p (.stepGo (BitVec.ofNat 64 step) (BitVec.ofNat 64 t))) s

/-- R393: the wing and all its children are done with the present step. -/
def State.stepComplete (s : State) (w : Fin 2) : Bool :=
  let x := s.wing w
  s.loaded w && x.time.reported == some (s.stepOf w) && s.allEnded w &&
    (s.childPorts w).all (fun p => sget (fun _ => 0) x.time.doneFrom p == s.stepOf w)

/-- R393: a wing that is done reports to its parent; the root sets the moment of the next step. -/
def State.tryStepDone (s : State) (w : Fin 2) : State :=
  if !s.stepComplete w then s
  else
    let x := s.wing w
    let step := s.stepOf w
    let s' := s.setWing w { x with time := { x.time with reported := none } }
    if s.fld Reg.TB_TREE.PARENT w = 15 then
      let t := (s.timeOf w + 16 * max 100 (s.fld Reg.TB_STEP_LEAD.LEAD_NS w)) % 2 ^ 64
      (s'.setWing w { x with time := { x.time with reported := none, go := some (step + 1, t) } }).forwardGo w (step + 1) t
    else match s.parentPort w with
      | some p => s'.sendControl w p (.stepDone (BitVec.ofNat 64 step))
      | none => s

/-- R393: the hawk cores report a step; any value but TB_STEP is ignored. -/
def State.stepDoneWrite (s : State) (w : Fin 2) (v : Nat) : State :=
  if v = s.stepOf w then
    let x := s.wing w
    (s.setWing w { x with time := { x.time with reported := some v } }).tryStepDone w
  else s

/-- R393: STEP_DONE of a child. -/
def State.childDone (s : State) (w : Fin 2) (port step : Nat) : State :=
  if (s.childPorts w).contains port then
    let x := s.wing w
    (s.setWing w { x with time := { x.time with doneFrom := sset (fun _ => 0) x.time.doneFrom port step } }).tryStepDone w
  else s

/-- R393, R394: STEP_GO of the parent. -/
def State.goArrive (s : State) (w : Fin 2) (port step t : Nat) : State :=
  if s.loaded w && s.parentPort w == some port then
    let s := s.forwardGo w step t
    if t < s.timeOf w then (s.addFld Reg.TB_STATUS.LATE_GO w 1).advanceStep w step
    else
      let x := s.wing w
      s.setWing w { x with time := { x.time with go := some (step, t) } }
  else s

/-- R393: the step counter advances when the timebase reaches T. -/
def State.reachGo (s : State) (w : Fin 2) : State :=
  match (s.wing w).time.go with
  | some (step, t) => if s.loaded w && decide (t ≤ s.timeOf w) then s.advanceStep w step else s
  | none => s

/-! ### A job on the fabric (R362, R383, R384) -/

/-- R342, R344, R365, R380, R383: the fabric router of a wing as a job is loaded: its streams begin anew. -/
def State.fabricStart (s : State) (w : Fin 2) : State :=
  let x := s.wing w
  (s.setWing w { x with
    ports := smap (fun _ => {}) (fun _ q => { q with controlOnly := false }) x.ports
    strict := [], flagTx := [], flagRx := [], fabricWait := [], heldIn := [], verdicts := []
    lfsr := Config.valiantSeed (BitVec.ofNat 16 (s.chip w))
    time := { x.time with doneFrom := [], reported := none, go := none } }).refreshOrder w

/-- R362, R374, R384: a write of `FB_JOB`. -/
def State.fbJobWrite (s : State) (w : Fin 2) (v : Word) : State :=
  let was := s.loaded w
  let flip := decide (getBits v 0 8 ≠ s.fld Reg.FB_JOB.EPOCH w) && s.bit Reg.FB_ROUTE_CTL.ARMED w
  let s := s.setFld Reg.FB_JOB.EPOCH w (getBits v 0 8)
  let s := if flip then
      (s.setFld Reg.FB_ROUTE_CTL.ACTIVE w (1 - s.fld Reg.FB_ROUTE_CTL.ACTIVE w)).setFld Reg.FB_ROUTE_CTL.ARMED w 0
    else s
  let load := getBits v 8 1 == 1 && s.chip w != 0xFFFF
  let s := s.setFld Reg.FB_JOB.LOADED w (if load then 1 else 0)
  if load && !was then s.fabricStart w else s

/-- R384, R400: a write of `FB_ROUTE_CTL`. -/
def State.routeCtl (s : State) (w : Fin 2) (v : Word) : State :=
  if s.loaded w then s
  else
    let s := s.setFld Reg.FB_ROUTE_CTL.VAL_COUNT w (getBits v 3 9)
    if getBits v 1 1 = 1 then s.setFld Reg.FB_ROUTE_CTL.ARMED w 1 else s

/-! ### Occupancy (R385, R401, R404) -/

/-- R385: the bin of a number of flits. -/
def occBin (n : Nat) : Nat :=
  if n = 0 then 0 else if n ≤ 8 then 1 else if n ≤ 16 then 2 else if n ≤ 32 then 3 else if n ≤ 64 then 4
  else if n ≤ 128 then 5 else if n ≤ 256 then 6 else 7

/-- R385, R386: one sample of an output. -/
def State.sample (s : State) (w : Fin 2) (out : Nat) : State :=
  let x := s.wing w
  let b := occBin (x.waitingFlits out)
  let s := s.setWing w { x with sweepBins := sset (fun _ => 0) x.sweepBins (8 * out + b) (x.sweepBin out b + 1) }
  s.addFld (if b % 2 = 0 then Reg.FB_OCC_HIST.BIN_EVEN else Reg.FB_OCC_HIST.BIN_ODD) w 1 (4 * out + b / 2)

/-- R401: a write of `FB_OCC_CTL`. -/
def State.occCtl (s : State) (w : Fin 2) (v : Word) : State :=
  let s := s.setFld Reg.FB_OCC_CTL.SAMPLE_NS w (getBits v 0 10)
  if getBits v 10 1 = 1 then
    (List.range 36).foldl (fun s i => s.setReg (Reg.FB_OCC_HIST.BIN_EVEN.at w i) 0) s
  else s

/-! ### The spread of a stop (R597, R599, R600) -/

/-- R597: a status that stops a running job when a unit of the wing meets it. -/
def stopsJob (st : Nat) : Bool := st == 1 || st == 4 || st == 5 || st == 6 || st == 7 || st == 0xA

/-- R600: a STOP record arrives on a port. -/
def State.stopArrive (s : State) (w : Fin 2) (p epoch status chip : Nat) : State :=
  if s.loaded w && s.fld Reg.FB_JOB.EPOCH w == epoch && (s.route w (s.fld Reg.FB_NBR1.CHIP w p)).2.1 then
    s.stopWing w status 9 0 chip
  else s

/-- R599 step 5, R617: the hawk cores stop this wing after the other one. -/
def State.stopAfterOther (s : State) (w : Fin 2) : State :=
  let o := otherWing w
  if s.bit Reg.CF_STOP_RECORD0.VALID o then
    s.stopWing w (s.fld Reg.CF_STOP_RECORD0.STATUS o) 8 0 (s.chip o)
  else s

/-! ### Commands -/

/-- SWEEP (R333, R374, R386): it originates at the router (port 9), or arrives on another port. -/
def execSweep (w : Fin 2) (port : Fin 10) (p : FPacket) (s : State) : Res :=
  .next (s.packetArrive w port.val { p with kind := 0xE })

/-- OCC_SAMPLE (R385). -/
def execOccSample (w : Fin 2) (out : Fin 9) (s : State) : Res := .next (s.sample w out.val)

/-- OCC_CLEAR (R401): a write of `FB_OCC_CTL`. -/
def execOccClear (w : Fin 2) (value : BitVec 64) (s : State) : Res := .next (s.whenUp (s.occCtl w value))

/-- ROUTE_ARM (R384, R400): a write of `FB_ROUTE_CTL`. -/
def execRouteArm (w : Fin 2) (value : BitVec 64) (s : State) : Res := .next (s.whenUp (s.routeCtl w value))

/-- TIMESYNC_TIMER (R389). -/
def execTimesyncTimer (w : Fin 2) (s : State) : Res := .next (s.whenUp (s.timesync w))

/-- DELAY_REQ (R389): a record between a NAK and the resent frame is not used. -/
def execDelayReq (w : Fin 2) (port : Fin 9) (t1 : BitVec 64) (s : State) : Res :=
  .next (if s.nakWindow w port.val then s else (s.takeCrossing w port.val (.delayReq t1)).delayReq w port.val t1.toNat)

/-- SYNC (R389, R390): a record between a NAK and the resent frame is not used. -/
def execSync (w : Fin 2) (port : Fin 9) (t3 t2 t1 : BitVec 64) (s : State) : Res :=
  .next (if s.nakWindow w port.val then s
    else (s.takeCrossing w port.val (.sync t3 t2 t1)).syncArrive w port.val t3 t2 t1)

/-- TB_TIME_WRITE (R23, R406): only on the root, and only while no job is loaded. -/
def execTbTimeWrite (w : Fin 2) (value : BitVec 64) (s : State) : Res :=
  .next (if s.up ∧ s.fld Reg.TB_TREE.PARENT w = 15 ∧ !s.loaded w then s.setReg (Reg.TB_TIME.TIME.at w 0) value else s)

/-- TB_STEP_DONE_WRITE (R393). -/
def execTbStepDoneWrite (w : Fin 2) (value : BitVec 64) (s : State) : Res := .next (s.whenUp (s.stepDoneWrite w value.toNat))

/-- STEP_DONE (R393). -/
def execStepDone (w : Fin 2) (port : Fin 9) (step : BitVec 64) (s : State) : Res :=
  .next ((s.takeCrossing w port.val (.stepDone step)).childDone w port.val step.toNat)

/-- STEP_GO (R393, R394). -/
def execStepGo (w : Fin 2) (port : Fin 9) (step t : BitVec 64) (s : State) : Res :=
  .next ((s.takeCrossing w port.val (.stepGo step t)).goArrive w port.val step.toNat t.toNat)

/-- STEP_ADVANCE (R393). -/
def execStepAdvance (w : Fin 2) (s : State) : Res := .next (s.reachGo w)

/-- STOP (R600). -/
def execStop (w : Fin 2) (p : Fin 8) (epoch status : BitVec 8) (chip : BitVec 16) (s : State) : Res :=
  .next (s.stopArrive w p.val epoch.toNat status.toNat chip.toNat)

/-- JOB_STOP (R599): a unit of the wing, of a source from 0 to 6, meets a status that stops a job. -/
def execJobStop (w : Fin 2) (status : BitVec 8) (source : BitVec 4) (locus : BitVec 16) (s : State) : Res :=
  .next (if stopsJob status.toNat && decide (source.toNat < 7) then s.stopHere w status.toNat source.toNat locus.toNat else s)

/-- OTHER_WING_STOP (R599 step 5). -/
def execOtherWingStop (w : Fin 2) (s : State) : Res := .next (s.stopAfterOther w)

end Sys2Proof.Machine
end

