-- ==== Sys2Proof/Machine/Link.lean ====
section
/-!
DEFINITION. The link layer of a port (R323 to R329), its training and discovery (R374 to R380).
-/
namespace Sys2Proof.Machine

/-! ### A port goes down or comes up -/

/-- R329, R381: some live entry of the routing table in force names the port. -/
def State.inRoutes (s : State) (w : Fin 2) (p : Nat) : Bool :=
  (List.range 4352).any (fun i =>
    let v := if s.bit Reg.FB_ROUTE_CTL.ACTIVE w then s.reg (Reg.FB_ROUTE_BANK1.PORTS.at w i)
             else s.reg (Reg.FB_ROUTE_BANK0.PORTS.at w i)
    v.getLsbD 9 && v.getLsbD p)

/-- R329, R392: a port leaves the up state; the link to the wing's parent belongs to the job. -/
def State.portDown (s : State) (w : Fin 2) (p : Nat) : State :=
  let x := s.wing w
  let s := s.setWing w (x.setPort p { x.port p with
    replay := [], control := [], partialPkt := [], discard := [], nakOpen := false })
  let s := s.setFld Reg.FB_PORT_STATUS.STATE w 0 p
  let s := s.setFld Reg.FB_PORT_STATUS.DOWN_EVENT w 1 p
  let parent := s.fld Reg.TB_TREE.PARENT w == p
  let s := if parent then s.setFld Reg.TB_STATUS.HOLDOVER w 1 else s
  let s := s.event 8 stLinkLost (leBytes 2 (s.chip w) ++ leBytes 1 p)
  if s.loaded w && (parent || s.inRoutes w p) then s.stopHere w stLinkLost 4 p else s

/-- R376: the HELLO that a port sends. -/
def State.ownHello (s : State) (w : Fin 2) (p : Nat) : Hello :=
  { serial := Config.serial, wing := w == 1, port := BitVec.ofNat 3 p
    role := BitVec.ofNat 2 (s.fld Reg.FB_PORT_CFG.ROLE w p), grade := BitVec.ofNat 8 (s.fld Reg.CF_WING_ID.GRADE w)
    stepping := BitVec.ofNat 8 (s.fld Reg.CF_WING_ID.STEPPING w), version := 1
    chip := BitVec.ofNat 16 (s.chip w), plan := s.reg (Reg.FB_PLAN_ID.PLAN.at w 0) }

/-- R378, R396: the state of a port from its training and its verdict. DESIGN CHOICE (log entry 62): a port that is not trained is
in training (1) whether or not a neighbour is there; the verdict absent shows at once, every other one when training
completes. -/
def verdictState (trained : Bool) (old verdict : Nat) : Nat :=
  if verdict = 2 then 3
  else if trained then (if verdict = 3 then 4 else 2)
  else if old = 3 ∨ old = 4 then 1 else old

/-- R378, R399: the states of the ports follow the verdicts. -/
def State.applyVerdicts (s : State) (w : Fin 2) : State :=
  (List.range 8).foldl (fun s p =>
    if s.roleOf w p = 3 then s
    else s.setFld Reg.FB_PORT_STATUS.STATE w
      (verdictState (s.trained w p) (s.fld Reg.FB_PORT_STATUS.STATE w p) (s.verdictOf w p)) p) s

/-- R320, R321, R359: a port in the off role stands in state 5, its lanes without lock; another port that is off or down begins to
train. -/
def State.applyRole (s : State) (w : Fin 2) (p : Nat) : State :=
  let st := s.fld Reg.FB_PORT_STATUS.STATE w p
  if s.roleOf w p = 3 then (s.setFld Reg.FB_PORT_STATUS.STATE w 5 p).setFld Reg.FB_PORT_STATUS.LANES_OK w 0 p
  else if st = 5 ∨ st = 0 then s.setFld Reg.FB_PORT_STATUS.STATE w 1 p else s

def State.applyRoles (s : State) (w : Fin 2) : State := (List.range 8).foldl (fun s p => s.applyRole w p) s

/-- R402: PLAN_MATCH follows the latest HELLO and `FB_PLAN_ID`. -/
def State.matchPlan (s : State) (w : Fin 2) (p : Nat) : State :=
  s.setFld Reg.FB_NBR1.PLAN_MATCH w
    (if s.bit Reg.FB_NBR1.VALID w p && ((s.wing w).port p).nbrPlan == s.reg (Reg.FB_PLAN_ID.PLAN.at w 0) then 1 else 0) p

def State.matchPlans (s : State) (w : Fin 2) : State := (List.range 8).foldl (fun s p => s.matchPlan w p) s

/-- R322, R377, R378, R380, R402: training completes; a port without power, in reset or in the off role drives no lane. -/
def State.portTrained (s : State) (w : Fin 2) (p rtt : Nat) : State :=
  if s.roleOf w p = 3 ∨ !s.up then s
  else
    let s := s.setReg (Reg.FB_NBR0.SERIAL.at w p) 0
    let s := s.setReg (Reg.FB_NBR1.CHIP.at w p) 0
    let s := s.setFld Reg.FB_PORT_STATUS.LANES_OK w 15 p
    let s := s.setFld Reg.FB_PORT_STATUS.RTT_NS w rtt p
    let s := s.setFld Reg.FB_PORT_STATUS.STATE w (verdictState true 1 (s.verdictOf w p)) p
    let x := s.wing w
    let q : Port := { out := (x.port p).out, turn := (x.port p).turn, credits := [(0, 64), (1, 64), (2, 64), (3, 64)], controlOnly := s.loaded w }
    (s.setWing w (x.setPort p q)).sendControl w p (.hello (s.ownHello w p))

/-! ### Records and flits that arrive -/

/-- R377, R402: a HELLO arrives. -/
def State.helloArrive (s : State) (w : Fin 2) (p : Nat) (h : Hello) : State :=
  if !s.trained w p then s
  else
    let x := s.wing w
    let key := (h.serial, h.wing, h.port)
    let first := ((x.port p).firstHello).getD key
    let s := s.setWing w (x.setPort p { x.port p with firstHello := some first, nbrPlan := h.plan })
    let s := s.setReg (Reg.FB_NBR0.SERIAL.at w p) h.serial
    let s := s.setFld Reg.FB_NBR1.CHIP w h.chip.toNat p
    let s := s.setFld Reg.FB_NBR1.WING w (if h.wing then 1 else 0) p
    let s := s.setFld Reg.FB_NBR1.PORT w h.port.toNat p
    let s := s.setFld Reg.FB_NBR1.GRADE w h.grade.toNat p
    let s := s.setFld Reg.FB_NBR1.STEPPING w h.stepping.toNat p
    let s := s.setFld Reg.FB_NBR1.ROLE w h.role.toNat p
    let s := s.setFld Reg.FB_NBR1.VALID w 1 p
    let s := s.matchPlan w p
    if first = key then s else (s.setFld Reg.FB_NBR1.CHANGED w 1 p).portDown w p

/-- R326: an ACK frees the frames up to and including its sequence. -/
def Port.ackTo (q : Port) (seq : BitVec 8) : Port :=
  if q.replay.any (fun f => f.frame.seq == seq) then
    { q with replay := (q.replay.dropWhile (fun f => f.frame.seq != seq)).drop 1 }
  else q

def State.ackArrive (s : State) (w : Fin 2) (p : Nat) (seq : BitVec 8) : State :=
  if s.trained w p then
    let x := s.wing w
    (s.setWing w (x.setPort p ((x.port p).ackTo seq))).pumpPort w p
  else s

/-- R329: the times, in units of 1/16 ns, that lie within one millisecond before `now`. -/
def withinMs (now : Nat) (l : List Nat) : List Nat := l.filter (fun t => decide ((now + 2 ^ 64 - t) % 2 ^ 64 < 16000000))

/-- R329: one more POISON record, sent or received; the sixteenth within one millisecond takes the port down. -/
def State.countPoison (s : State) (w : Fin 2) (p : Nat) : State :=
  let x := s.wing w
  let q := x.port p
  let l := withinMs (s.timeOf w) q.poisons ++ [s.timeOf w]
  let s := (s.setWing w (x.setPort p { q with poisons := l })).addFld Reg.FB_PORT_ERR.POISONED w 1 p
  if 16 ≤ l.length then s.portDown w p else s

/-- R326: the POISON record that stands in for a frame. -/
def poisonFor (f : Frame) : Frame := { f with head := none, ctrl := some (controlBytes (.poison f.seq) f.seq) }

/-- R326: a NAK: the sender resends from the frame onward, or puts a POISON record in its place after three resends. -/
def State.nakArrive (s : State) (w : Fin 2) (p : Nat) (seq : BitVec 8) : State :=
  if !s.trained w p then s
  else
    let x := s.wing w
    let q := x.port p
    match q.replay.find? (fun f => f.frame.seq == seq) with
    | none => s
    | some f =>
      let from' := q.replay.dropWhile (fun g => g.frame.seq != seq)
      let g := if f.resent = 3 then ⟨poisonFor f.frame, 0⟩ else { f with resent := f.resent + 1 }
      let s := s.setWing w (x.setPort p { q with replay := q.replay.map (fun h => if h.frame.seq == seq then g else h) })
      if f.resent = 3 then (s.addFld Reg.FB_PORT_ERR.RETRIES w (from'.length - 1) p).countPoison w p
      else s.addFld Reg.FB_PORT_ERR.RETRIES w from'.length p

def Port.partialOf (q : Port) (vc : Nat) : Option (FPacket × Bool) := sget (fun _ => none) q.partialPkt vc

def Port.setPartial (q : Port) (vc : Nat) (x : Option (FPacket × Bool)) : Port :=
  { q with partialPkt := sset (fun _ => none) q.partialPkt vc x }

/-- R327, R335: a flit is lost to a POISON record of its virtual channel. The flits of a packet leave the input buffer with it;
a discarded one leaves at once. -/
def State.flitLost (s : State) (w : Fin 2) (p vc : Nat) (tail : Bool) : State :=
  let x := s.wing w
  let q := x.port p
  let s :=
    if q.discard.contains vc then
      s.setWing w (x.setPort p ((if tail then { q with discard := ndel vc q.discard } else q).creditBack vc 1))
    else match q.partialOf vc with
      | none => (s.setWing w (x.setPort p ((if tail then q else { q with discard := nins vc q.discard }).creditBack vc 1))).discard w
      | some pk =>
        if tail then (s.setWing w (x.setPort p (q.setPartial vc none))).packetArrive w p { pk.1 with poison := true }
        else s.setWing w (x.setPort p (q.setPartial vc (some (pk.1, true))))
  s.countPoison w p

/-- R326, R327, R335: a packet flit arrives. -/
def State.flitArrive (s : State) (w : Fin 2) (p : Nat) (f : Frame) : State :=
  let vc := f.vc.toNat
  let x := s.wing w
  let q := x.port p
  if q.discard.contains vc then
    s.setWing w (x.setPort p ((if f.tail then { q with discard := ndel vc q.discard } else q).creditBack vc 1))
  else
    match (match f.head with | some h => some (h, h.poison) | none => q.partialOf vc) with
    | none => s.setWing w (x.setPort p (q.creditBack vc 1))
    | some pk =>
      let bad := pk.2 || f.poison
      if f.tail then (s.setWing w (x.setPort p (q.setPartial vc none))).packetArrive w p { pk.1 with poison := bad }
      else s.setWing w (x.setPort p (q.setPartial vc (some (pk.1, bad))))

/-- R325, R375: a control record arrives. -/
def State.controlArrive (s : State) (w : Fin 2) (p : Nat) (f : Frame) : Control → State
  | .idle => s
  | .ack seq => s.ackArrive w p seq
  | .nak seq => s.nakArrive w p seq
  | .poison _ => s.flitLost w p f.vc.toNat f.tail
  | .hello h => s.helloArrive w p h
  | .sync t3 t2 t1 => s.syncArrive w p t3 t2 t1
  | .delayReq t1 => s.delayReq w p t1.toNat
  | .stepDone step => s.childDone w p step.toNat
  | .stepGo step t => s.goArrive w p step.toNat t.toNat
  | .stop epoch status chip => s.stopArrive w p epoch.toNat status.toNat chip.toNat
  | .reserved => s

/-- Frames that an ACK answers (log entry 26). -/
def wantsAck (f : Frame) : Bool :=
  match f.ctrl.map controlOf with
  | some .idle | some (.ack _) | some (.nak _) => false
  | _ => true

/-- R324, R326: a frame arrives at a trained port. -/
def State.frameArrive (s : State) (w : Fin 2) (p : Nat) (f : Frame) (chk : FrameCheck) : State :=
  if !s.trained w p then s
  else
    let s := if chk.corrected = 0 then s else s.addFld Reg.FB_PORT_ERR.CORRECTED w 1 p
    let x := s.wing w
    let q := x.port p
    if !chk.crcOk then
      if q.nakOpen && f.seq != q.rxSeq then s
      else (s.setWing w (x.setPort p { q with nakOpen := true })).sendControl w p (.nak q.rxSeq)
    else if f.seq ≠ q.rxSeq then s
    else
      let v := f.crVc.toNat
      let q := { q with
        rxSeq := q.rxSeq + 1, nakOpen := false
        credits := sset (fun _ => 0) q.credits v (q.credit v + 2 * f.crCount.toNat) }
      let s := s.setWing w (x.setPort p q)
      let s := match f.ctrl with
        | some b => s.controlArrive w p f (controlOf b)
        | none => s.flitArrive w p f
      (if wantsAck f then s.sendControl w p (.ack f.seq) else s).pumpPort w p

/-! ### Commands -/

/-- FRAME_RECEIVE (R324, R326). -/
def execFrameReceive (w : Fin 2) (p : Fin 8) (f : Frame) (chk : FrameCheck) (s : State) : Res :=
  .next (s.frameArrive w p.val f chk)

/-- ACK (R325, R326). -/
def execAck (w : Fin 2) (p : Fin 8) (seq : BitVec 8) (s : State) : Res := .next (s.ackArrive w p.val seq)

/-- NAK (R325, R326). -/
def execNak (w : Fin 2) (p : Fin 8) (seq : BitVec 8) (s : State) : Res := .next (s.nakArrive w p.val seq)

/-- POISON (R325 to R327): the record stands in for the next frame that the port expects. -/
def execPoison (w : Fin 2) (p : Fin 8) (seq : BitVec 8) (vc : BitVec 2) (tail : Bool) (s : State) : Res :=
  let x := s.wing w
  let q := x.port p.val
  if s.trained w p.val ∧ seq = q.rxSeq then
    .next ((s.setWing w (x.setPort p.val { q with rxSeq := q.rxSeq + 1, nakOpen := false })).flitLost w p.val vc.toNat tail)
  else .next s

/-- LANE_LOCK_LOSS (R329). -/
def execLaneLockLoss (w : Fin 2) (p : Fin 8) (lane : Fin 4) (s : State) : Res :=
  let was := s.fld Reg.FB_PORT_STATUS.LANES_OK w p.val
  let s := s.setFld Reg.FB_PORT_STATUS.LANES_OK w (was - (was &&& 2 ^ lane.val)) p.val
  .next (if s.fld Reg.FB_PORT_STATUS.STATE w p.val = 2 then s.portDown w p.val else s)

/-- PORT_TRAINED (R377, R378). -/
def execPortTrained (w : Fin 2) (p : Fin 8) (rtt : BitVec 12) (s : State) : Res := .next (s.portTrained w p.val rtt.toNat)

/-- HELLO (R377). -/
def execHello (w : Fin 2) (p : Fin 8) (h : Hello) (s : State) : Res := .next (s.helloArrive w p.val h)

/-- HELLO_TIMER (R359, R377): a trained port sends a HELLO. DESIGN CHOICE (log entry 62): a port that is down begins to train with
the timer. -/
def execHelloTimer (w : Fin 2) (p : Fin 8) (s : State) : Res :=
  .next (s.whenUp (if s.trained w p.val then s.sendControl w p.val (.hello (s.ownHello w p.val)) else s.applyRole w p.val))

end Sys2Proof.Machine
end

