-- ==== Sys2Proof/Machine/Slots.lean ====
section
/-!
DEFINITION. The request table (R413, R414, R444), page groups (R416), token-list entries (R421, R422) and the filling rule
(R423) of the serving engine.
-/
namespace Sys2Proof.Machine

/-! ### Slot states (R414) -/

def slFree : Nat := 0
def slQueued : Nat := 1
def slPrefill : Nat := 2
def slDecode : Nat := 3
def slShipping : Nat := 4
def slAwaitPages : Nat := 5
def slFinished : Nat := 6
def slCancelled : Nat := 7

/-! ### The table -/

def Wing.slot (x : Wing) (n : Nat) : Slot := sget (fun _ => {}) x.slots n

/-- R413: the 256 bytes of a slot record. -/
def Slot.bytes (x : Slot) : List Byte :=
  padTo 256 (leBytes 8 x.reqId.toNat ++ leBytes 1 x.state ++ leBytes 1 x.kind ++ leBytes 1 (if x.cancel then 1 else 0) ++
    leBytes 1 x.dReq ++ leBytes 1 x.dCur ++ leBytes 1 x.rejRun ++ leBytes 2 0 ++ leBytes 8 x.seed.toNat ++
    leBytes 4 x.promptLen ++ leBytes 4 x.promptDone ++ leBytes 4 x.len ++ leBytes 4 x.maxNew ++ leBytes 4 x.new ++
    leBytes 4 x.stopToken.toNat ++ leBytes 8 x.seq ++ leBytes 8 x.lastStep ++ leBytes 8 x.promptAddr ++
    leBytes 8 x.pageList ++ leBytes 4 x.groups.length ++ leBytes 4 x.lastToken.toNat ++ leBytes 2 x.homeChip ++
    leBytes 1 (if x.promptHold then 1 else 0))

/-- R293: a write of the hawk cores, granule by granule; a stack that has failed takes none. -/
def State.enginePut (s : State) (w : Fin 2) (off : Nat) (bs : List Byte) : State :=
  (piecesOf 2048 off bs.length).foldl (fun s p =>
    if s.stackFailed w (hbmStack p.1) then s else s.hbmStore w p.1 ((bs.drop (p.1 - off)).take p.2)) s

/-- Bytes written into the lowest-numbered region of a kind, where it holds them. -/
def State.writeRegion (s : State) (w : Fin 2) (kind off : Nat) (bs : List Byte) : State :=
  match s.regionOfKind w kind with
  | some r => if off + bs.length ≤ r.size then s.enginePut w (r.base + off) bs else s
  | none => s

/-- Bytes of the lowest-numbered region of a kind. -/
def State.readRegion (s : State) (w : Fin 2) (kind off n : Nat) : List Byte :=
  match s.regionOfKind w kind with
  | some r => s.readRun w (r.base + off) n
  | none => List.replicate n 0

/-- Bytes of a region of a kind set to 0, where it holds them, which clears the poison of whole granules. -/
def State.zeroRegion (s : State) (w : Fin 2) (kind off n : Nat) : State :=
  match s.regionOfKind w kind with
  | some r =>
    if off + n ≤ r.size then
      let a := wingAddr w (r.base + off)
      (s.setMem (s.mem.filter (fun c => decide (c.1 < a) || decide (a + n ≤ c.1)))).clearPoison w (r.base + off) n
    else s
  | none => s

/-- R293, R305: the first granule of a run that the hawk cores cannot read: the status and its stack. -/
def State.unreadable (s : State) (w : Fin 2) (off n : Nat) : Option (Nat × Nat) :=
  (granulesOf off n).findSome? (fun g =>
    if s.stackFailed w (g % 10) then some (stLinkLost, g % 10)
    else if (s.wing w).poison.contains g then some (stEcc, g % 10) else none)

/-- The same of a run in the lowest-numbered region of a kind. -/
def State.engineBad (s : State) (w : Fin 2) (kind off n : Nat) : Option (Nat × Nat) :=
  (s.regionOfKind w kind).bind (fun r => s.unreadable w (r.base + off) n)

/-- R601: what the hawk cores cannot read stops the job, with the stack as the source; else the work goes on. -/
def State.orStop (s : State) (w : Fin 2) (bad : Option (Nat × Nat)) (t : State) : State :=
  match bad with
  | some e => s.stopHere w e.1 3 e.2
  | none => t

/-- R410: whether the slot is in the module's range. -/
def State.ownsSlot (s : State) (n : Nat) : Bool :=
  s.bit Reg.SV_JOB_CFG.INTAKE 0 && decide (s.fld Reg.SV_JOB_CFG.SLOT_LO 0 ≤ n) && decide (n ≤ s.fld Reg.SV_JOB_CFG.SLOT_HI 0)

/-- The module's slots that are not FREE, in ascending order. -/
def State.ownSlots (s : State) (w : Fin 2) : List (Nat × Slot) :=
  (s.wing w).slots.filter (fun e => s.ownsSlot e.1 && e.2.state != slFree)

/-- R444: `SV_SLOTS` follows the table. -/
def State.refreshSlots (s : State) (w : Fin 2) : State :=
  let own := s.ownSlots w
  let count (l : List Nat) := own.countP (fun e => l.contains e.2.state)
  let total := if s.bit Reg.SV_JOB_CFG.INTAKE 0 then
    s.fld Reg.SV_JOB_CFG.SLOT_HI 0 + 1 - s.fld Reg.SV_JOB_CFG.SLOT_LO 0 else 0
  let s := s.setFld Reg.SV_SLOTS.FREE w (total - own.length)
  let s := s.setFld Reg.SV_SLOTS.WAITING w (count [slQueued, slAwaitPages])
  let s := s.setFld Reg.SV_SLOTS.ACTIVE w (count [slPrefill, slDecode, slShipping])
  s.setFld Reg.SV_SLOTS.RECLAIM w (count [slFinished, slCancelled])

/-- R413: a slot record changes in a wing's table. -/
def State.setSlot (s : State) (w : Fin 2) (n : Nat) (x : Slot) : State :=
  let y := s.wing w
  ((s.setWing w { y with slots := sset (fun _ => {}) y.slots n x }).writeRegion w 2 (4096 + 256 * n) x.bytes).refreshSlots w

/-- R411: wing 0 decides about a slot, and wing 1 applies the decision to its copy of the table as the step boundary states: where
wing 1 has still to commit the step that wing 0 has committed, after that commit; where wing 1 has committed first, after wing 0's. -/
def State.setSlotBoth (s : State) (n : Nat) (x : Slot) : State :=
  let c0 := s.fld Reg.SV_COMMITTED.STEP 0
  let c1 := s.fld Reg.SV_COMMITTED.STEP 1
  let s := s.setSlot 0 n x
  if c0 = c1 then s.setSlot 1 n x
  else if c1 < c0 then
    let y := s.wing 1
    s.setWing 1 { y with decided := y.decided ++ [(n, x)] }
  else
    let y := s.wing 0
    s.setWing 0 { y with late := nins n y.late }

/-- The slot of the module that holds a request (R415, R417). -/
def State.slotOfReq (s : State) (reqId : BitVec 64) : Option (Nat × Slot) :=
  (s.ownSlots 0).find? (fun e => e.2.reqId == reqId)

/-- R415: the lowest-numbered FREE slot of the module's range. -/
def State.freeSlot (s : State) : Option Nat :=
  let lo := s.fld Reg.SV_JOB_CFG.SLOT_LO 0
  ((List.range ((s.wing 0).slots.length + 1)).map (lo + ·)).find? (fun n =>
    s.ownsSlot n && ((s.wing 0).slot n).state == slFree)

/-- R296, R297: N_P and d of a wing. -/
def shapeOf (i : Imago) (w : Fin 2) : Nat × Nat := ((i.pageShape.find? (fun e => e.1 == w)).map (·.2)).getD (0, 0)

/-- R297: the size of a page. -/
def pageSize (i : Imago) (w : Fin 2) : Nat := 192 * (shapeOf i w).2

/-- R297: S_G. -/
def groupSize (i : Imago) (w : Fin 2) : Nat := (shapeOf i w).1 * pageSize i w

/-- R297: the size of a page group on a wing of the loaded job. -/
def State.groupBytes (s : State) (w : Fin 2) : Nat := (s.job.img.map (fun i => groupSize i w)).getD 0

/-- R415, R416: page groups for a number of positions. -/
def groupsFor (positions : Nat) : Nat := (positions + 63) / 64

/-- R416: the lowest-numbered free page groups of the module's range. -/
def State.takeGroups (s : State) (n : Nat) : Option (List Nat) :=
  let used := (s.ownSlots 0).flatMap (fun e => e.2.groups)
  let first := s.fld Reg.SV_PAGE_RANGE.FIRST 0
  let count := s.fld Reg.SV_PAGE_RANGE.COUNT 0
  let l := (((List.range (min count (n + used.length))).map (first + ·)).filter (fun g => !used.contains g)).take n
  if l.length = n then some l else none

/-- R413: where the page-group list of a slot stands in the region of kind 7 (log entry 30). -/
def State.pageListAt (s : State) (n : Nat) : Nat := n * (4 * groupsFor (s.fld Reg.SV_LIMITS.LMAX 0))

/-- R416: the page-group list of a slot is written on both wings. -/
def State.writePageList (s : State) (n : Nat) (groups : List Nat) : State :=
  let bs := groups.flatMap (leBytes 4)
  (s.writeRegion 0 7 (s.pageListAt n) bs).writeRegion 1 7 (s.pageListAt n) bs

/-! ### Entries (R421, R422) -/

/-- R422: the 32 bytes of an entry. -/
def entryBytes (e : Entry) : List Byte :=
  leBytes 32 (e.tokenId.toNat + 2 ^ 32 * e.slot.toNat + 2 ^ 46 * e.role.toNat + 2 ^ 48 * e.draftI.toNat +
    (if e.last then 2 ^ 51 else 0) + (if e.score then 2 ^ 52 else 0) + 2 ^ 64 * e.pos.toNat + 2 ^ 128 * e.seed.toNat)

/-- R421: entries per intake module, and of the whole list. -/
def State.unitTokens (s : State) (w : Fin 2) : Nat := s.fld Reg.SV_STEP_CFG.TOKENS w
def State.listTokens (s : State) (w : Fin 2) : Nat := s.fld Reg.SV_JOB_CFG.QCOUNT w * s.unitTokens w

/-- A token list's entry; an unlisted one is empty (ROLE 3). -/
def entryAt (l : Sparse Entry) (t : Nat) : Entry := sget (fun _ => ({} : Entry)) l t

/-- R421: the bytes of a whole token list. -/
def listBytes (l : Sparse Entry) (n : Nat) : List Byte := (List.range n).flatMap (fun t => entryBytes (entryAt l t))

/-- The entries of a slot in a token list, with their token indices. -/
def slotEntries (l : Sparse Entry) (n : Nat) : List (Nat × Entry) := l.filter (fun e => e.2.role != 3 && e.2.slot.toNat == n)

/-- R421: the prompt area begins at the first 2 MiB boundary after the token list. -/
def State.promptArea (s : State) : Nat := (32 * s.listTokens 0 + 2097151) / 2097152 * 2097152

/-- A prompt token, read from the region of kind 3 of wing 0. -/
def State.promptToken (s : State) (x : Slot) (i : Nat) : BitVec 32 :=
  BitVec.ofNat 32 (leNat (s.readRegion 0 3 (x.promptAddr + 4 * i) 4))

/-! ### The filling rule (R423) -/

/-- Put an element into a list sorted by a strict order. -/
def insertBy {α : Type} (lt : α → α → Bool) (a : α) : List α → List α
  | [] => [a]
  | b :: r => if lt a b then a :: b :: r else b :: insertBy lt a r

def sortBy {α : Type} (lt : α → α → Bool) (l : List α) : List α := l.foldr (insertBy lt) []

/-- R423: decode slots go by LAST_STEP, then SEQ. -/
def decodeBefore (a b : Nat × Slot) : Bool :=
  decide (a.2.lastStep < b.2.lastStep) || (a.2.lastStep == b.2.lastStep && decide (a.2.seq ≤ b.2.seq))

/-- R423: prompt slots go by SEQ, in MODE 0 the scoring ones first. -/
def promptBefore (mode : Bool) (a b : Nat × Slot) : Bool :=
  if !mode && a.2.kind != b.2.kind then decide (a.2.kind < b.2.kind) else decide (a.2.seq ≤ b.2.seq)

/-- What has been placed: the remaining budget, the entries, and the slots with their new records. -/
structure Filling where
  budget : Nat
  entries : List Entry := []
  slots : List (Nat × Slot) := []
  deriving DecidableEq, Repr

/-- R423: the drafts that a decode slot takes. -/
def draftsFor (x : Slot) (lmax : Nat) : Nat := min (min x.dCur (x.maxNew - x.new - 1)) (lmax - x.len - 1)

/-- R422, R423: the decode and draft entries of a slot. -/
def decodeEntries (n : Nat) (x : Slot) (d : Nat) : List Entry :=
  (List.range (d + 1)).map (fun k =>
    { tokenId := if k = 0 then x.lastToken else 0xFFFFFFFF, slot := BitVec.ofNat 14 n
      role := if k = 0 then 1 else 2, draftI := BitVec.ofNat 3 k, last := false, score := x.kind == 0
      pos := BitVec.ofNat 32 (x.len + k), seed := x.seed })

/-- R423: a decode slot is placed when it fits beside the reserve. -/
def placeDecode (lmax reserve step : Nat) (f : Filling) (e : Nat × Slot) : Filling :=
  let d := draftsFor e.2 lmax
  if 1 + d + reserve ≤ f.budget then
    { budget := f.budget - (1 + d), entries := f.entries ++ decodeEntries e.1 e.2 d
      slots := f.slots ++ [(e.1, { e.2 with lastStep := step })] }
  else f

/-- R422, R423: a prompt chunk of a slot. -/
def State.promptEntries (s : State) (n : Nat) (x : Slot) (c : Nat) : List Entry :=
  (List.range c).map (fun k =>
    let i := x.promptDone + k
    { tokenId := s.promptToken x i, slot := BitVec.ofNat 14 n, role := 0, draftI := 0
      last := i + 1 == x.promptLen, score := x.kind == 0, pos := BitVec.ofNat 32 i, seed := x.seed })

def State.placePrompt (s : State) (chunk step : Nat) (f : Filling) (e : Nat × Slot) : Filling :=
  let c := min (min chunk (e.2.promptLen - e.2.promptDone)) f.budget
  if c = 0 then f
  else { budget := f.budget - c, entries := f.entries ++ s.promptEntries e.1 e.2 c
         slots := f.slots ++ [(e.1, { e.2 with state := slPrefill, lastStep := step })] }

/-- R423: slots that may take prompt entries. -/
def wantsPrompt (x : Slot) : Bool :=
  (x.state == slQueued || x.state == slPrefill) && !x.cancel && !x.promptHold

/-- R423, R435: the module's part of the batch of a step. -/
def State.fillPart (s : State) (step : Nat) : Filling :=
  let own := s.ownSlots 0
  let pool := s.fld Reg.SV_JOB_CFG.POOL 0
  let mode := s.bit Reg.SV_JOB_CFG.MODE 0
  let prompts := if pool = 2 then [] else own.filter (fun e => wantsPrompt e.2)
  let pending := (prompts.map (fun e => e.2.promptLen - e.2.promptDone)).sum
  let reserve := if mode then 0 else min (s.fld Reg.SV_STEP_CFG.PROMPT_MIN 0) pending
  let decodes := if pool = 1 then [] else own.filter (fun e => e.2.state == slDecode && !e.2.cancel)
  let f := (sortBy decodeBefore decodes).foldl (placeDecode (s.fld Reg.SV_LIMITS.LMAX 0) reserve step)
    { budget := s.unitTokens 0 }
  (sortBy (promptBefore mode) prompts).foldl (s.placePrompt (s.fld Reg.SV_STEP_CFG.CHUNK_MAX 0) step) f

/-! ### Spans (R299) -/

/-- R296, R299: the page groups that a slot's entries of a step may write. -/
def writtenGroups (x : Slot) (es : List Entry) : List Nat :=
  ((es.map (fun e => e.pos.toNat / 64)).eraseDups).filterMap (fun i => x.groups[i]?)

/-- R299, R317: a span-bank entry. -/
def spanWord (first count slot : Nat) : Word :=
  BitVec.ofNat 64 (first % 2 ^ 28 + (count - 1) % 2 ^ 20 * 2 ^ 28 + slot % 2 ^ 14 * 2 ^ 48)

/-- R297, R299: the spans of the page groups that the slots of a step may write, by first granule. -/
def State.spansOf (s : State) (w : Fin 2) (pages : List (Nat × List Nat)) : List (Nat × Nat × Nat) :=
  match s.regionOfKind w 1 with
  | none => []
  | some r =>
    let size := s.groupBytes w
    if size < 2048 then []
    else sortBy (fun a b => decide (a.1 ≤ b.1)) (pages.flatMap (fun e =>
      e.2.map (fun g => ((r.base + g * size) / 2048, size / 2048, e.1))))

/-- R299, R316: the coming step's spans are written into the bank not in force, which is armed. -/
def State.writeSpans (s : State) (w : Fin 2) (step : Nat) (pages : List (Nat × List Nat)) : State :=
  let bank := 1 - s.fld Reg.CM_SPAN_CTL.ACTIVE w
  let l := (s.spansOf w pages).take 32768
  let s := l.zipIdx.foldl (fun s p =>
    s.setReg (Reg.CM_SPAN_BANK.FIRST.at w (32768 * bank + p.2)) (spanWord p.1.1 p.1.2.1 p.1.2.2)) s
  let s := s.setFld Reg.CM_SPAN_STEP.STEP w step
  s.spanCtl w (BitVec.ofNat 64 (1 + l.length * 2 ^ 4 + l.length * 2 ^ 20))

end Sys2Proof.Machine
end

