-- ==== Sys2Proof/Machine/Handoff.lean ====
section
/-!
DEFINITION. Packets of the serving engine (R303, R412), hand-offs between pools (R435 to R437), and cancels (R417, R431 to R433).
-/
namespace Sys2Proof.Machine

/-- R303, R412: an HBM_WRITE of a wing's hawk cores, in the data class. -/
def State.enginePacket (s : State) (w : Fin 2) (chan chip addr : Nat) (flag : Bool) (data : List Byte) : FPacket :=
  { kind := 0xC, chan := BitVec.ofNat 4 chan, flag := flag, dstChip := BitVec.ofNat 16 chip, dstTile := 0x3FF, dstKind := 2
    srcChip := BitVec.ofNat 16 (s.chip w), srcTile := 0x3FF, srcKind := 1, nflits := 8, addr := BitVec.ofNat 48 addr
    data := padTo 512 data }

/-- Packets offered to a wing's router, in order. -/
def State.offerAll (s : State) (w : Fin 2) (l : List FPacket) : State := l.foldl (fun s p => s.offer w p) s

/-! ### Page copies (R436 item 3) -/

/-- A page to copy: the wing and offset of its bytes, its size, and the chip and offset that it goes to. -/
structure PageCopy where
  wing : Fin 2
  off : Nat
  size : Nat
  chip : Nat
  dst : Nat
  deriving DecidableEq, Repr

/-- R297, R436: the pages of a slot, each to the same page within the decode module's groups, on the wing that the shipping map
gives. -/
def State.pageCopies (s : State) (groups : List Nat) (chip : Nat) (theirs : List Nat) : List PageCopy :=
  match s.job.img with
  | none => []
  | some i => (groups.zip theirs).flatMap (fun g => i.shipMap.filterMap (fun e =>
      (s.regionOfKind e.1 1).map (fun r =>
        { wing := e.1, off := r.base + g.1 * groupSize i e.1 + e.2.1 * pageSize i e.1, size := pageSize i e.1
          chip := chip + e.2.2.1.val, dst := e.2.2.2.1.toNat + g.2 * e.2.2.2.2 })))

/-- R412, R436: the message that copies a page; its last packet is flagged. -/
def State.pagePackets (s : State) (c : PageCopy) : List FPacket :=
  (List.range (c.size / 512)).map (fun k =>
    s.enginePacket c.wing 14 c.chip (c.dst + 512 * k) (k + 1 == c.size / 512) (s.readRun c.wing (c.off + 512 * k) 512))

/-- R436 item 3: a page is copied; one that cannot be read stops the job. -/
def State.shipPage (s : State) (c : PageCopy) : State :=
  s.orStop c.wing (s.unreadable c.wing c.off c.size) (s.offerAll c.wing (s.pagePackets c))

/-- A packet that copies part of a page. -/
def PageCopy.carries (c : PageCopy) (p : FPacket) : Bool :=
  p.kind == 0xC && p.chan == 14 && p.dstChip.toNat == c.chip && decide (c.dst ≤ p.addr.toNat) &&
    decide (p.addr.toNat < c.dst + c.size)

/-- R437: a copy of which no packet has left its wing is not made. -/
def State.stopCopy (s : State) (c : PageCopy) : State :=
  let x := s.wing c.wing
  if x.fabricWait.countP c.carries = c.size / 512 then
    s.setWing c.wing { x with fabricWait := x.fabricWait.filter (fun p => !c.carries p) }
  else s

/-- R437: a cancel of the slot of a hand-off: a refused one ends, no further page is copied for the others. -/
def State.cancelHandoff (s : State) (n : Nat) (reqId : BitVec 64) : State :=
  let x := s.wing 0
  match x.handoffs.find? (fun h => h.reqId == reqId) with
  | none => s
  | some h =>
    if h.refused then s.setWing 0 { x with handoffs := x.handoffs.erase h }
    else
      let s := s.setWing 0 { x with
        handoffs := x.handoffs.map (fun g => if g = h then { h with cancelled := true } else g) }
      match h.reply with
      | some r => (s.pageCopies (x.slot n).groups r.1.toNat r.2.2).foldl State.stopCopy s
      | none => s

/-! ### Hand-offs (R436, R437) -/

/-- R436: what HANDOFF carries for a slot. -/
def State.handoffArgs (s : State) (x : Slot) : HandoffArgs :=
  { reqId := x.reqId, seed := x.seed, promptLen := BitVec.ofNat 32 x.promptLen, maxNew := BitVec.ofNat 32 x.maxNew
    stopToken := x.stopToken, dReq := BitVec.ofNat 8 x.dReq, firstToken := x.lastToken
    homeChip := BitVec.ofNat 16 (s.chip 0), vector := BitVec.ofNat 8 x.vector }

/-- R436: the decode module that a slot is offered to, after a number of refusals. -/
def State.decodeModule (s : State) (x : Slot) (tries : Nat) : Option Nat :=
  s.job.img.bind (fun i => i.decodePool[(x.seq + tries) % i.decodePool.length]?.map (·.toNat))

/-- R436: an offer of a slot; without a decode pool there is nobody to offer it to. -/
def State.offerSlot (s : State) (x : Slot) (tries : Nat) : State :=
  match s.decodeModule x tries with
  | some c => let y := s.wing 0; s.setWing 0 { y with engineOut := y.engineOut ++ [.handoff c (s.handoffArgs x) tries] }
  | none => s

/-- R436: one SHIPPING slot at a boundary: offered first, or after a refusal to the next decode module. -/
def State.offerHandoff (s : State) (n : Nat) (x : Slot) : State :=
  let y := s.wing 0
  match y.handoffs.find? (fun h => h.reqId == x.reqId) with
  | none => (s.setWing 0 { y with handoffs := y.handoffs ++ [{ slot := n, reqId := x.reqId, tries := 0 }] }).offerSlot x 0
  | some h =>
    if h.refused then
      (s.setWing 0 { y with handoffs := y.handoffs.map (fun g =>
        if g = h then { h with tries := h.tries + 1, refused := false } else g) }).offerSlot x (h.tries + 1)
    else s

/-- R436: the prefill engine offers its SHIPPING slots. -/
def State.offerHandoffs (s : State) : State :=
  if s.fld Reg.SV_JOB_CFG.POOL 0 ≠ 1 then s
  else ((s.ownSlots 0).filter (fun e => e.2.state == slShipping)).foldl (fun s e => s.offerHandoff e.1 e.2) s

/-- R436 item 2: the decode engine takes a slot for a hand-off, or refuses it. -/
def State.takeHandoff (s : State) (a : HandoffArgs) : State :=
  let reply (s : State) (st n : Nat) (g : List Nat) :=
    let x := s.wing 0
    s.setWing 0 { x with engineOut := x.engineOut ++ [.handoffReply a.reqId st (s.chip 0) n g] }
  if !s.bit Reg.SV_JOB_CFG.INTAKE 0 || s.fld Reg.SV_JOB_CFG.POOL 0 != 2 then s
  else match s.freeSlot with
    | none => reply s stBudgetRefused 0 []
    | some n => match s.takeGroups (groupsFor (a.promptLen.toNat + a.maxNew.toNat + a.dReq.toNat)) with
      | none => reply s stBudgetRefused 0 []
      | some g =>
        let y := s.wing 0
        let x : Slot :=
          { reqId := a.reqId, state := slAwaitPages, kind := 1, dReq := a.dReq.toNat, dCur := a.dReq.toNat, seed := a.seed
            promptLen := a.promptLen.toNat, promptDone := a.promptLen.toNat, maxNew := a.maxNew.toNat
            stopToken := a.stopToken, seq := y.nextSeq, pageList := s.pageListAt n, groups := g, lastToken := a.firstToken
            homeChip := a.homeChip.toNat, vector := 2, first := some a.firstToken }
        reply (((s.setWing 0 { y with nextSeq := y.nextSeq + 1 }).setSlotBoth n x).writePageList n g) stOk n g

/-- R436, R437: the reply to an offer: after a refusal the next boundary offers the slot to another module, and a hand-off whose
slot has been cancelled ends; with a slot and page groups the pages are copied. -/
def State.handoffReplied (s : State) (reqId : BitVec 64) (status chip slot : Nat) (groups : List Nat) : State :=
  let x := s.wing 0
  match x.handoffs.find? (fun h => h.reqId == reqId && h.reply.isNone && !h.refused) with
  | none => s
  | some h =>
    if status ≠ stOk then
      s.setWing 0 { x with handoffs :=
        if h.cancelled then x.handoffs.erase h else x.handoffs.map (fun g => if g = h then { h with refused := true } else g) }
    else
      let s := s.setWing 0 { x with handoffs := x.handoffs.map (fun g => if g = h then
        { h with reply := some (BitVec.ofNat 16 chip, BitVec.ofNat 14 slot, groups) } else g) }
      if h.cancelled then s else (s.pageCopies (x.slot h.slot).groups chip groups).foldl State.shipPage s

/-- R436 item 4: every ship message to the decode module's wings has been sent and has completed. -/
def State.shipped (s : State) (chip : Nat) : Bool :=
  let theirs (c : BitVec 16) : Bool := c.toNat == chip || c.toNat == chip + 1
  bothWings.all (fun w =>
    (s.wing w).flagTx.all (fun f => f.chan != 14 || !theirs f.chip || f.openMsgs.isEmpty) &&
      !(s.wing w).fabricWait.any (fun p => p.chan == 14 && p.kind == 0xC && theirs p.dstChip))

/-- R436 items 4 and 5, R437: the prefill engine sends SHIP_DONE. -/
def State.sendShipDone (s : State) (n : Nat) (x : Slot) (h : Handoff) (chip slot : Nat) : State :=
  let y := s.wing 0
  let s := s.setWing 0 { y with
    handoffs := y.handoffs.erase h
    engineOut := y.engineOut ++ [.shipDone n chip slot h.cancelled] }
  if h.cancelled then s else s.setSlotBoth n { x with state := slFinished, reason := 4, takenBy := (chip, slot) }

/-- R436 item 5, R437: SHIP_DONE reaches the decode engine. -/
def State.takeShipDone (s : State) (n : Nat) (x : Slot) (cancelled : Bool) : State :=
  if cancelled then s.setSlotBoth n { x with state := slCancelled, cancel := true, awaitShip := false, reason := 255 }
  else if x.state = slAwaitPages then
    s.setSlotBoth n { x with state := slDecode, len := x.promptLen + 1, new := 1 }
  else s.setSlotBoth n { x with awaitShip := false }

/-- R436, R437: SHIP_DONE at the module: sent by a prefill engine whose pages have been copied, or received by a decode
engine. -/
def State.shipDone (s : State) (n : Nat) (cancelled : Bool) : State :=
  let x := (s.wing 0).slot n
  match (s.wing 0).handoffs.find? (fun h => h.slot == n && h.reply.isSome) with
  | some h =>
    match h.reply with
    | some r => if s.shipped r.1.toNat then s.sendShipDone n x h r.1.toNat r.2.1.toNat else s
    | none => s
  | none =>
    if s.ownsSlot n && (x.state == slAwaitPages || x.awaitShip) then s.takeShipDone n x cancelled else s

/-! ### Cancels (R417, R431 to R433) -/

/-- R432: the host's result of a cancel, by the slot's state as it takes the commit lock. -/
def cancelStatus (state : Nat) : Nat := if state = slFinished then stAlreadyComplete else stCancelled

/-- R432, R434, R437: the slot after its cancel is resolved. -/
def cancelSlot (x : Slot) : Slot :=
  { x with cancel := true
           awaitShip := x.awaitShip || x.state == slAwaitPages
           state := if x.state = slFinished then slFinished else slCancelled }

/-- The vector of a command (R522). -/
def cmdVector (v : Nat) : Nat := if v < 2 ∨ 63 < v then 2 else v

/-- R431: the slot stands in the batch of the running step. -/
def State.inBatch (s : State) (n : Nat) : Bool := !(slotEntries (s.wing 0).batch n).isEmpty && s.loaded 0

/-- R431: the cancel bits are set on both wings, and the other modules are told, when the running batch holds the slot. -/
def State.filterSlot (s : State) (n : Nat) : State :=
  if s.inBatch n then
    let s := (s.setCancelBit 0 n true).setCancelBit 1 n true
    let x := s.wing 0
    s.setWing 0 { x with engineOut := x.engineOut ++ [.cancel n] }
  else s

/-- R433: the cancel and the commit of the running step contend. -/
def State.cancelContends (s : State) (n : Nat) : Bool :=
  s.inBatch n && !(s.wing 0).bnd.committed && (!(s.wing 0).endedTiles.isEmpty || !(s.wing 1).endedTiles.isEmpty)

/-- R417, R432, R437, R517: a cancel takes the commit lock and is resolved by the slot's state. -/
def State.resolveCancel (s : State) (vector : Nat) (tag reqId : BitVec 64) : State :=
  match s.slotOfReq reqId with
  | none => s.cmdCompletion vector 2 tag stAlreadyComplete
  | some e =>
    let s := ((s.filterSlot e.1).cancelHandoff e.1 reqId).setSlotBoth e.1 (cancelSlot e.2)
    let x := s.wing 0
    s.setWing 0 { x with cancels := x.cancels ++
      [{ tag := tag, vector := cmdVector vector, slot := e.1, status := cancelStatus e.2.state }] }

/-- R417, R431 to R433, R517: CANCEL served; `late` says that the commit takes the lock first where the two contend. -/
def State.serveCancel (s : State) (vector : Nat) (tag reqId : BitVec 64) (late : Bool) : State :=
  if !s.bit Reg.SV_JOB_CFG.INTAKE 0 then s.cmdCompletion vector 2 tag stPlanMismatch
  else match s.slotOfReq reqId with
    | none => s.cmdCompletion vector 2 tag stAlreadyComplete
    | some e =>
      let contends := s.cancelContends e.1
      let s := s.countTdc 0 contends
      if contends && late then
        let s := s.filterSlot e.1
        let x := s.wing 0
        s.setWing 0 { x with lateCancels := x.lateCancels ++ [(vector, tag, reqId)] }
      else s.resolveCancel vector tag reqId

/-- R432, R433: the cancels that waited for the commit lock take it. -/
def State.resolveLate (s : State) : State :=
  let l := (s.wing 0).lateCancels
  l.foldl (fun s c => s.resolveCancel c.1 c.2.1 c.2.2) (s.setWing 0 { s.wing 0 with lateCancels := [] })

end Sys2Proof.Machine
end

