-- ==== Sys2Proof/Machine/Tables.lean ====
section
/-!
DEFINITION. Published tables: the placement table's rows (R226 to R228), the checks before a publication (R230), the shadow copies
(R244, R245), arms and cancels (R246, R251), the records of the tables in HBM (R248), and PUBLISH_TABLE (R517).
-/
namespace Sys2Proof.Machine

/-! ### The placement table (R226 to R228) -/

/-- Bits of `n` bytes of a table. -/
def tableBits (d : List Byte) (off n lo width : Nat) : Nat := leNat ((d.drop off).take n) / 2 ^ lo % 2 ^ width

/-- R226: the header row. -/
structure TableHead where
  experts : Nat
  chosen : Nat
  wmode : Nat
  targets : Nat
  nrows : Nat
  scale : Nat
  tLim : Nat
  version : Nat
  deriving DecidableEq, Repr

def tableHead (d : List Byte) : TableHead :=
  let f := tableBits d 0 16
  { experts := f 0 11, chosen := f 11 4, wmode := f 15 1, targets := f 16 11, nrows := f 27 5, scale := f 32 32
    tLim := f 64 32, version := f 96 32 }

/-- R227: an expert's entry: its first target, and its number of replicas. -/
def tableExpert (d : List Byte) (e : Nat) : Nat × Nat :=
  (tableBits d (512 * (1 + e / 128) + 4 * (e % 128)) 4 0 11, tableBits d (512 * (1 + e / 128) + 4 * (e % 128)) 4 11 2 + 1)

/-- R228: a target entry. -/
structure Target where
  chip : Nat
  tile : Nat
  win : Nat
  cap : Nat
  limit : Nat
  deriving DecidableEq, Repr

/-- R228: target `j` of a table with `n` experts. -/
def tableTarget (d : List Byte) (n j : Nat) : Target :=
  let f := tableBits d (512 * (1 + (n + 127) / 128 + j / 64) + 8 * (j % 64)) 8
  { chip := f 0 16, tile := f 16 10, win := f 26 4, cap := f 32 16, limit := f 48 16 }

/-- R228: the target of token `t` that chooses an expert. -/
def tokenTarget (d : List Byte) (e t : Nat) : Nat := (tableExpert d e).1 + t % (tableExpert d e).2

/-- R226: VERSION, which the serving engine sets. -/
def setVersion (d : List Byte) (v : BitVec 32) : List Byte := d.take 12 ++ leBytes 4 v.toNat ++ d.drop 16

/-! ### The checks before a publication (R221, R230) -/

/-- The imago's expert slot that a target names: its expert, and its compiled place count. -/
def planSlot (l : LayerPlan) (t : Target) : Option (Nat × Nat) :=
  (l.slots.find? (fun x => x.1.toNat == t.chip && x.2.1.toNat == t.tile && x.2.2.1.toNat == t.win)).map
    (fun x => (x.2.2.2.1.toNat, x.2.2.2.2.toNat))

/-- R230: a target names an expert slot, and CAP ≤ LIMIT ≤ its place count; CAP is from 1 (R228). -/
def targetOk (l : LayerPlan) (t : Target) : Bool :=
  match planSlot l t with
  | some x => decide (1 ≤ t.cap) && decide (t.cap ≤ t.limit) && decide (t.limit ≤ x.2)
  | none => false

/-- R230: a replica of an expert: its target exists, its slot holds the expert, and its LIMIT takes the expert's tokens. -/
def replicaOk (l : LayerPlan) (d : List Byte) (e k : Nat) : Bool :=
  let h := tableHead d
  let x := tableExpert d e
  let t := tableTarget d h.experts (x.1 + k)
  decide (x.1 + k < h.targets) && ((planSlot l t).map (·.1)) == some e &&
    decide ((h.tLim + x.2 - 1) / x.2 ≤ t.limit)

/-- R230: E, K, NROWS and T_LIM are the imago's for the layer. -/
def headOk (l : LayerPlan) (h : TableHead) : Bool :=
  h.experts == l.experts.toNat && h.chosen == l.chosen.toNat && h.nrows == l.nrows.toNat && h.tLim == l.tLim.toNat

/-- R230: a placement table may be published. -/
def placementOk (l : LayerPlan) (d : List Byte) : Bool :=
  let h := tableHead d
  headOk l h && (List.range h.targets).all (fun j => targetOk l (tableTarget d h.experts j)) &&
    (List.range h.experts).all (fun e => (List.range (tableExpert d e).2).all (replicaOk l d e))

/-- R230: the imago lets a table take this content; only placement tables are checked. -/
def tableOk (t : TableImage) (d : List Byte) : Bool :=
  decide (512 * t.rows.length = d.length) && (match t.layer with | some l => placementOk l d | none => true)

/-! ### Tables of a job, and their shadow copies (R244, R245) -/

/-- The tables of a set in the loaded job. -/
def State.tablesOf (s : State) (set : Nat) : List TableImage :=
  match s.job.img with
  | some i => i.tables.filter (fun t => t.set.toNat == set)
  | none => []

/-- The first row of a table's shadow copy (R244). -/
def State.shadowRow (s : State) (t : TableImage) : Nat :=
  let active := (s.tfld t.site Reg.TC_TABLE_SEL.ACTIVE).testBit t.set.toNat
  (s.handle t.site t.handle.toNat).base + (if active then 0 else t.rows.length)

/-- R175, R188: a word of the wing's hawk cores arrives at a tile, or waits behind earlier ones. -/
def State.hawkWord (s : State) (u : Site) (row word : Nat) (bs : List Byte) : State :=
  let t := s.tile u
  if !t.heldWords.isEmpty || t.wordWaits row then
    s.setTile u { t with heldWords := t.heldWords ++
      [{ kind := 2, dstTile := u.tile, dstChip := BitVec.ofNat 16 (s.chip u.wing), srcTile := 0x3FF
         srcChip := BitVec.ofNat 16 (s.chip u.wing), srcKind := 1, arg := BitVec.ofNat 20 (64 * row + word), data := bs }] }
  else s.arriveWord u row word 1 (s.chip u.wing) true bs none

/-- R178, R245: a rebuilt table is written into the shadow copy of one tile, each row as 64 words. -/
def State.writeShadow (s : State) (t : TableImage) (data : List Byte) : State :=
  (List.range (64 * t.rows.length)).foldl (fun s i =>
    s.hawkWord t.site (s.shadowRow t + i / 64) (i % 64) ((data.drop (8 * i)).take 8)) s

/-- R185, R245: every row of the shadow copy admits the hawk cores' words. -/
def State.shadowAdmits (s : State) (t : TableImage) : Bool :=
  s.tileLive t.site.wing t.site.tile.toNat && (List.range t.rows.length).all (fun i =>
    match s.admission t.site (s.shadowRow t + i) 1 (s.chip t.site.wing) none true with
    | .ok _ => true
    | .error _ => false)

/-- R245: the window of the shadow copy has landed all its rows. -/
def State.shadowLanded (s : State) (t : TableImage) : Bool :=
  (List.range 16).any (fun w => s.winCovers t.site w (s.shadowRow t) &&
    s.tfld t.site Reg.SP_WIN1.LANDED w == t.rows.length)

/-- R175, R188: nothing of what the hawk cores have written at the tile is on its way any more. -/
def State.shadowQuiet (s : State) (t : TableImage) : Bool :=
  let x := s.tile t.site
  x.heldWords.isEmpty && x.inbound.isNone && x.outsideEntry.isNone

/-- The bytes of a table's shadow copy. -/
def State.shadowData (s : State) (t : TableImage) : List Byte :=
  (List.range t.rows.length).flatMap (fun i => s.readRow t.site (s.shadowRow t + i))

/-! ### The records of the tables in HBM (R248) -/

/-- R248: a table's record in the region of kind 7: version, SWAP_STEP, content. -/
structure TableRec where
  version : Nat
  swap : Nat
  data : List Byte
  deriving DecidableEq, Repr

/-- R248: where record `k` of a set stands: after the page-group lists, on a 2 MiB boundary, 8 MiB apart (log entry 63). -/
def State.tableAt (s : State) (n k : Nat) : Nat :=
  (s.pageListAt (s.fld Reg.SV_JOB_CFG.SLOT_HI 0 + 1) + 2097151) / 2097152 * 2097152 + 8388608 * (2 * n + k)

/-- R248: record `k` of a set as a wing's region holds it. -/
def State.tableRec (s : State) (w : Fin 2) (n k : Nat) : Option TableRec :=
  let h := s.readRegion w 7 (s.tableAt n k) 24
  let len := leNat ((h.drop 16).take 8)
  if len = 0 then none
  else some { version := leNat (h.take 8), swap := leNat ((h.drop 8).take 8)
              data := s.readRegion w 7 (s.tableAt n k + 512) len }

/-- R248: the place for the next record of a set: an empty one, else the one with the lower SWAP_STEP. -/
def State.sparePlace (s : State) (w : Fin 2) (n : Nat) : Nat :=
  match s.tableRec w n 0, s.tableRec w n 1 with
  | none, _ => 0
  | some _, none => 1
  | some a, some b => if a.swap ≤ b.swap then 0 else 1

/-- R248: the engine keeps a table with its set, version and SWAP_STEP. -/
def State.recordTable (s : State) (w : Fin 2) (n : Nat) (r : TableRec) : State :=
  let k := s.sparePlace w n
  (s.writeRegion w 7 (s.tableAt n k) (leBytes 8 r.version ++ leBytes 8 r.swap ++ leBytes 8 r.data.length)).writeRegion w 7
    (s.tableAt n k + 512) r.data

/-- R248: the record in force at a step, and the one whose SWAP_STEP lies beyond it. -/
def State.tableInForce (s : State) (w : Fin 2) (n f : Nat) : Option TableRec :=
  let l := ([0, 1].filterMap (s.tableRec w n)).filter (fun r => decide (r.swap ≤ f))
  l.foldl (fun best r => match best with | some b => if b.swap ≤ r.swap then some r else some b | none => some r) none

def State.tablePending (s : State) (w : Fin 2) (n f : Nat) : Option TableRec :=
  ([0, 1].filterMap (s.tableRec w n)).find? (fun r => decide (f < r.swap))

/-! ### Arms (R246, R251) -/

/-- R226, R248: what the wing's engine records with an accepted arm: the content of the shadow copy, which holds the version of a
placement table. -/
def State.armRecord (s : State) (w : Fin 2) (n : Nat) : State :=
  match (s.tablesOf n).find? (fun t => t.site.wing == w) with
  | none => s
  | some t =>
    let d := s.shadowData t
    let x := s.wing w
    let v := if t.layer.isSome then (tableHead d).version else sget (fun _ => 0) x.tablePend n
    (s.setWing w { x with tablePend := sset (fun _ => 0) x.tablePend n v }).recordTable w n
      { version := v, swap := s.fld Reg.SV_TABLE_PUB0.SWAP_STEP w n, data := d }

/-- R251: an accepted arm. -/
def State.armSet (s : State) (w : Fin 2) (n : Nat) : State :=
  (s.setFld Reg.SV_TABLE_PUB1.GEN w ((s.fld Reg.SV_TABLE_PUB1.GEN w n + 1) % 16) n).setFld Reg.SV_TABLE_PUB1.STATE w 1 n

/-- R246, R248: an arm below SWAP_STEP is accepted; a late one stops the job. -/
def State.pubArm (s : State) (w : Fin 2) (n : Nat) : State :=
  if s.stepOf w < s.fld Reg.SV_TABLE_PUB0.SWAP_STEP w n then (s.armSet w n).armRecord w n
  else (s.setFld Reg.SV_TABLE_PUB1.REFUSED w 1 n).stopHere w stPlanMismatch 6 1

/-- R248, R251: the records of a set whose SWAP_STEP lies beyond a step are taken back. -/
def State.eraseRecords (s : State) (w : Fin 2) (n f : Nat) : State :=
  [0, 1].foldl (fun s k =>
    match s.tableRec w n k with
    | some r => if f < r.swap then s.writeRegion w 7 (s.tableAt n k) (List.replicate 24 0) else s
    | none => s) s

/-- R251: a cancel of an armed publication below SWAP_STEP. -/
def State.pubCancel (s : State) (w : Fin 2) (n : Nat) : State :=
  if s.fld Reg.SV_TABLE_PUB1.STATE w n = 1 ∧ s.stepOf w < s.fld Reg.SV_TABLE_PUB0.SWAP_STEP w n then
    (s.setFld Reg.SV_TABLE_PUB1.STATE w 0 n).eraseRecords w n (s.stepOf w)
  else s

/-! ### PUBLISH_TABLE (R245, R246, R517) -/

/-- R517: one wing of the module arms a publication. -/
def State.publishOn (s : State) (w : Fin 2) (n swap version : Nat) : State :=
  let s := s.setReg (Reg.SV_TABLE_PUB0.SWAP_STEP.at w n) (BitVec.ofNat 64 swap)
  let x := s.wing w
  (s.setWing w { x with tablePend := sset (fun _ => 0) x.tablePend n version }).pubArm w n

/-- R226, R516: the content of a publication for a table: what the module reads at HOST_ADDR, with VERSION set by the engine. -/
def Publication.content (a : Publication) (t : TableImage) : List Byte :=
  if t.layer.isSome then setVersion a.data a.version else a.data

/-- R230, R245, R517: the publication is refused. -/
def State.publishRefused (s : State) (a : Publication) : Bool :=
  decide (8 ≤ a.set) || decide (a.data.length % 512 ≠ 0) || !s.bit Reg.SV_JOB_CFG.INTAKE 0 ||
    s.fld Reg.SV_JOB_CFG.QINDEX 0 != 0 || bothWings.any (fun w => s.fld Reg.SV_TABLE_PUB1.STATE w a.set == 1) ||
    (s.wing 0).pubs.any (fun b => b.set == a.set) ||
    (s.tablesOf a.set).any (fun t => !tableOk t a.data || !s.shadowAdmits t)

/-- R517: every row has landed on every tile: the wings are armed, and the host gets SWAP_STEP. -/
def State.armPublication (s : State) (a : Publication) : State :=
  let swap := max a.minStep (s.fld Reg.SV_COMMITTED.STEP 0 + 3)
  let s := (s.publishOn 0 a.set swap a.version.toNat).publishOn 1 a.set swap a.version.toNat
  let x := s.wing 0
  let s := s.setWing 0 { x with engineOut := x.engineOut ++ [.arm a.set swap a.version.toNat] }
  s.cmdCompletion a.vector 3 a.tag stOk (leBytes 8 swap)

def State.dropPublication (s : State) (a : Publication) : State :=
  s.setWing 0 { s.wing 0 with pubs := (s.wing 0).pubs.erase a }

/-- R245, R517: a publication that waits is armed once all its rows have landed; it is refused when some never will. -/
def State.settlePublication (s : State) (a : Publication) : State :=
  let l := s.tablesOf a.set
  if l.all s.shadowLanded then (s.dropPublication a).armPublication a
  else if l.all s.shadowQuiet then (s.dropPublication a).cmdCompletion a.vector 3 a.tag stPlanMismatch
  else s

def State.settlePublications (s : State) : State := (s.wing 0).pubs.foldl State.settlePublication s

/-- A publication that a stopped job leaves behind ends. -/
def State.refusePublications (s : State) : State :=
  (s.wing 0).pubs.foldl (fun s a => (s.dropPublication a).cmdCompletion a.vector 3 a.tag stPlanMismatch) s

/-- R245, R517: PUBLISH_TABLE served: the checks, then the shadow copies on both wings; the content goes to the other modules'
engines as well. -/
def State.servePublish (s : State) (vector : Nat) (tag : BitVec 64) (a : PublishArgs) : State :=
  let p : Publication :=
    { vector := vector, tag := tag, set := a.set.toNat, version := a.version, minStep := a.minStep.toNat
      data := padTo a.length.toNat a.data }
  if s.publishRefused p then s.cmdCompletion vector 3 tag stPlanMismatch
  else
    let s := (s.tablesOf p.set).foldl (fun s t => s.writeShadow t (p.content t)) s
    let x := s.wing 0
    (s.setWing 0 { x with pubs := x.pubs ++ [p], engineOut := x.engineOut ++ [.table p.set p.data] }).settlePublication p

end Sys2Proof.Machine
end

