-- ==== Sys2Proof/Machine/Ledger.lean ====
section
/-!
DEFINITION. Outputs (R425), the audit record (R458 to R460) and the ledger (R462 to R467).
-/
namespace Sys2Proof.Machine

/-! ### Outputs (R425) -/

/-- R425: an output record. -/
structure OutRec where
  sample : BitVec 32
  draft : BitVec 32
  scored : Bool
  deriving DecidableEq, Repr

/-- R425: the output record of a token index. -/
def State.outRec (s : State) (w : Fin 2) (t : Nat) : OutRec :=
  let b := s.readRegion w 8 (16 * t) 16
  { sample := BitVec.ofNat 32 (leNat (b.take 4)), draft := BitVec.ofNat 32 (leNat ((b.drop 4).take 4))
    scored := leNat ((b.drop 8).take 1) == 1 }

/-- R425: the score area of a token index. -/
def State.scoreOff (s : State) (w : Fin 2) (t : Nat) : Nat := (16 * s.listTokens w + 2097151) / 2097152 * 2097152 + 512 * t
def State.scoreArea (s : State) (w : Fin 2) (t : Nat) : List Byte := s.readRegion w 8 (s.scoreOff w t) 512

/-! ### Digests (R460) -/

/-- The 48 bytes of a SHA-384 value, as the standard orders them. -/
def digestBytes (d : BitVec 384) : List Byte := (leBytes 48 d.toNat).reverse

/-- R460: SEEDS. -/
def seedsDigest (l : Sparse Entry) : BitVec 384 :=
  sha384 ((l.filter (fun e => e.2.role != 3)).flatMap (fun e => leBytes 8 e.2.seed.toNat))

/-- R460: INPUT, over the frozen entries with their seeds taken as 0. -/
def inputDigest (l : Sparse Entry) (n : Nat) : BitVec 384 :=
  sha384 ((List.range n).flatMap (fun t => entryBytes { entryAt l t with seed := 0 }))

/-- R460: OUTPUT. -/
def State.outputDigest (s : State) (w : Fin 2) : BitVec 384 :=
  let n := s.listTokens w
  sha384 (s.readRegion w 8 0 (16 * n) ++
    ((List.range n).filter (fun t => (s.outRec w t).scored)).flatMap (s.scoreArea w))

/-! ### The audit record (R459) -/

/-- R459: WIDE_RUNS. -/
def State.wideRuns (s : State) (w : Fin 2) : Nat :=
  ((s.jobTiles w).map (fun t => s.tfld ⟨w, BitVec.ofNat 10 t⟩ Reg.TC_WIDE_RUNS.RUNS)).sum

/-- R459: bytes 0 to 255 of the audit record of the present step. -/
def State.auditHead (s : State) (w : Fin 2) : List Byte :=
  let x := s.wing w
  let flags := (if x.restarted then 1 else 0) + (if s.bit Reg.AU_REPLAY.ENABLE w then 2 else 0) +
    (if s.bit Reg.SV_JOB_CFG.MODE w then 4 else 0)
  leBytes 8 (s.stepOf w) ++ digestBytes ((s.job.img.map (·.digest)).getD 0) ++ digestBytes (seedsDigest x.batch) ++
    digestBytes (inputDigest x.batch (s.listTokens w)) ++ digestBytes (s.outputDigest w) ++
    leBytes 4 (s.fld Reg.CF_INSTAR_STATUS.SEQ w) ++ leBytes 4 (s.wideRuns w) ++ leBytes 4 (s.fld Reg.AU_TDC.PENDING w) ++
    leBytes 2 (s.chip w) ++ leBytes 1 w.val ++ leBytes 1 (s.fld Reg.FB_JOB.EPOCH w) ++ leBytes 1 1 ++ leBytes 1 flags ++
    leBytes 2 (s.fld Reg.CF_WING_ID.LOGICAL_TILES w) ++ leBytes 4 ((s.job.img.map (·.jobModules.toNat)).getD 0) ++
    (List.range 8).flatMap (fun n => leBytes 4 (sget (fun _ => 0) x.tableVer n))

/-! ### Blocks (R463 to R466) -/

/-- R463: the steps of a block. -/
def blockSteps : Nat := 65536

/-- R463: where a block's slot begins in the region of kind 4. -/
def State.blockAt (s : State) (w : Fin 2) (b : Nat) : Nat :=
  2097152 + 23068672 * (b % s.fld Reg.AU_LEDGER_CTL.NSLOTS w)

/-- R463: where the record of a step lies in the region of kind 4. -/
def State.recordAt (s : State) (w : Fin 2) (step : Nat) : Nat :=
  s.blockAt w (step / blockSteps) + 65536 + 320 * (step % blockSteps)

/-- R464: the header of a block, up to its signature. -/
def State.blockHeader (s : State) (w : Fin 2) (b : LedgerBlock) : List Byte :=
  padTo 232 (leBytes 8 b.number ++ leBytes 8 b.firstStep ++ leBytes 8 b.lastStep ++ leBytes 8 Config.serial.toNat ++
    leBytes 2 (s.chip w) ++ leBytes 1 w.val ++ leBytes 1 b.state ++ digestBytes b.prevChain ++ digestBytes b.finalChain ++
    leBytes 1 b.keySlot ++ leBytes 3 0 ++ (leBytes 96 b.signature.toNat).reverse)

/-- R465: what the cocoon signs: header bytes 0 to 131, byte 35 taken as 0. -/
def State.blockDigest (s : State) (w : Fin 2) (b : LedgerBlock) : BitVec 384 :=
  sha384 ((s.blockHeader w { b with state := 0 }).take 132)

def Wing.block (x : Wing) (n : Nat) : Option LedgerBlock := x.blocks.find? (fun b => b.number == n)

/-- A block of the wing changes, with its header in HBM, and the region header names the newest block (R463). -/
def State.setBlock (s : State) (w : Fin 2) (b : LedgerBlock) : State :=
  let x := s.wing w
  let s := s.setWing w { x with blocks := x.blocks.filter (fun c => c.number != b.number) ++ [b] }
  let s := s.writeRegion w 4 (s.blockAt w b.number) (s.blockHeader w b)
  if s.fld Reg.AU_LEDGER_STATUS.OPEN_BLOCK w = b.number then
    s.writeRegion w 4 0 (leBytes 8 b.number ++ leBytes 8 b.lastStep)
  else s

/-- R459: the chain value that the region holds in the record of a step. -/
def State.recordedChain (s : State) (w : Fin 2) (step : Nat) : BitVec 384 :=
  BitVec.ofNat 384 (leNat (s.readRegion w 4 (s.recordAt w step + 256) 48).reverse)

/-- R464: the chain value of the record of a block's LAST_STEP. -/
def State.lastChain (s : State) (w : Fin 2) (b : LedgerBlock) : BitVec 384 :=
  if b.state = 0 then s.recordedChain w b.lastStep else b.finalChain

/-- R464: the preceding block of the job: of those with a lower number, the one with the highest. -/
def Wing.blockBefore (x : Wing) (n : Nat) : Option LedgerBlock :=
  (x.blocks.filter (fun b => decide (b.number < n))).foldl (fun best b =>
    match best with
    | some a => if a.number < b.number then some b else some a
    | none => some b) none

/-- R464: PREV_CHAIN of a block that opens. -/
def State.prevChain (s : State) (w : Fin 2) (n : Nat) : BitVec 384 :=
  (((s.wing w).blockBefore n).map (s.lastChain w)).getD 0

/-- R462 to R464: the block that takes the record of a step; it opens with the step when there is none yet, or when the step lies
before its first one. -/
def State.openBlock (s : State) (w : Fin 2) (step : Nat) : LedgerBlock :=
  let n := step / blockSteps
  match (s.wing w).block n with
  | some b => { b with firstStep := min b.firstStep step }
  | none =>
    { number := n, firstStep := step, lastStep := step, state := 0, prevChain := s.prevChain w n
      finalChain := 0, keySlot := 0, signature := 0 }

/-- R467: the chain tail of a wing that resumes at step `r`: the record of step r - 1, or, where the block that holds r records none
yet, its PREV_CHAIN. After a jump of a replay run past the latest record, that record (log entry 64). -/
def State.chainTail (s : State) (w : Fin 2) (r : Nat) : BitVec 384 :=
  match (s.wing w).block (r / blockSteps) with
  | some b =>
    if r ≤ b.firstStep then b.prevChain else s.recordedChain w (min (r - 1) b.lastStep)
  | none => s.prevChain w (r / blockSteps)

/-- R458, R459, R462: the audit record of the present step is written, and the pending choices are cleared. -/
def State.writeAudit (s : State) (w : Fin 2) : State :=
  let step := s.stepOf w
  let head := s.auditHead w
  let b := s.openBlock w step
  let x := s.wing w
  let prev := if b.firstStep = step then b.prevChain else x.chain
  let h := sha384 (digestBytes prev ++ head)
  let s := s.setWing w { x with chain := h, restarted := false }
  let s := s.setFld Reg.AU_TDC.PENDING w 0
  let s := s.setFld Reg.AU_LEDGER_STATUS.OPEN_BLOCK w b.number
  let s := s.writeRegion w 4 (s.recordAt w step) (padTo 320 (head ++ digestBytes h))
  s.setBlock w { b with lastStep := step }

/-- R605: the OUTPUT digest that the ledger holds for a step. -/
def State.recordedOutput (s : State) (w : Fin 2) (step : Nat) : List Byte :=
  s.readRegion w 4 (s.recordAt w step + 152) 48

/-- R465: a block closes, and is submitted for signing. -/
def State.closeBlock (s : State) (w : Fin 2) (n : Nat) : State :=
  match (s.wing w).block n with
  | some b =>
    if b.state = 0 then
      let tail := if s.fld Reg.AU_LEDGER_STATUS.OPEN_BLOCK w = n then (s.wing w).chain else s.lastChain w b
      let s := s.setBlock w { b with state := 1, finalChain := tail, keySlot := s.fld Reg.AU_LEDGER_CTL.KEY_SLOT w }
      let s := s.setCocoon { s.cocoon with signQueue := s.cocoon.signQueue ++ [(w.val, n)] }
      s.addFld Reg.AU_LEDGER_STATUS.SIGN_PENDING w 1
    else s
  | none => s

/-- R465: the job is unloaded: every block of the wing that is open closes. -/
def State.closeBlocks (s : State) (w : Fin 2) : State :=
  (s.wing w).blocks.foldl (fun s b => s.closeBlock w b.number) s

/-- R465: the closed blocks of a job whose signatures are still to come, as the next job finds them. -/
def State.unsigned (s : State) (w : Fin 2) : List OldBlock :=
  match s.regionOfKind w 4 with
  | none => []
  | some r => ((s.wing w).blocks.filter (fun b => b.state == 1 && s.cocoon.signQueue.contains (w.val, b.number))).map
      (fun b => { number := b.number, keySlot := b.keySlot, head := s.blockHeader w b, place := r.base + s.blockAt w b.number })

/-- R465: a header of a closed block once it is signed. -/
def OldBlock.signed (b : OldBlock) (sig : BitVec 768) : List Byte :=
  b.head.take 35 ++ leBytes 1 2 ++ (b.head.drop 36).take 100 ++ (leBytes 96 sig.toNat).reverse

/-- R465: what the cocoon signs of it. -/
def OldBlock.digest (b : OldBlock) : BitVec 384 := sha384 ((b.head.take 35 ++ leBytes 1 0 ++ b.head.drop 36).take 132)

/-- R465: the signature is written back, where the header still stands. -/
def State.signOld (s : State) (w : Fin 2) (b : OldBlock) (sig : BitVec 768) : State :=
  if s.readRun w b.place 232 = b.head then s.enginePut w b.place (b.signed sig) else s

/-- R466: the slot of block `n` holds no other block of the job that is not exported. -/
def State.slotFree (s : State) (w : Fin 2) (n : Nat) : Bool :=
  let k := s.fld Reg.AU_LEDGER_CTL.NSLOTS w
  (s.wing w).blocks.all (fun b =>
    b.number == n || b.number % k != n % k || decide (b.number ≤ s.fld Reg.AU_LEDGER_EXPORT.BLOCK w))

/-- R466: the ledger holds the step back. -/
def State.ledgerHolds (s : State) (w : Fin 2) (step : Nat) : Bool :=
  step % blockSteps == 65535 && !s.slotFree w (step / blockSteps + 1)

/-- R466: the record of the present step would open a block whose slot is not free. -/
def State.recordWaits (s : State) (w : Fin 2) : Bool :=
  ((s.wing w).block (s.stepOf w / blockSteps)).isNone && !s.slotFree w (s.stepOf w / blockSteps)

end Sys2Proof.Machine
end

