-- ==== Sys2Proof/Machine/Boundary.lean ====
section
/-!
DEFINITION. The step boundary of the serving engine (R289, R418): commit (R426 to R430), audit, mirror, freeze,
acknowledgement, release (R519, R520, R522) and reclaim (R434).
-/
namespace Sys2Proof.Machine

/-! ### Tokens of a slot (R427 to R430) -/

/-- R427: how many drafts are accepted: `xs` are the samples of the entries, `ys` the drafts from the first draft on. -/
def acceptedCount : List (BitVec 32) → List (BitVec 32) → Nat
  | x :: xs, y :: ys => if y = x then acceptedCount xs ys + 1 else 0
  | _, _ => 0

/-- R429: draft length and rejection run after a step with `d` drafts of which `a` were accepted. -/
def draftPolicy (x : Slot) (d a : Nat) : Slot :=
  if d = 0 then x
  else if a = 0 then
    if x.rejRun + 1 = 4 then { x with dCur := 1, rejRun := 0 } else { x with rejRun := x.rejRun + 1 }
  else if a < d then { x with rejRun := 0 }
  else { x with rejRun := 0, dCur := min (x.dCur + 1) x.dReq }

/-- R430: the yielded tokens appended in order, up to the first that ends the request; the reason for ending, 0 for none. -/
def appendTokens (stop : BitVec 32) (maxNew : Nat) : Nat → List (BitVec 32) → List (BitVec 32) × Nat
  | _, [] => ([], 0)
  | new, t :: r =>
    if t = stop ∧ stop ≠ 0xFFFFFFFF then ([t], 1)
    else if maxNew ≤ new + 1 then ([t], 2)
    else let y := appendTokens stop maxNew (new + 1) r; (t :: y.1, y.2)

/-- R430: the slot after yielded tokens, and the tokens appended. `next` is its state when it goes on. -/
def takeTokens (x : Slot) (toks : List (BitVec 32)) (next : Nat) : Slot × List (BitVec 32) :=
  let y := appendTokens x.stopToken x.maxNew x.new toks
  let x := { x with new := x.new + y.1.length }
  if y.2 ≠ 0 then ({ x with state := slFinished, reason := y.2 }, y.1)
  else ({ x with state := next, len := x.len + y.1.length, lastToken := y.1.getLast?.getD x.lastToken }, y.1)

/-- R426, R435: a slot of the batch without a recorded cancel is updated; the tokens that its completion carries. -/
def commitSlot (pool : Nat) (x : Slot) (es : List (Nat × Entry)) (out : Nat → OutRec) : Slot × List (BitVec 32) :=
  match es with
  | [] => (x, [])
  | e :: _ =>
    if e.2.role = 0 then
      let n := es.length
      let x := { x with promptDone := x.promptDone + n, len := x.len + n }
      match es.find? (fun e => e.2.last) with
      | none => (x, [])
      | some l =>
        if x.kind = 0 then ({ x with state := slFinished, reason := 3 }, [])
        else
          let y := takeTokens x [(out l.1).sample] (if pool = 1 then slShipping else slDecode)
          if y.1.state = slShipping then (y.1, []) else y
    else
      let xs := es.map (fun e => (out e.1).sample)
      let ys := es.tail.map (fun e => (out e.1).draft)
      let a := acceptedCount xs ys
      let y := takeTokens x (xs.take (a + 1)) slDecode
      (draftPolicy y.1 ys.length a, y.2)

/-! ### Completions of a step (R518, R519) -/

/-- R519: the completion of a slot for a step. -/
def State.stepCompletion (s : State) (step n : Nat) (x : Slot) (es : List (Nat × Entry)) (toks : List (BitVec 32)) :
    Completion :=
  let ends := x.state == slFinished || x.state == slCancelled
  let toks := (x.first.toList ++ toks).take 8
  let scored := es.find? (fun e => e.2.last && (s.outRec 0 e.1).scored)
  let scores := ends && x.reason == 3
  { typ := 0, id := x.reqId, step := BitVec.ofNat 64 step
    firstTix := match es with | e :: _ => BitVec.ofNat 32 e.1 | [] => 0xFFFFFFFF
    firstPos := match es with | e :: _ => e.2.pos | [] => 0
    nent := es.length, slot := n
    status := if x.state = slCancelled then stCancelled else if ends && x.reason == 6 then stEcc else stOk
    code := if x.state = slCancelled then 5 else if ends then x.reason else 0
    decode := match es with | e :: _ => e.2.role != 0 | [] => false
    scores := scores, final := ends, ntok := if x.state = slCancelled then 0 else toks.length
    payload := if ends && x.reason == 4 then leBytes 2 x.takenBy.1 ++ leBytes 2 x.takenBy.2
               else if x.state = slCancelled then [] else toks.flatMap (fun t => leBytes 4 t.toNat)
    vector := x.vector, release := step
    scoreAddr := x.scoreAddr.toNat
    scoreBytes := if scores then
        (match scored with
         | some e => (s.scoreArea 0 e.1).take (4 * ((s.job.img.map (·.scores.toNat)).getD 0))
         | none => [])
      else [] }

/-! ### Item 1: the commit -/

/-- R419, R426, R432, R519: one slot at the commit of a step on a wing. -/
def State.commitOne (s : State) (w : Fin 2) (step : Nat) (e : Nat × Slot) : State :=
  let es := slotEntries (s.wing w).batch e.1
  let r := if e.2.cancel || e.2.state == slFinished then (e.2, []) else commitSlot (s.fld Reg.SV_JOB_CFG.POOL w) e.2 es (s.outRec w)
  let ends := r.1.state == slFinished || (r.1.state == slCancelled && !r.1.awaitShip)
  let x := { r.1 with reclaim := ends, first := if es.isEmpty then r.1.first else none }
  let c := s.stepCompletion step e.1 { r.1 with reclaim := ends } es r.2
  let s := s.setSlot w e.1 x
  if w = 0 ∧ (!es.isEmpty ∨ (ends ∧ !e.2.reclaim)) ∧ r.1.reason ≠ 255 then
    s.setWing 0 { s.wing 0 with stepCompl := (s.wing 0).stepCompl ++ [c] }
  else s

/-- R418 item 1, R413, R443: the commit point. -/
def State.commit (s : State) (w : Fin 2) : State :=
  let step := s.stepOf w
  let s := (s.ownSlots w).foldl (fun s e => s.commitOne w step e) s
  let s := s.writeAudit w
  let s := s.setReg (Reg.SV_COMMITTED.STEP.at w 0) (BitVec.ofNat 64 step)
  s.writeRegion w 2 0 (leBytes 8 step)

/-- R605: the wing has resumed ahead and executes the resumed step again. -/
def State.isAhead (s : State) (w : Fin 2) : Bool :=
  s.bit Reg.SV_RESTART.AHEAD w && s.fld Reg.SV_RESUME_STEP.STEP w == s.stepOf w

/-! ### Item 3: the freeze -/

/-- R299, R418, R421: every part is held: the token list and the spans of the coming step are written. -/
def State.freezeWhole (s : State) (w : Fin 2) : State :=
  let x := s.wing w
  if x.bnd.committed && !x.bnd.frozen && decide (s.fld Reg.SV_JOB_CFG.QCOUNT w ≤ x.parts.length) then
    let step := s.stepOf w + 1
    let s := s.setWing w { x with bnd := { x.bnd with frozen := true } }
    let s := s.writeRegion w 3 0 (listBytes x.nextBatch (s.listTokens w))
    s.writeSpans w step x.nextPages
  else s

/-- R421: the entries of intake module `q`'s part take their token indices. -/
def State.joinPart (s : State) (w : Fin 2) (q : Nat) (es : List (Nat × Entry)) (batch : Sparse Entry) : Sparse Entry :=
  let u := s.unitTokens w
  (es.filter (fun e => decide (e.1 < u))).foldl (fun b e => sset (fun _ => ({} : Entry)) b (q * u + e.1) e.2) batch

/-- R418, R421: a part of intake module `q` is held. -/
def State.holdPart (s : State) (w : Fin 2) (q : Nat) (es : List (Nat × Entry)) (clear : List (BitVec 14))
    (pages : List (Nat × List Nat)) : State :=
  let x := s.wing w
  let s := s.setWing w { x with nextBatch := s.joinPart w q es x.nextBatch, parts := nins q x.parts, nextPages := x.nextPages ++ pages }
  (clear.foldl (fun s n => s.setCancelBit w n.toNat false) s).freezeWhole w

/-- R423: the module's slots take their places. -/
def State.placeSlots (s : State) (w : Fin 2) (l : List (Nat × Slot)) : State :=
  l.foldl (fun s e => s.setSlot w e.1 e.2) s

/-- R305: the first granule of the prompts placed that cannot be read. -/
def State.promptBad (s : State) (f : Filling) : Option (Nat × Nat) :=
  (f.entries.filter (fun e => e.role == 0)).findSome? (fun e =>
    s.engineBad 0 3 (((s.wing 0).slot e.slot.toNat).promptAddr + 4 * e.pos.toNat) 4)

/-- R418 item 3, R423, R469: wing 0 of an intake module fixes its part and sends it; a replay run takes its parts from
the script (log entry 31). -/
def State.freezeOwn (s : State) : State :=
  if !s.bit Reg.SV_JOB_CFG.INTAKE 0 || s.bit Reg.AU_REPLAY.ENABLE 0 then s
  else
    let step := s.stepOf 0 + 1
    let f := s.fillPart step
    s.orStop 0 (s.promptBad f) <|
    let es := f.entries.zipIdx.map (fun p => (p.2, p.1))
    let pages := f.slots.map (fun e => (e.1, writtenGroups e.2 (f.entries.filter (fun x => x.slot.toNat == e.1))))
    let q := s.fld Reg.SV_JOB_CFG.QINDEX 0
    let x := s.wing 0
    let clear := x.clearNext
    let s := s.setWing 0 { x with clearNext := [], engineOut := x.engineOut ++ [.part q step es clear pages] }
    (s.placeSlots 0 f.slots).holdPart 0 q es clear pages

/-! ### Item 2: the mirror (R302, R303, R418) -/

/-- R303: the base of the partner's mirror region of a wing. -/
def State.mirrorBase (s : State) (w : Fin 2) : Option Nat :=
  s.job.img.bind (fun i => (i.partnerMirror.find? (fun e => e.1 == w)).map (·.2.toNat))

/-- R302: where the partner's mirror region, which begins at `base`, holds the byte at an offset of a region of this wing: images in
ascending order of region numbers. -/
def State.imageAt (s : State) (w : Fin 2) (base off : Nat) : Option Nat :=
  match s.regionAt w off with
  | some r =>
    if mirroredKind r.kind then
      let before := (((List.range r.num).map (s.hbmRegion w)).filter (fun q => q.valid && mirroredKind q.kind)).map (·.size)
      some (base + 2097152 + before.sum + (off - r.base))
    else none
  | none => none

/-- R303, R412, R418: the packets of a mirror on channel 15: every changed block, and last the header with the step and the wing's
chip number, flagged. -/
def State.mirrorPackets (s : State) (w : Fin 2) : List FPacket :=
  match s.mirrorBase w with
  | none => []
  | some base =>
    let chip := s.fld Reg.CM_MIRROR_CTL.PARTNER_CHIP w
    (s.wing w).dirty.filterMap (fun b => (s.imageAt w base (512 * b)).map (fun a =>
      s.enginePacket w 15 chip a false (s.readRun w (512 * b) 512))) ++
      [s.enginePacket w 15 chip base true (leBytes 8 (s.stepOf w) ++ leBytes 2 (s.chip w))]

/-- R418 item 2, R517: the step is mirrored, and the mirror carries the cancels resolved so far. What cannot be read stops the job. -/
def State.mirror (s : State) (w : Fin 2) : State :=
  let x := s.wing w
  s.orStop w (x.dirty.findSome? (fun b => s.unreadable w (512 * b) 512))
    ((s.setWing w { x with
      dirty := [], bnd := { x.bnd with mirrorSent := true }
      cancels := x.cancels.map (fun c => { c with carried := true }) }).offerAll w (s.mirrorPackets w))

/-- R347, R418: the message of the mirror's header has not completed, or has not left the wing. -/
def State.mirrorOpen (s : State) (w : Fin 2) : Bool :=
  let x := s.wing w
  let partner (c : BitVec 16) : Bool := c.toNat == s.fld Reg.CM_MIRROR_CTL.PARTNER_CHIP w
  x.flagTx.any (fun f => f.chan == 15 && f.dstKind == 2 && partner f.chip && !f.openMsgs.isEmpty) ||
    x.fabricWait.any (fun p => p.chan == 15 && p.kind == 0xC && partner p.dstChip)

/-! ### Item 4: acknowledgement, reclaim, release -/

/-- R434: slots FINISHED or CANCELLED at the commit point are reclaimed. -/
def State.reclaim (s : State) (w : Fin 2) : State :=
  let l := (s.ownSlots w).filter (fun e => e.2.reclaim)
  let s := l.foldl (fun s e => s.setSlot w e.1 {}) s
  let x := s.wing w
  s.setWing w { x with clearNext := if w = 0 then x.clearNext ++ l.map (fun e => BitVec.ofNat 14 e.1) else x.clearNext }

/-- R411: after its commit, wing 1 applies what wing 0 has decided meanwhile. -/
def State.applyDecided (s : State) : State :=
  let l := (s.wing 1).decided
  l.foldl (fun s e => s.setSlot 1 e.1 e.2) (s.setWing 1 { s.wing 1 with decided := [] })

/-- R411: after wing 0's commit, wing 1, which committed first, takes the slots decided on in between; those whose step is complete on
wing 1 are reclaimed there. -/
def State.copyLate (s : State) : State :=
  let l := (s.wing 0).late
  let s := l.foldl (fun s n => s.setSlot 1 n ((s.wing 0).slot n)) (s.setWing 0 { s.wing 0 with late := [] })
  if (s.wing 1).bnd.acked then s.reclaim 1 else s

/-- R522: after the last completion of a release, every completion vector with unsignalled entries sends its message. -/
def flushVectors (l : Sparse MsixVector) : Sparse MsixVector :=
  smap (fun _ => {}) (fun n v => if 2 ≤ n ∧ v.count ≠ 0 then v.send else v) l

/-- R418, R443: the release has been written whole: RELEASED takes its step. -/
def State.settleRelease (s : State) : State :=
  match s.host.releasing with
  | none => s
  | some step =>
    if s.host.waiting.any (fun c => decide (c.release ≠ 0) && decide (c.release ≤ step)) then s
    else
      let s := s.setHost { s.host with releasing := none, vectors := flushVectors s.host.vectors }
      [0, 1].foldl (fun s (w : Fin 2) =>
        (s.setReg (Reg.SV_RELEASED.STEP.at w 0) (BitVec.ofNat 64 step)).writeRegion w 2 8 (leBytes 8 step)) s

/-- R517, R519: the completions of a step, then those of the cancels that its mirror carries. -/
def State.releaseStep (s : State) (step : Nat) : State :=
  let x := s.wing 0
  let carried := x.cancels.filter (·.carried)
  let cs := x.stepCompl ++ carried.map (fun c =>
    { typ := 1, id := c.tag, status := c.status, code := 2, vector := c.vector, release := step })
  let s := s.setWing 0 { x with stepCompl := [], cancels := x.cancels.filter (fun c => !c.carried) }
  if step ≤ s.fld Reg.SV_RELEASED.STEP 0 then s
  else
    (s.setHost { s.host with releasing := some step, waiting := s.host.waiting ++ cs }).pump.settleRelease

/-- R418, R466, R520: the wing's part of the commit is complete: the engine reports the step, unless an earlier release
or the ledger holds it back. -/
def State.tryReport (s : State) (w : Fin 2) : State :=
  let x := s.wing w
  let step := s.stepOf w
  if !s.loaded w || !x.bnd.acked || !x.bnd.frozen || x.bnd.reported then s
  else if w = 0 ∧ s.host.waiting.any (fun c => decide (c.release ≠ 0) && decide (c.release < step)) then s
  else if s.ledgerHolds w step then s.setFld Reg.AU_LEDGER_STATUS.FULL w 1
  else
    ((s.setFld Reg.AU_LEDGER_STATUS.FULL w 0).setWing w { x with bnd := { x.bnd with reported := true } }).stepDoneWrite w step

/-- R35, R418: the step is acknowledged on both wings. -/
def State.bothMirrored (s : State) (step : Nat) : Bool := bothWings.all (fun w => decide (step ≤ s.fld Reg.SV_MIRRORED.STEP w))

/-- R35, R418, R434, R465: item 4 is complete on the wing; the release follows when it is complete on both. -/
def State.acknowledged (s : State) (w : Fin 2) : State :=
  let step := s.stepOf w
  let x := s.wing w
  let s := s.setWing w { x with bnd := { x.bnd with acked := true } }
  let s := s.setReg (Reg.SV_MIRRORED.STEP.at w 0) (BitVec.ofNat 64 step)
  let s := if step % blockSteps = 65535 then s.closeBlock w (step / blockSteps) else s
  let s := s.reclaim w
  let s := s.tryReport w
  if s.bothMirrored step then s.releaseStep step else s

/-- R418: item 4 is complete when items 2 and 3 are and the acknowledgement is in. -/
def State.settleItem4 (s : State) (w : Fin 2) : State :=
  let b := (s.wing w).bnd
  if b.ackIn && b.frozen && !b.acked then s.acknowledged w else s

/-- R347, R418: the source router has reported the COMPLETE of the message with the mirror header. -/
def State.mirrorAck (s : State) (w : Fin 2) : State :=
  let x := s.wing w
  if s.loaded w && x.bnd.mirrorSent && !x.bnd.ackIn && !s.mirrorOpen w then
    (s.setWing w { x with bnd := { x.bnd with ackIn := true } }).settleItem4 w
  else s

/-! ### The boundary -/

/-- R289: stores that an END of the step must wait for. -/
def State.storesOpen (s : State) (w : Fin 2) : Bool :=
  (s.jobTiles w).any (fun t => (s.tile ⟨w, BitVec.ofNat 10 t⟩).stores.any (fun e =>
    decide (e.2.state = .inFlight) && e.2.beforeEnd))

/-- R289: a store of the step that completed with an error: its status and stack. -/
def State.storeError (s : State) (w : Fin 2) : Option (Nat × Nat) :=
  (s.jobTiles w).findSome? (fun t =>
    ((s.tile ⟨w, BitVec.ofNat 10 t⟩).stores.find? (fun e =>
      decide (e.2.state = .completed) && e.2.beforeEnd && decide (e.2.status ≠ stOk))).map
        (fun e => (e.2.status, hbmStack e.2.off)))

/-- R605: a wing that is ahead checks its outputs and commits nothing. -/
def State.boundaryAhead (s : State) (w : Fin 2) : State :=
  let step := s.stepOf w
  if digestBytes (s.outputDigest w) ≠ s.recordedOutput w step then s.stopHere w stPlanMismatch 6 3
  else
    let x := s.wing w
    let s := s.setWing w { x with bnd := { x.bnd with committed := true } }
    let s := if s.fld Reg.SV_MIRRORED.STEP w < step then s.mirror w
      else s.setWing w { s.wing w with bnd := { (s.wing w).bnd with acked := true } }
    ((if w = 0 then s.resolveLate.freezeOwn else s).freezeWhole w).tryReport w

/-- R411, R418, R432: commit, what waited for the commit lock, mirror and freeze. -/
def State.boundaryCommit (s : State) (w : Fin 2) : State :=
  let s := s.commit w
  let x := s.wing w
  let s := s.setWing w { x with bnd := { x.bnd with committed := true } }
  let s := if w = 0 then s.copyLate.resolveLate else s.applyDecided
  let s := if w = 0 then (s.mirror w).offerHandoffs else s.mirror w
  (if w = 0 then s.freezeOwn else s).freezeWhole w

/-- R293, R305: the first granule that the commit has to read and cannot: output records, score areas, slot records. -/
def State.commitBad (s : State) (w : Fin 2) : Option (Nat × Nat) :=
  let n := s.listTokens w
  let scores := ((List.range n).filter (fun t => (s.outRec w t).scored)).map (fun t => (8, s.scoreOff w t, 512))
  let reads := [(8, 0, 16 * n), (2, 0, 16)] ++ (s.ownSlots w).map (fun e => (2, 4096 + 256 * e.1, 256)) ++ scores
  reads.findSome? (fun r => s.engineBad w r.1 r.2.1 r.2.2)

/-- R289, R418, R466: the boundary after the wing's present step. -/
def State.boundary (s : State) (w : Fin 2) : State :=
  if !s.loaded w || !s.allEnded w || s.storesOpen w || (s.wing w).bnd.committed then s
  else match s.storeError w with
    | some e => s.stopHere w e.1 3 e.2
    | none =>
      s.orStop w (s.commitBad w) (
        if s.isAhead w then s.boundaryAhead w
        else if s.recordWaits w then s.setFld Reg.AU_LEDGER_STATUS.FULL w 1
        else s.boundaryCommit w)

/-! ### Commands -/

/-- STEP_BOUNDARY (R245, R418): the engine also looks after the publications that wait for their rows. -/
def execStepBoundary (w : Fin 2) (s : State) : Res := .next (s.boundary w).settlePublications

/-- R469, R470: a part of the scripted token list of the first step of a replay run; the list is frozen with its last part. -/
def State.holdFirst (s : State) (w : Fin 2) (q : Nat) (es : List (Nat × Entry)) : State :=
  let x := s.wing w
  let batch := s.joinPart w q es x.nextBatch
  let parts := nins q x.parts
  if s.fld Reg.SV_JOB_CFG.QCOUNT w ≤ parts.length then
    (s.setWing w { x with batch := batch, nextBatch := [], parts := [] }).writeRegion w 3 0 (listBytes batch (s.listTokens w))
  else s.setWing w { x with nextBatch := batch, parts := parts }

/-- R469: a replay run has not yet got this part of the list of its present step. -/
def State.scriptFirst (s : State) (w : Fin 2) (q step : Nat) : Bool :=
  let x := s.wing w
  s.loaded w && s.bit Reg.AU_REPLAY.ENABLE w && step == s.stepOf w && x.batch.isEmpty && x.endedTiles.isEmpty &&
    !x.bnd.committed && decide (q < s.fld Reg.SV_JOB_CFG.QCOUNT w) && !x.parts.contains q

/-- R414, R423: a slot takes its place in the batch of a step. -/
def placed (step : Nat) (x : Slot) : Slot :=
  { x with lastStep := step, state := if x.state = slQueued then slPrefill else x.state }

/-- R411: the module's own part reaches wing 1: the slots that it names take their places in wing 1's table, and in the decisions
that wait for wing 1's commit. -/
def State.placeOther (s : State) (step : Nat) (named : Nat → Bool) : State :=
  let s := s.placeSlots 1 (((s.ownSlots 1).filter (fun e => named e.1)).map (fun e => (e.1, placed step e.2)))
  let x := s.wing 1
  s.setWing 1 { x with decided := x.decided.map (fun e => if named e.1 then (e.1, placed step e.2) else e) }

/-- BATCH_PART (R418, R421, R434, R469): a part for the coming step of the job. The module's own part reaches wing 1's table
too. -/
def execBatchPart (w : Fin 2) (q : BitVec 11) (step : BitVec 64) (part : List (BitVec 15 × Entry))
    (clear : List (BitVec 14)) (pages : List (BitVec 14 × List (BitVec 32))) (s : State) : Res :=
  if s.scriptFirst w q.toNat step.toNat then .next (s.holdFirst w q.toNat (part.map (fun e => (e.1.toNat, e.2))))
  else if !s.loaded w ∨ step.toNat ≠ s.stepOf w + 1 ∨ s.fld Reg.SV_JOB_CFG.QCOUNT w ≤ q.toNat ∨ (s.wing w).parts.contains q.toNat
  then .next s
  else
    let own := w = 1 ∧ s.bit Reg.SV_JOB_CFG.INTAKE 0 ∧ s.fld Reg.SV_JOB_CFG.QINDEX 0 = q.toNat
    let named (n : Nat) : Bool := part.any (fun p => p.2.role != 3 && p.2.slot.toNat == n)
    let s := if own then s.placeOther step.toNat named else s
    .next (((s.holdPart w q.toNat (part.map (fun e => (e.1.toNat, e.2))) clear
      (pages.map (fun e => (e.1.toNat, e.2.map (·.toNat))))).settleItem4 w).tryReport w)

/-- MIRROR_ACK (R418 item 4, R443). -/
def execMirrorAck (w : Fin 2) (s : State) : Res := .next (s.mirrorAck w)

/-- ACK_TIMEOUT (R418): a wait of item 3 or item 4 exceeds ACK_US. -/
def execAckTimeout (w : Fin 2) (s : State) : Res :=
  let b := (s.wing w).bnd
  .next (if s.loaded w && b.committed && !(b.acked && b.frozen) then s.stopHere w stTimeout 6 4 else s)

end Sys2Proof.Machine
end

