-- ==== Sys2Proof/Machine/Serving.lean ====
section
/-!
DEFINITION. The commands of the serving engine: SUBMIT (R415, R416), REPAIR_RELOAD, the command ring (R512 to R517), the messages of
other engines (R431, R436), arms (R246, R251), and the completion ring's own events (R520, R522, R530).
-/
namespace Sys2Proof.Machine

/-! ### SUBMIT (R415, R416, R435, R516, R613) -/

/-- R516: reserved or out-of-range operands of a SUBMIT: KIND, SCORE_ADDR, and a prompt that the prompt area of the region
of kind 3 does not hold. -/
def State.submitMalformed (s : State) (a : SubmitArgs) : Bool :=
  decide (1 < a.kind.toNat) || decide (a.scoreAddr.toNat % 512 ≠ 0) || ((a.kind == 0) == (a.scoreAddr == 0)) ||
    (match s.regionOfKind 0 3 with
     | some r => decide (a.promptOff.toNat < r.base + s.promptArea) ||
         decide (r.base + r.size < a.promptOff.toNat + 4 * a.promptLen.toNat)
     | none => true)

/-- R415 check 2. -/
def State.submitLimits (s : State) (a : SubmitArgs) : Bool :=
  decide (1 ≤ a.promptLen.toNat) &&
    decide (a.promptLen.toNat + a.maxNew.toNat + a.dReq.toNat ≤ s.fld Reg.SV_LIMITS.LMAX 0) &&
    decide (a.dReq.toNat ≤ s.fld Reg.SV_STEP_CFG.D_MAX 0) &&
    (if a.kind = 1 then decide (1 ≤ a.maxNew.toNat) else decide (a.maxNew.toNat = 0))

/-- R415: the first check that fails, or the slot and page groups that the request takes. -/
def State.submitCheck (s : State) (a : SubmitArgs) : Except Nat (Nat × List Nat) :=
  if s.submitMalformed a then .error stPlanMismatch
  else if !s.bit Reg.SV_JOB_CFG.INTAKE 0 || s.fld Reg.SV_JOB_CFG.POOL 0 == 2 then .error stPlanMismatch
  else if (s.slotOfReq a.reqId).isSome then .error stPlanMismatch
  else if !s.submitLimits a then .error stPlanMismatch
  else match s.freeSlot with
    | none => .error stBudgetRefused
    | some n => match s.takeGroups (groupsFor (a.promptLen.toNat + a.maxNew.toNat + a.dReq.toNat)) with
      | none => .error stBudgetRefused
      | some g => .ok (n, g)

/-- R415, R416: the record of an admitted request. -/
def State.takeIn (s : State) (vector n : Nat) (groups : List Nat) (a : SubmitArgs) : State :=
  let base := match s.regionOfKind 0 3 with | some r => r.base | none => 0
  let x : Slot :=
    { reqId := a.reqId, state := slQueued, kind := a.kind.toNat, dReq := a.dReq.toNat, dCur := a.dReq.toNat, seed := a.seed
      promptLen := a.promptLen.toNat, maxNew := a.maxNew.toNat, stopToken := a.stopToken, seq := (s.wing 0).nextSeq
      promptAddr := a.promptOff.toNat - base, pageList := s.pageListAt n, groups := groups
      vector := cmdVector vector, scoreAddr := a.scoreAddr }
  let y := s.wing 0
  ((s.setWing 0 { y with nextSeq := y.nextSeq + 1 }).setSlotBoth n x).writePageList n groups

/-- R415, R517, R613: SUBMIT served. -/
def State.serveSubmit (s : State) (vector : Nat) (tag : BitVec 64) (a : SubmitArgs) : State :=
  match s.slotOfReq a.reqId with
  | some e =>
    if e.2.promptHold ∧ !s.submitMalformed a then
      (s.setSlotBoth e.1 { e.2 with promptHold := false }).cmdCompletion vector 1 tag stOk
    else s.cmdCompletion vector 1 tag stPlanMismatch
  | none =>
    match s.submitCheck a with
    | .error st => s.cmdCompletion vector 1 tag st
    | .ok r => s.takeIn vector r.1 r.2 a

/-! ### REPAIR_RELOAD (R516, R517, R590) -/

/-- R293, R305, R516, R517, R590: REPAIR_RELOAD served. -/
def State.serveRepair (s : State) (vector : Nat) (tag : BitVec 64) (a : RepairArgs) : State :=
  if 1 < a.wing.toNat ∨ a.offset.toNat % 2048 ≠ 0 then s.cmdCompletion vector 4 tag stPlanMismatch
  else
    let w : Fin 2 := if a.wing = 0 then 0 else 1
    let inKind5 := match s.regionAt w a.offset.toNat with | some r => r.kind == 5 | none => false
    if !inKind5 then s.cmdCompletion vector 4 tag stWindowViolation
    else if ((s.job.img.map (·.enc)).getD false) && !a.tagOk then s.cmdCompletion vector 4 tag stAuthFailed
    else if s.stackFailed w (hbmStack a.offset.toNat) then s.cmdCompletion vector 4 tag stLinkLost
    else (s.hbmStore w a.offset.toNat (padTo 2048 a.data)).cmdCompletion vector 4 tag stOk

/-! ### The command ring (R512, R514) -/

/-- R469: the engine of a replay run reads no command ring. -/
def State.replayRun (s : State) : Bool := s.bit Reg.AU_REPLAY.ENABLE 0 && s.loaded 0

/-- R516: one command of the ring served. -/
def State.serve (s : State) (vector : Nat) (tag : BitVec 64) : RingCmd → State
  | .submit a => s.serveSubmit vector tag a
  | .cancel reqId late => s.serveCancel vector tag reqId late
  | .publish a => s.servePublish vector tag a
  | .repair a => s.serveRepair vector tag a
  | .reserved op => s.cmdCompletion vector op.toNat tag stPlanMismatch

/-- R418, R520: what has room is written, and what waited for it goes on. -/
def State.servePump (s : State) : State := s.pump.settleRelease.tryReport 0

/-- R514: entries taken in index order up to the first whose PHASE does not match. -/
def State.takeEntries (s : State) : List RingEntry → State
  | [] => s
  | e :: r =>
    let i := s.fld Reg.HI_RING_STATUS.CMD_HEAD 0
    if (ringPhase i (2 ^ s.fld Reg.HI_RING_CTL.CMD_LOG2 0) == 1) = e.phase then
      let s := s.setFld Reg.HI_RING_STATUS.CMD_HEAD 0 ((i + 1) % 2 ^ 32)
      State.takeEntries (s.serve e.vector.toNat e.tag e.cmd) r
    else s

/-- R512, R514, R529: CMD_HEAD in the control page. -/
def State.writeHead (s : State) : State :=
  let page := s.fld Reg.HI_CTRL_PAGE.ADDR 0 / 4096 * 4096
  s.setHost { s.host with hostMem := memWrite s.host.hostMem page (leBytes 4 (s.fld Reg.HI_RING_STATUS.CMD_HEAD 0)) }

/-- R514, R520, R523: CPL_HEAD as the poll reads it; entries below it are consumed. -/
def State.readCplHead (s : State) (head : Nat) : State :=
  let tail := s.fld Reg.HI_RING_STATUS.CPL_TAIL 0
  s.setHost { s.host with
    cplHead := head
    written := s.host.written.filter (fun e => decide ((tail + 2 ^ 32 - e.1) % 2 ^ 32 ≤ (tail + 2 ^ 32 - head) % 2 ^ 32)) }

/-- R245, R514: one poll of the hawk cores; publications whose rows have landed meanwhile are armed. -/
def State.poll (s : State) (entries : List RingEntry) (cplHead : Nat) : State :=
  if !s.bit Reg.HI_RING_CTL.ENABLE 0 then s
  else
    let s := (s.readCplHead cplHead).servePump.settlePublications
    if s.replayRun then s
    else
      let before := s.fld Reg.HI_RING_STATUS.CMD_HEAD 0
      let s := s.takeEntries (entries.take 32)
      if s.fld Reg.HI_RING_STATUS.CMD_HEAD 0 = before then s else s.writeHead

/-- R523, R530: a write of `HI_RING_CTL`. -/
def State.ringCtl (s : State) (v : Word) : State :=
  let was := s.bit Reg.HI_RING_CTL.ENABLE 0
  let on := getBits v 0 1
  let s := if was then s
    else (s.setFld Reg.HI_RING_CTL.CMD_LOG2 0 (getBits v 1 5)).setFld Reg.HI_RING_CTL.CPL_LOG2 0 (getBits v 6 5)
  let s := if getBits v 13 1 = 1 then s.setFld Reg.HI_RING_CTL.RING_FAULT 0 0 else s
  let s := (s.setFld Reg.HI_RING_CTL.ENABLE 0 on).setFld Reg.HI_RING_CTL.RUNNING 0 on
  if on = 1 ∧ !was then
    let h := s.host
    ((s.setHost { h with waiting := h.written.map (·.2) ++ h.waiting, written := [], cplHead := 0 }).setFld
      Reg.HI_RING_STATUS.CPL_TAIL 0 0).servePump
  else s

/-- R520: the oldest waiting event, without it. -/
def dropEvent : List Completion → Option (List Completion)
  | [] => none
  | c :: r => if c.typ = 2 then some r else (dropEvent r).map (c :: ·)

/-! ### Commands -/

/-- SUBMIT (R415, R435, R517). -/
def execSubmit (vector : BitVec 8) (tag : BitVec 64) (a : SubmitArgs) (s : State) : Res :=
  .next (if s.replayRun then s else s.serveSubmit vector.toNat tag a)

/-- CANCEL (R417, R432, R433). -/
def execCancel (vector : BitVec 8) (tag reqId : BitVec 64) (late : Bool) (s : State) : Res :=
  .next (if s.replayRun then s else s.serveCancel vector.toNat tag reqId late)

/-- PUBLISH_TABLE (R517). -/
def execPublishTable (vector : BitVec 8) (tag : BitVec 64) (a : PublishArgs) (s : State) : Res :=
  .next (if s.replayRun then s else s.servePublish vector.toNat tag a)

/-- REPAIR_RELOAD (R516, R517). -/
def execRepairReload (vector : BitVec 8) (tag : BitVec 64) (a : RepairArgs) (s : State) : Res :=
  .next (if s.replayRun then s else s.serveRepair vector.toNat tag a)

/-- COMMAND_POLL (R514). -/
def execCommandPoll (entries : List RingEntry) (cplHead : BitVec 32) (s : State) : Res := .next (s.poll entries cplHead.toNat)

/-- HEARTBEAT (R512). -/
def execHeartbeat (s : State) : Res :=
  if s.bit Reg.HI_RING_CTL.ENABLE 0 then
    let page := s.fld Reg.HI_CTRL_PAGE.ADDR 0 / 4096 * 4096
    .next (s.setHost { s.host with hostMem := memWrite s.host.hostMem (page + 16) (leBytes 8 (s.timeOf 0)) })
  else .next s

/-- CANCEL_FORWARD (R431). -/
def execCancelForward (w : Fin 2) (slot : BitVec 14) (s : State) : Res := .next (s.setCancelBit w slot.toNat true)

/-- HANDOFF (R436). -/
def execHandoff (a : HandoffArgs) (s : State) : Res := .next (s.takeHandoff a)

/-- HANDOFF_REPLY (R436). -/
def execHandoffReply (reqId : BitVec 64) (status : BitVec 8) (chip : BitVec 16) (slot : BitVec 14)
    (groups : List (BitVec 32)) (s : State) : Res :=
  .next (s.handoffReplied reqId status.toNat chip.toNat slot.toNat (groups.map (·.toNat)))

/-- SHIP_DONE (R436, R437). -/
def execShipDone (slot : BitVec 14) (cancelled : Bool) (s : State) : Res := .next (s.shipDone slot.toNat cancelled)

/-- R466, R477: the write of `AU_LEDGER_EXPORT`, and a step, or the commit of one, that waited for it. -/
def State.exportBlock (s : State) (w : Fin 2) (v : Word) : State :=
  let waits := s.bit Reg.AU_LEDGER_STATUS.FULL w && !(s.wing w).bnd.committed
  let s := s.setFld Reg.AU_LEDGER_EXPORT.BLOCK w (getBits v 0 48)
  if waits then (s.setFld Reg.AU_LEDGER_STATUS.FULL w 0).boundary w else s.tryReport w

/-- AU_LEDGER_EXPORT (R466, R477). -/
def execAuLedgerExport (w : Fin 2) (value : BitVec 64) (s : State) : Res := .next (s.whenUp (s.exportBlock w value))

/-- EVENT_DROP (R520): the oldest event has waited for 1 ms. -/
def execEventDrop (s : State) : Res :=
  match dropEvent s.host.waiting with
  | some l => .next ((s.setHost { s.host with waiting := l }).addFld Reg.HI_RING_CTL.EVT_LOST 0 1)
  | none => .next s

/-- MSIX_COALESCE_TIMER (R522). -/
def execMsixCoalesceTimer (v : BitVec 6) (s : State) : Res :=
  let x := s.host.vector v.toNat
  if 2 ≤ v.toNat ∧ x.count ≠ 0 then .next (s.setHost (s.host.setVector v.toNat x.send)) else .next s

/-- MSIX_UNMASK (R522). -/
def execMsixUnmask (v : BitVec 6) (s : State) : Res :=
  let x := s.host.vector v.toNat
  .next (s.setHost (s.host.setVector v.toNat
    { x with masked := false, pending := false, sent := if x.pending then x.sent + 1 else x.sent }))

/-- RING_ENABLE (R523, R530): a write of `HI_RING_CTL`. -/
def execRingEnable (value : BitVec 64) (s : State) : Res := .next (s.whenUp (s.ringCtl value))

/-- PUB_ARM (R246, R249). -/
def execPubArm (w : Fin 2) (set : BitVec 3) (tie : Bool) (s : State) : Res := 
  .next (s.whenUp ((s.countTdc w tie).pubArm w set.toNat))

/-- PUB_CANCEL (R249, R251). -/
def execPubCancel (w : Fin 2) (set : BitVec 3) (tie : Bool) (s : State) : Res :=
  .next (s.whenUp ((s.countTdc w tie).pubCancel w set.toNat))

end Sys2Proof.Machine
end

