-- ==== Sys2Proof/Machine/Cocoon.lean ====
section
/-!
DEFINITION. The cocoon (17): the mailbox (R575 to R578), limited changes and the OTP log (R579 to R582), instar copies
(R583 to R587), chrysalis images (R569 to R571), ledger signing (R465), and the SPDM responder (R574).
-/
namespace Sys2Proof.Machine

/-! ### Services, randomness, owner slots -/

/-- R566, R567: the cocoon offers its services once the self-tests have passed. -/
def State.cocoonUp (s : State) : Bool := s.bit Reg.SC_BOOT_STATUS.KAT_OK 0

/-- R567: the entropy source is healthy. -/
def State.entropyOk (s : State) : Bool := s.bit Reg.SC_BOOT_STATUS.ENTROPY_OK 0

/-- R566: the number of the DRBG's next request, which it serves; it reseeds every 2^20 requests. -/
def State.draw (s : State) : Nat × State :=
  let c := s.cocoon
  let n := c.draws + 1
  (c.draws, s.setCocoon { c with draws := n, reseeds := if n % 2 ^ 20 = 0 then c.reseeds + 1 else c.reseeds })

/-- R579: owner key slot `k` is written and not revoked. -/
def State.slotGood (s : State) (k : Nat) : Bool :=
  decide (k < 4) && (s.fld Reg.SC_OTP_STATE.SLOT_WRITTEN 0).testBit k && !(s.fld Reg.SC_OTP_STATE.SLOT_REVOKED 0).testBit k

/-- R579: the fused hash of owner key slot `k`. -/
def State.ownerHash (s : State) (k : Nat) : BitVec 384 := sget (fun _ => 0) s.cocoon.ownerHash k

/-! ### The mailbox (R575 to R577) -/

/-- R575, R595: a request completes: its response, `SC_MB_STATUS`, and MSI-X vector 1. -/
def State.mbReply (s : State) (st : Nat) (data : List Byte := []) : State :=
  let r := leBytes 1 st ++ List.replicate 3 0 ++ leBytes 4 (8 + data.length) ++ data
  let s := s.setCocoon { s.cocoon with response := r }
  let s := s.setFld Reg.SC_MB_STATUS.BUSY 0 0
  let s := s.setFld Reg.SC_MB_STATUS.DONE 0 1
  let s := s.setFld Reg.SC_MB_STATUS.STATUS 0 st
  (s.setFld Reg.SC_MB_STATUS.RESP_LEN 0 r.length).signal 1

/-- R570: in recovery the mailbox accepts only CHRYSALIS_WRITE and the read-only commands. -/
def State.mailbox (s : State) (inRecovery : Bool) (k : State → State) : State :=
  if !s.cocoonUp then s
  else if s.bit Reg.SC_BOOT_STATUS.RECOVERY 0 && !inRecovery then s.mbReply stPlanMismatch
  else k s

/-- R576: the signed request verifies. -/
def State.signedOk (s : State) (g : Signed) : Bool :=
  s.slotGood g.slot.toNat && s.ownerHash g.slot.toNat == g.keyHash && g.sigOk && s.cocoon.nonce.isSome

/-- R576, R577: a signed request: a malformed one is refused first, and the nonce is consumed whatever the outcome. -/
def State.signedRequest (s : State) (g : Signed) (malformed : Bool) (k : State → State) : State :=
  s.mailbox false (fun s =>
    let t := s.setCocoon { s.cocoon with nonce := none }
    if malformed then t.mbReply stPlanMismatch
    else if s.signedOk g then k t else t.mbReply stAuthFailed)

/-! ### The OTP log (R580) -/

/-- An entry's bytes: KIND, SLOT, OLD, NEW, STATE (log entry 47). -/
def otpBytes (e : OtpEntry) : List Byte := [e.kind, e.slot, e.old, e.new, e.state].map (BitVec.ofNat 8)

def otpDigest (l : List OtpEntry) : BitVec 384 := sha384 (l.flatMap otpBytes)

/-! ### Instar copies (R583 to R587) -/

/-- R584: the bytes of the owner part. -/
def instarOwner (i : Instar) : List Byte :=
  leBytes 8 i.ownerVer.toNat ++ leBytes 8 i.serial.toNat ++ leBytes 8 i.entries.length ++
    i.entries.flatMap (fun e => leBytes 4 (if e.1 then 1 else 0) ++ leBytes 4 e.2.1 ++ leBytes 8 e.2.2.toNat)

/-- R584: the bytes of the module part. -/
def instarModule (i : Instar) : List Byte :=
  (List.range 24).map (fun b => i.codes.getD b 0) ++ leBytes 4 i.otpCount.toNat ++ digestBytes i.otpDigest

/-- R583: DIGEST, over bytes 0 to 15 and the parts. -/
def instarDigest (i : Instar) : BitVec 384 :=
  sha384 (leBytes 4 0x54534E49 ++ leBytes 4 i.seq.toNat ++ leBytes 4 i.length.toNat ++
    leBytes 4 (instarOwner i).length ++ instarOwner i ++ instarModule i)

/-- R20, R584: the register has a cfg field. -/
def RegRow.hasCfg (r : RegRow) : Bool := r.fields.any (fun f => f.tok == .cfg)

/-- R505: the row of the register at an offset of a wing; HI_ and SC_ lie on wing 0 only, and a tile block must be that of
a tile the wing has. -/
def State.rowAt (s : State) (w : Fin 2) (off : Nat) : Option (Block × Nat × RegRow) :=
  match locate off with
  | none => none
  | some (b, o) =>
    if w = 1 ∧ (b = .hi ∨ b = .sc ∨ b = .mb) then none
    else if b = .tile ∧ s.tileLive w (off % 0x1000000 / 0x2000) = false then none
    else (b.row? o).map (fun r => (b, o, r))

/-- R584: every entry names a register with a cfg field. -/
def State.entriesOk (s : State) (i : Instar) : Bool :=
  i.entries.all (fun e =>
    match s.rowAt (if e.1 then 1 else 0) e.2.1 with
    | some r => r.2.2.hasCfg
    | none => false)

/-- R585: a copy is valid. -/
def State.instarValid (s : State) (i : Instar) : Bool :=
  i.magicOk && decide (256 ≤ i.length.toNat) && decide (i.length.toNat ≤ 65536) && i.digestOk && i.moduleTagOk &&
    s.slotGood i.ownerSlot.toNat && i.ownerSigOk && (i.serial == 0 || i.serial == Config.serial) && s.entriesOk i

def State.validOpt (s : State) (i : Option Instar) : Bool := match i with | some i => s.instarValid i | none => false

/-- R585. -/
def newer (a b : BitVec 32) : Bool := decide (0 < (a - b).toNat) && decide ((a - b).toNat < 2 ^ 31)

/-- R585: which copy is newest among the valid ones: 0 none, 1 A, 2 B. -/
def State.newestCopy (s : State) : Nat :=
  let c := s.cocoon
  match s.validOpt c.instarA, s.validOpt c.instarB with
  | true, true => if newer ((c.instarB.map (·.seq)).getD 0) ((c.instarA.map (·.seq)).getD 0) then 2 else 1
  | true, false => 1
  | false, true => 2
  | false, false => 0

def State.newestInstar (s : State) : Option Instar :=
  match s.newestCopy with | 1 => s.cocoon.instarA | 2 => s.cocoon.instarB | _ => none

/-- R585: the copy that the next write goes to is B. -/
def State.targetB (s : State) : Bool := s.newestCopy == 1

/-- R596: a field of `CF_INSTAR_STATUS`, which wing 1 shows as wing 0 does. -/
def State.setInstarFld (s : State) (f : Fld) (v : Nat) : State := (s.setFld f 0 v).setFld f 1 v

/-- R585: a copy is written, whole, to the target. -/
def State.putInstar (s : State) (owner module : Instar) : State :=
  let seq := match s.newestInstar with | some i => i.seq + 1 | none => 1
  let i := { owner with
    magicOk := true, digestOk := true, moduleTagOk := true, seq := seq
    length := BitVec.ofNat 32 (256 + (instarOwner owner).length + 76)
    codes := module.codes, otpCount := module.otpCount, otpDigest := module.otpDigest }
  let c := s.cocoon
  let s := s.setCocoon (if s.targetB then { c with instarB := some i } else { c with instarA := some i })
  s.setInstarFld Reg.CF_INSTAR_STATUS.TARGET (if s.targetB then 1 else 0)

/-- R555: the delay-line codes of the 24 bands, wing 0's first. -/
def State.bandCodes (s : State) : List (BitVec 8) :=
  (List.range 24).map (fun b => BitVec.ofNat 8 (s.fld Reg.WW_BAND.CODE (if b < 12 then 0 else 1) (b % 12)))

/-- R584: the module part as it stands now. -/
def State.moduleNow (s : State) (i : Instar) : Instar :=
  { i with codes := s.bandCodes, otpCount := BitVec.ofNat 32 s.cocoon.otpLog.length, otpDigest := otpDigest s.cocoon.otpLog }

/-- R585: a module write carries the newest valid owner part over; with no valid copy there is none to carry. -/
def State.moduleWrite (s : State) : State :=
  match s.newestInstar with
  | some i => s.putInstar i (s.moduleNow i)
  | none => s

/-- R585, R587: the copy in force is selected; only a reset enters or leaves safe mode. -/
def State.selectInstar (s : State) (atReset : Bool) : State :=
  let n := s.newestCopy
  let s := s.setInstarFld Reg.CF_INSTAR_STATUS.VALID_A (if s.validOpt s.cocoon.instarA then 1 else 0)
  let s := s.setInstarFld Reg.CF_INSTAR_STATUS.VALID_B (if s.validOpt s.cocoon.instarB then 1 else 0)
  let s := s.setInstarFld Reg.CF_INSTAR_STATUS.TARGET (if s.targetB then 1 else 0)
  let s := s.setInstarFld Reg.CF_INSTAR_STATUS.IN_FORCE n
  let s := s.setInstarFld Reg.CF_INSTAR_STATUS.SEQ ((s.newestInstar.map (·.seq.toNat)).getD 0)
  let s := s.setCocoon { s.cocoon with inForce := s.newestInstar }
  if atReset then
    let safe := if n = 0 then 1 else 0
    (s.setInstarFld Reg.CF_INSTAR_STATUS.SAFE safe).setFld Reg.SC_BOOT_STATUS.SAFE 0 safe
  else s

/-- R584: the bits of a register that its cfg fields hold, taken from a value. -/
def RegRow.writeCfg (r : RegRow) (old new : Word) : Word :=
  r.fields.foldl (fun v f =>
    if f.tok = .cfg then setBits v f.fld.lo f.fld.width (getBits new f.fld.lo f.fld.width) else v) old

/-- R586: the cfg fields take the owner part's values. Wing 1's PW_ block ignores writes (R558). -/
def State.applyOwner (s : State) (i : Instar) : State :=
  i.entries.foldl (fun s e =>
    let w : Fin 2 := if e.1 then 1 else 0
    match s.rowAt w e.2.1 with
    | some r =>
      let a := w.val * 0x2000000 + e.2.1
      if w = 1 ∧ r.1 = .pw then s else s.setReg a (r.2.2.writeCfg (s.reg a) e.2.2)
    | none => s) s

/-- R555: the delay-line codes of the copy in force are loaded. -/
def State.loadCodes (s : State) (i : Instar) : State :=
  (List.range 24).foldl (fun s b =>
    s.setFld Reg.WW_BAND.CODE (if b < 12 then 0 else 1) (i.codes.getD b 0).toNat (b % 12)) s

/-! ### Limited changes (R579, R580) -/

/-- R580: a limited change: its log entry, its fuses, and a module write of an instar copy; refused when fewer than two
entries remain. -/
def State.limited (s : State) (kind slot old new : Nat) (blow : State → State) : State :=
  let used := s.fld Reg.SC_OTP_STATE.LOG_USED 0
  if 128 < used + 2 then s.mbReply stBudgetRefused
  else
    let s := s.setCocoon { s.cocoon with
      otpLog := s.cocoon.otpLog ++ [{ kind := kind, slot := slot, old := old, new := new, state := 1 }] }
    ((blow (s.setFld Reg.SC_OTP_STATE.LOG_USED 0 (used + 1))).moduleWrite).mbReply stOk

/-- R579: an owner key slot is written. -/
def State.writeSlot (s : State) (k : Nat) (h : BitVec 384) : State :=
  (s.setCocoon { s.cocoon with ownerHash := sset (fun _ => 0) s.cocoon.ownerHash k h }).setFld
    Reg.SC_OTP_STATE.SLOT_WRITTEN 0 (s.fld Reg.SC_OTP_STATE.SLOT_WRITTEN 0 ||| 2 ^ k)

/-- R581: revoking slot `k` is refused. -/
def State.revokeRefused (s : State) (k : Nat) : Bool :=
  !s.slotGood k || (List.range 4).all (fun j => decide (j = k) || !s.slotGood j) ||
    (match s.cocoon.inForce with | some i => i.ownerSlot.toNat == k | none => false)

/-! ### Chrysalis images (R569 to R571) -/

/-- R570: a bank is valid. -/
def State.bankValid (s : State) (c : Option Chrysalis) : Bool :=
  match c with
  | some c => c.magicOk && c.keyHash == s.cocoon.firmwareHash && c.sigOk && decide (c.svn.toNat ≤ 64) &&
      decide (s.fld Reg.SC_OTP_STATE.ROLLBACK 0 ≤ c.svn.toNat) && decide (c.length.toNat ≤ 0x4000000)
  | none => false

def State.bank (s : State) (b : Nat) : Option Chrysalis := sget (fun _ => none) s.cocoon.banks b

def State.setBank (s : State) (b : Nat) (c : Option Chrysalis) : State :=
  s.setCocoon { s.cocoon with banks := sset (fun _ => none) s.cocoon.banks b c }

/-- R571: an update goes to the bank that did not boot; its status. -/
def State.updateBank (s : State) (c : Chrysalis) : State × Nat :=
  let b := 1 - s.fld Reg.SC_BOOT_STATUS.BANK 0
  if s.bankValid (some c) then (s.setBank b (some c), stOk) else (s.setBank b none, stAuthFailed)

/-! ### Mailbox commands (R577) -/

/-- GET_INFO (R577). -/
def execGetInfo (s : State) : Res :=
  .next (s.mailbox true (fun s => s.mbReply stOk
    (leBytes 8 (s.reg (Reg.SC_BOOT_STATUS.BANK.at 0 0)).toNat ++ leBytes 8 (s.reg (Reg.SC_OTP_STATE.ROLLBACK.at 0 0)).toNat ++
      (List.range 4).flatMap (fun k => digestBytes (s.ownerHash k)))))

/-- READ_OTP_LOG (R577). -/
def execReadOtpLog (s : State) : Res :=
  .next (s.mailbox true (fun s => s.mbReply stOk (s.cocoon.otpLog.flatMap otpBytes)))

/-- R576: a fresh nonce replaces the one before. -/
def State.newNonce (s : State) : State :=
  if !s.entropyOk then s.mbReply stAuthFailed
  else
    let d := s.draw
    let n := Config.nonce d.1
    (d.2.setCocoon { d.2.cocoon with nonce := some n }).mbReply stOk (leBytes 32 n.toNat)

/-- GET_NONCE (R576, R577). -/
def execGetNonce (s : State) : Res := .next (s.mailbox true State.newNonce)

/-- NONCE_LAPSE (R576): 60 s after its issue. -/
def execNonceLapse (s : State) : Res := .next (s.setCocoon { s.cocoon with nonce := none })

/-- R572, R577: the certificate of ledger key `k`; no key is derived under a slot that is not good. -/
def State.ledgerCert (s : State) (k : Nat) : State :=
  if 4 ≤ k then s.mbReply stPlanMismatch
  else if !s.slotGood k || !s.entropyOk then s.mbReply stAuthFailed
  else
    let d := s.draw
    d.2.mbReply stOk (Config.ledgerCert k (s.cocoon.booted.getD 0) d.1)

/-- LEDGER_CERT (R577). -/
def execLedgerCert (slot : BitVec 8) (s : State) : Res := .next (s.mailbox true (·.ledgerCert slot.toNat))

/-- OWNER_CLAIM (R577, R579): only while no slot is written. -/
def execOwnerClaim (slot : BitVec 8) (keyHash : BitVec 384) (s : State) : Res :=
  .next (s.mailbox false (fun s =>
    if 4 ≤ slot.toNat ∨ s.fld Reg.SC_OTP_STATE.SLOT_WRITTEN 0 ≠ 0 then s.mbReply stPlanMismatch
    else s.limited 0x10 slot.toNat 0 1 (·.writeSlot slot.toNat keyHash)))

/-- OWNER_ADD (R577, R579). -/
def execOwnerAdd (sg : Signed) (slot : BitVec 8) (keyHash : BitVec 384) (s : State) : Res :=
  .next (s.signedRequest sg (decide (4 ≤ slot.toNat)) (fun s =>
    if (s.fld Reg.SC_OTP_STATE.SLOT_WRITTEN 0).testBit slot.toNat then s.mbReply stPlanMismatch
    else s.limited 0x11 slot.toNat 0 1 (·.writeSlot slot.toNat keyHash)))

/-- OWNER_REVOKE (R577, R581). -/
def execOwnerRevoke (sg : Signed) (slot : BitVec 8) (s : State) : Res :=
  .next (s.signedRequest sg (decide (4 ≤ slot.toNat)) (fun s =>
    if s.revokeRefused slot.toNat then s.mbReply stPlanMismatch
    else s.limited 0x12 slot.toNat 1 2 (fun s =>
      s.setFld Reg.SC_OTP_STATE.SLOT_REVOKED 0 (s.fld Reg.SC_OTP_STATE.SLOT_REVOKED 0 ||| 2 ^ slot.toNat))))

/-- ROLLBACK_COMMIT (R577, R579). -/
def execRollbackCommit (sg : Signed) (s : State) : Res :=
  .next (s.signedRequest sg false (fun s =>
    let old := s.fld Reg.SC_OTP_STATE.ROLLBACK 0
    let svn := s.fld Reg.SC_BOOT_STATUS.SVN 0
    if svn ≤ old then s.mbReply stPlanMismatch
    else s.limited 0x13 0 old svn (·.setFld Reg.SC_OTP_STATE.ROLLBACK 0 svn)))

/-- WSVN_RAISE (R577, R579). -/
def execWsvnRaise (sg : Signed) (new : BitVec 32) (s : State) : Res :=
  .next (s.signedRequest sg (decide (32 < new.toNat)) (fun s =>
    let old := s.fld Reg.SC_OTP_STATE.WSVN 0
    if new.toNat ≤ old then s.mbReply stPlanMismatch
    else s.limited 0x14 0 old new.toNat (·.setFld Reg.SC_OTP_STATE.WSVN 0 new.toNat)))

/-- DEBUG_UNLOCK (R577, R582). -/
def execDebugUnlock (sg : Signed) (s : State) : Res :=
  .next (s.signedRequest sg false (fun s =>
    if s.bit Reg.SC_OTP_STATE.DEBUG_DISABLED 0 then s.mbReply stPlanMismatch
    else (s.setFld Reg.SC_BOOT_STATUS.DEBUG_UNLOCKED 0 1).mbReply stOk))

/-- DEBUG_DISABLE (R577, R579): once. -/
def execDebugDisable (sg : Signed) (s : State) : Res :=
  .next (s.signedRequest sg false (fun s =>
    if s.bit Reg.SC_OTP_STATE.DEBUG_DISABLED 0 then s.mbReply stPlanMismatch
    else s.limited 0x16 0 0 1 (·.setFld Reg.SC_OTP_STATE.DEBUG_DISABLED 0 1)))

/-- R584, R585: an owner's write of its part. -/
def State.ownerWrite (s : State) (part : Instar) : State :=
  if !s.entriesOk part || !(part.serial == 0 || part.serial == Config.serial) then s.mbReply stPlanMismatch
  else if !(s.slotGood part.ownerSlot.toNat && part.ownerSigOk) then s.mbReply stAuthFailed
  else match s.newestInstar with
    | some i =>
      if part.ownerVer.toNat ≤ i.ownerVer.toNat then s.mbReply stPlanMismatch else (s.putInstar part i).mbReply stOk
    | none => (s.putInstar part (s.moduleNow part)).mbReply stOk

/-- INSTAR_WRITE (R577, R585). -/
def execInstarWrite (part : Instar) (s : State) : Res := .next (s.mailbox false (·.ownerWrite part))

/-- R571, R577: a chunk leaves the target bank unverified; the last one is verified. -/
def State.chrysalisWrite (s : State) (off len : Nat) (img : Chrysalis) (final : Bool) : State :=
  if 0x4000000 < off + len then s.mbReply stPlanMismatch
  else if !final then (s.setBank (1 - s.fld Reg.SC_BOOT_STATUS.BANK 0) none).mbReply stOk
  else
    let r := s.updateBank img
    r.1.mbReply r.2

/-- CHRYSALIS_WRITE (R571, R577). -/
def execChrysalisWrite (off : BitVec 32) (len : BitVec 32) (img : Chrysalis) (final : Bool) (s : State) : Res :=
  .next (s.mailbox true (·.chrysalisWrite off.toNat len.toNat img final))

/-- WEIGHT_KEY (R573, R577). -/
def execWeightKey (sg : Signed) (key : BitVec 256) (unwraps : Bool) (s : State) : Res :=
  .next (s.signedRequest sg false (fun s =>
    if !unwraps || !s.entropyOk then s.mbReply stAuthFailed
    else (s.draw.2.setCocoon { s.draw.2.cocoon with weightKey := some key }).mbReply stOk))

/-- R577, R589: new keys of an edge port, and both counters reset. -/
def State.installEdge (s : State) (w : Fin 2) (key : BitVec 256) : State :=
  let c := s.cocoon
  (s.setCocoon { c with
    edgeKey := sset (fun _ => none) c.edgeKey w.val (some key)
    edgeCtr := sset (fun _ => 0) (sset (fun _ => 0) c.edgeCtr (2 * w.val) 0) (2 * w.val + 1) 0 }).setFld
      Reg.SC_EDGE_STATUS.KEY_VALID 0 (s.fld Reg.SC_EDGE_STATUS.KEY_VALID 0 ||| 2 ^ w.val)

/-- EDGE_KEY (R573, R577). -/
def execEdgeKey (sg : Signed) (w : Fin 2) (key : BitVec 256) (unwraps : Bool) (s : State) : Res :=
  .next (s.signedRequest sg false (fun s =>
    if !unwraps || !s.entropyOk then s.mbReply stAuthFailed else (s.draw.2.installEdge w key).mbReply stOk))

/-- R577: weight and edge keys are cleared; the DRBG is reseeded. -/
def State.zeroise (s : State) : State :=
  let c := s.cocoon
  (s.setCocoon { c with weightKey := none, edgeKey := [], reseeds := c.reseeds + 1 }).setFld
    Reg.SC_EDGE_STATUS.KEY_VALID 0 0

/-- ZEROISE (R577): the reseeding needs the entropy source (R567). -/
def execZeroise (sg : Signed) (s : State) : Res :=
  .next (s.signedRequest sg false (fun s => if !s.entropyOk then s.mbReply stAuthFailed else s.zeroise.mbReply stOk))

/-- ENTROPY_HEALTH_FAIL (R567). -/
def execEntropyHealthFail (s : State) : Res := .next (s.setFld Reg.SC_BOOT_STATUS.ENTROPY_OK 0 0)

/-! ### Ledger signing (R465) -/

/-- R465, R521, R572: the cocoon has served the signing of a closed block. -/
def State.signComplete (s : State) (w : Fin 2) (n : Nat) : State :=
  if !s.cocoonUp || !s.cocoon.signQueue.contains (w.val, n) then s
  else
    let s := s.setCocoon { s.cocoon with signQueue := s.cocoon.signQueue.erase (w.val, n) }
    let s := s.setFld Reg.AU_LEDGER_STATUS.SIGN_PENDING w (min 15 (s.cocoon.signQueue.countP (fun e => e.1 == w.val)))
    let payload := leBytes 8 n ++ leBytes 1 w.val
    let x := s.wing w
    match x.oldBlocks.find? (fun b => b.number == n) with
    | some b =>
      let s := s.setWing w { x with oldBlocks := x.oldBlocks.erase b }
      if s.slotGood b.keySlot && s.entropyOk then
        let d := s.draw
        (d.2.signOld w b (Config.sign b.keySlot b.digest d.1)).event 3 stOk payload
      else (s.setFld Reg.AU_LEDGER_STATUS.SIGN_FAIL w 1).event 3 stAuthFailed payload
    | none => match x.block n with
    | none => s
    | some b =>
      if s.slotGood b.keySlot && s.entropyOk then
        let d := s.draw
        (d.2.setBlock w { b with state := 2, signature := Config.sign b.keySlot (s.blockDigest w b) d.1 }).event 3 stOk payload
      else (s.setFld Reg.AU_LEDGER_STATUS.SIGN_FAIL w 1).event 3 stAuthFailed payload

/-- LEDGER_SIGN_COMPLETE (R465). -/
def execLedgerSignComplete (w : Fin 2) (block : BitVec 48) (s : State) : Res := .next (s.signComplete w block.toNat)

/-! ### The SPDM responder (R574) -/

/-- The responder's answer; `sig` is the signature that some answers carry. -/
def State.spdm (s : State) (data : List Byte) (sig : Option (BitVec 768) := none) : State :=
  s.setHost { s.host with spdmResponse := data, spdmSignature := sig }

/-- The version and the algorithms are agreed. -/
def State.spdmReady (s : State) : Bool := s.cocoonUp && s.host.spdmVersion && s.host.spdmAlgos

/-- R574: the certificate chain of slot 0, from Ovdon root to device identity to alias. -/
def State.certChain (s : State) : List Byte := Config.certChain (s.cocoon.booted.getD 0)

/-- R574: a signed answer over its data and the requester's nonce, by the alias key; none without entropy (R567). -/
def State.spdmSigned (s : State) (data : List Byte) (nonce : BitVec 256) : State :=
  if !s.entropyOk then s.spdm []
  else
    let d := s.draw
    d.2.spdm data (some (Config.sign 4 (sha384 (data ++ leBytes 32 nonce.toNat)) d.1))

/-- R574: measurement `i`. -/
def State.measurement (s : State) (i : Nat) : List Byte :=
  match i with
  | 1 => digestBytes Config.romVersion
  | 2 => digestBytes (s.cocoon.booted.getD 0) ++ leBytes 1 (s.fld Reg.SC_BOOT_STATUS.BANK 0)
  | 3 => (match s.cocoon.inForce with
    | some c => leBytes 4 c.seq.toNat ++ digestBytes (instarDigest c)
    | none => List.replicate 52 0)
  | 4 => leBytes 8 (s.reg (Reg.SC_OTP_STATE.ROLLBACK.at 0 0)).toNat ++ digestBytes (otpDigest s.cocoon.otpLog)
  | 5 => (match s.job.img with
    | some img => if s.loaded 0 || s.loaded 1 then digestBytes img.digest else List.replicate 48 0
    | none => List.replicate 48 0)
  | 6 => [if s.bit Reg.SC_OTP_STATE.DEBUG_DISABLED 0 then 2 else if s.bit Reg.SC_BOOT_STATUS.DEBUG_UNLOCKED 0 then 1 else 0]
  | _ => []

/-- GET_VERSION (R574): SPDM 1.2; it begins the exchange anew. -/
def execGetVersion (s : State) : Res :=
  if !s.cocoonUp then .next s
  else .next ((s.setHost { s.host with spdmVersion := true, spdmAlgos := false }).spdm [0x12])

/-- GET_CAPABILITIES (R574): CERT_CAP, CHAL_CAP and MEAS_CAP with signatures. -/
def execGetCapabilities (s : State) : Res :=
  if !s.cocoonUp || !s.host.spdmVersion then .next s else .next (s.spdm (leBytes 4 0x16))

/-- NEGOTIATE_ALGORITHMS (R574): ECDSA P-384 and SHA-384 alone. -/
def execNegotiateAlgorithms (p384 sha384 : Bool) (s : State) : Res :=
  if !s.cocoonUp || !s.host.spdmVersion then .next s
  else .next ((s.setHost { s.host with spdmAlgos := p384 && sha384 }).spdm [if p384 && sha384 then 1 else 0])

/-- GET_DIGESTS (R574). -/
def execGetDigests (s : State) : Res :=
  if !s.spdmReady then .next s else .next (s.spdm (digestBytes (sha384 s.certChain)))

/-- GET_CERTIFICATE (R574): slots other than 0 are empty. -/
def execGetCertificate (slot : BitVec 8) (s : State) : Res :=
  if !s.spdmReady then .next s else .next (s.spdm (if slot = 0 then s.certChain else []))

/-- CHALLENGE (R574). -/
def execChallenge (slot : BitVec 8) (nonce : BitVec 256) (s : State) : Res :=
  if !s.spdmReady then .next s
  else if slot ≠ 0 then .next (s.spdm [])
  else .next (s.spdmSigned (digestBytes (sha384 s.certChain)) nonce)

/-- GET_MEASUREMENTS (R574): index 0 asks for how many there are, 0xFF for all. -/
def execGetMeasurements (index : BitVec 8) (signed : Bool) (nonce : BitVec 256) (s : State) : Res :=
  if !s.spdmReady then .next s
  else
    let data := if index = 0 then [6] else if index = 0xFF then (runOf 1 6).flatMap s.measurement
      else s.measurement index.toNat
    .next (if signed then s.spdmSigned data nonce else s.spdm data)

end Sys2Proof.Machine
end

