-- ==== Sys2Proof/Machine/Power.lean ====
section
/-!
DEFINITION. Power, speed and ageing (16): the budget and its pool (R540 to R542), the grant protocol (R543 to R547), tiers
powered up and down (R548 to R551), and wingwear (R552 to R556).
-/
namespace Sys2Proof.Machine

/-! ### Domains and ceilings (R539, R542) -/

/-- R539: PEAK of a domain without a lever, 0 of any other. -/
def fixedPeak (d : Nat) : Nat :=
  if 38 ≤ d ∧ d ≤ 41 then 40 else [8, 12, 12, 12, 12, 3, 6, 5].getD (d - 42) 0 * (if 42 ≤ d then 1 else 0)

def State.ceil (s : State) (d : Nat) : Nat := s.fld Reg.PW_DOMAIN.CEIL_W 0 d
def State.setCeil (s : State) (d v : Nat) : State := s.setFld Reg.PW_DOMAIN.CEIL_W 0 v d
def State.floorOf (s : State) (d : Nat) : Nat := s.fld Reg.PW_DOMAIN.FLOOR_W 0 d
def State.domainOn (s : State) (d : Nat) : Bool := s.bit Reg.PW_DOMAIN.ON 0 d

/-- R542: the pool P of the bands and tiers. -/
def State.pool (s : State) : Nat := s.fld Reg.PW_BUDGET.BUDGET_W 0 - 230 - s.fld Reg.PW_BUDGET.HBM_CAP_W 0

/-- What the levered domains hold; a tier on its way up holds its FLOOR already. -/
def State.leverSum (s : State) : Nat :=
  ((List.range 32).map (fun d =>
    if 24 ≤ d ∧ s.power.rising.contains (d - 24) then max (s.ceil d) (s.floorOf d) else s.ceil d)).sum

/-- R544: the free pool F. -/
def State.freePower (s : State) : Nat := s.pool - s.leverSum

/-- R560: the sum of the ceilings of all domains. -/
def State.showGranted (s : State) : State :=
  s.setFld Reg.PW_STATUS.GRANTED_W 0 (((List.range 50).map s.ceil).sum)

/-- R560: both sums. -/
def State.showPower (s : State) : State := s.showGranted.setFld Reg.PW_STATUS.FREE_W 0 s.freePower

/-- R541: the HBM domains of a wing share half of H; the spec gives no shares (log entry 5). -/
def hbmShares (h : Nat) (w : Fin 2) : List (Nat × Nat) :=
  let a := 32 + 2 * w.val
  let x := min (h / 2) (Config.hbmCeil h a)
  let y := min (h / 2 - x) (Config.hbmCeil h (a + 1))
  [(a, x), (a + 1, y), (36 + w.val, h / 2 - x - y)]

/-- R541, R542: the ceilings of the HBM domains that are powered. -/
def State.setHbmCeilings (s : State) : State :=
  (hbmShares (s.fld Reg.PW_BUDGET.HBM_CAP_W 0) 0 ++ hbmShares (s.fld Reg.PW_BUDGET.HBM_CAP_W 0) 1).foldl
    (fun s e => if s.domainOn e.1 then s.setCeil e.1 e.2 else s) s

/-! ### The budget (R540, R546) -/

/-- R546: reductions in descending domain number until the planned sum fits, none below its FLOOR. -/
def State.planCuts (s : State) : Nat → List Nat → Sparse (Option Nat)
  | _, [] => []
  | excess, d :: r =>
    let cut := min excess (s.ceil d - s.floorOf d)
    let l := s.planCuts (excess - cut) r
    if cut = 0 then l else sset (fun _ => none) l d (some (s.ceil d - cut))

/-- R546: the reductions that bring the planned sum to P. -/
def State.sendReductions (s : State) : State :=
  let l := s.planCuts (s.leverSum - s.pool) (List.range 32).reverse
  (s.setPower { s.power with reductions := l, acked := [] }).setFld Reg.PW_STATUS.LOWERING 0 (if l.isEmpty then 0 else 1)

/-- R540: a setting that is accepted. -/
def budgetOk (b h : Nat) : Bool :=
  decide (800 ≤ b) && decide (b ≤ 1800) && decide (200 ≤ h) && decide (h ≤ 480) && decide (230 + h + 328 ≤ b)

/-- R540, R546: a budget setting. -/
def State.setBudget (s : State) (b h : Nat) : State :=
  if budgetOk b h then
    let s := (s.setFld Reg.PW_BUDGET.BUDGET_W 0 b).setFld Reg.PW_BUDGET.HBM_CAP_W 0 h
    s.setHbmCeilings.sendReductions.showGranted
  else s.setFld Reg.PW_BUDGET.REFUSED 0 1

/-- R18, R540, R558: a write of `PW_BUDGET`. -/
def State.budgetWrite (s : State) (v : Word) : State :=
  let s := if getBits v 20 1 = 1 then s.setFld Reg.PW_BUDGET.REFUSED 0 0 else s
  s.setBudget (getBits v 0 11) (getBits v 11 9)

/-- PW_BUDGET_WRITE (R540). -/
def execPwBudgetWrite (value : BitVec 64) (s : State) : Res := .next (s.whenUp (s.budgetWrite value))

/-! ### The arbiter (R544 to R546) -/

def Power.request (p : Power) (d : Nat) : Nat := sget (fun _ => 0) p.requests d

/-- R544 step 1. -/
def State.applyReleases (s : State) : State :=
  let s' := s.power.releases.foldl (fun s e => s.setCeil e.1 (min (s.ceil e.1) e.2)) s
  s'.setPower { s.power with releases := [] }

/-- R544 step 2. -/
def State.applyCuts (s : State) : State :=
  let p := s.power
  let l := p.acked.foldl (fun l d => sset (fun _ => none) l d none) p.reductions
  let s := p.acked.foldl (fun s d =>
    match sget (fun _ => none) p.reductions d with
    | some c => s.setCeil d (min (s.ceil d) c)
    | none => s) s
  (s.setPower { p with reductions := l, acked := [] }).setFld Reg.PW_STATUS.LOWERING 0 (if l.isEmpty then 0 else 1)

/-- R544 step 3, for one domain. -/
def State.serveRequest (s : State) (d : Nat) : State :=
  let p := s.power
  let want := p.request d
  if want = 0 then s
  else
    let f := s.freePower
    let g := min want f
    if f = 0 then
      let s := s.setPower { p with requests := sset (fun _ => 0) p.requests d 0, lastServed := d }
      (s.setFld Reg.PW_DOMAIN.REFUSED 0 1 d).addFld Reg.PW_STATUS.REFUSALS 0 1
    else (s.setPower { p with requests := sset (fun _ => 0) p.requests d (want - g), lastServed := d }).setCeil d (s.ceil d + g)

/-- R544: the domains in the order in which their requests are served. -/
def serveOrder (last : Nat) : List Nat := (List.range 50).map (fun i => (last + 1 + i) % 50)

/-- R544: one epoch of the central arbiter. -/
def State.epoch (s : State) : State :=
  let s := s.applyReleases.applyCuts
  ((serveOrder s.power.lastServed).foldl State.serveRequest s).showPower

/-- ARBITER_EPOCH (R544). -/
def execArbiterEpoch (s : State) : Res := .next (if s.board.booted then s.epoch else s)

/-- POWER_REQUEST (R544): a domain has at most one request pending. -/
def execPowerRequest (dom : Fin 50) (watts : BitVec 11) (s : State) : Res :=
  let p := s.power
  .next (if dom.val < 32 ∧ s.domainOn dom.val ∧ p.request dom.val = 0 then
    s.setPower { p with requests := sset (fun _ => 0) p.requests dom.val watts.toNat } else s)

/-- POWER_RELEASE (R545): `peak100` is the domain's highest draw in the last 100 µs. -/
def execPowerRelease (dom : Fin 50) (peak100 : BitVec 11) (s : State) : Res :=
  let p := s.power
  .next (if dom.val < 32 ∧ s.domainOn dom.val ∧ peak100.toNat + 3 ≤ s.ceil dom.val then
    s.setPower { p with releases := sput dom.val (max (s.floorOf dom.val) (peak100.toNat + 1)) p.releases } else s)

/-- REDUCTION_ACK (R544, R546). -/
def execReductionAck (dom : Fin 50) (s : State) : Res :=
  let p := s.power
  .next (if (sget (fun _ => none) p.reductions dom.val).isSome then
    s.setPower { p with acked := nins dom.val p.acked } else s)

/-! ### Voltages (R543, R547) -/

def State.volt (s : State) (d : Nat) : Nat := s.fld Reg.PW_DOMAIN.VOLT_MV 0 d
def State.setVolt (s : State) (d v : Nat) : State := s.setFld Reg.PW_DOMAIN.VOLT_MV 0 v d

/-- R559: a register value outside its range acts as the nearer bound. -/
def within (x lo hi : Nat) : Nat := min (max x lo) hi

/-- R559: the target beat, and the highest step of 5 mV above 0.55 V that VMAX allows. -/
def State.targetBeat (s : State) : Nat := within (s.fld Reg.PW_TARGET.BEAT_PS 0) 420 1000
def State.topStep (s : State) : Nat := (within (s.fld Reg.PW_TARGET.VMAX_MV 0) 550 850 - 550) / 5

/-- R543: the lowest step whose beat meets the target, no higher than the top step. -/
def State.wantStep (s : State) (beats : List (BitVec 11)) : Nat :=
  ((List.range (s.topStep + 1)).find? (fun k => decide ((beats.getD k 0).toNat ≤ s.targetBeat))).getD s.topStep

/-- R543: the highest step no higher than `want` whose predicted draw stays at or below the ceiling. -/
def State.fitStep (s : State) (d want : Nat) (draws : List (BitVec 11)) : Nat :=
  (((List.range (want + 1)).filter (fun k => decide ((draws.getD k 0).toNat ≤ s.ceil d))).getLast?).getD 0

/-- The first band of the wing whose band or tier is domain `d`. -/
def firstBand (d : Nat) : Nat := if d < 24 then d / 12 * 12 else (d - 24) / 4 * 12

/-- R543: the highest band voltage of a wing, from its first band on. -/
def State.highestBand (s : State) (b : Nat) : Nat := (runOf b 12).foldl (fun m d => max m (s.volt d)) 0

/-- R543, R547: an agent sets its domain's voltage; `beats` and `draws` are the beat that the monitor finds and the draw
that the agent predicts at 0.55 V and each step of 5 mV above it. A clamped band is not raised. -/
def State.voltageControl (s : State) (d : Nat) (beats draws : List (BitVec 11)) : State :=
  if !s.domainOn d then s
  else if d < 24 then
    let want := s.wantStep beats
    let k := s.fitStep d want draws
    let v := if s.bit Reg.PW_DOMAIN.HOT 0 d then min (s.volt d) (550 + 5 * k) else 550 + 5 * k
    (s.setVolt d v).setFld Reg.PW_DOMAIN.HELD 0 (if k < want then 1 else 0) d
  else if d < 32 then s.setVolt d (max 600 (s.highestBand (firstBand d)))
  else s

/-- BAND_VOLTAGE_CONTROL (R543, R561). -/
def execBandVoltageControl (dom : Fin 50) (beats draws : List (BitVec 11)) (draw : BitVec 11) (s : State) : Res :=
  .next ((s.voltageControl dom.val beats draws).setFld Reg.PW_DOMAIN.DRAW_W 0 draw.toNat dom.val)

/-- The junction temperature that a band's agent has read. -/
def State.noteHeat (s : State) (d c : Nat) : State :=
  s.setPower { s.power with celsius := sset (fun _ => 0) s.power.celsius d c }

/-- R547: 105 °C clamps the band, 115 °C sets it to 0.55 V. -/
def State.bandHot (s : State) (d c : Nat) : State :=
  if 24 ≤ d then s
  else
    let s := s.noteHeat d c
    if c < 105 then s
    else
      let s := s.setFld Reg.PW_DOMAIN.HOT 0 1 d
      if 115 ≤ c ∧ s.domainOn d then s.setVolt d 550 else s

/-- BAND_HOT (R547). -/
def execBandHot (dom : Fin 50) (celsius : BitVec 8) (s : State) : Res := .next (s.bandHot dom.val celsius.toNat)

/-- R547: a millisecond of a clamp. -/
def State.clampStep (s : State) (d c : Nat) : State :=
  if !s.bit Reg.PW_DOMAIN.HOT 0 d then s
  else
    let s := s.noteHeat d c
    if c < 100 then s.setFld Reg.PW_DOMAIN.HOT 0 0 d
    else if 115 ≤ c then s.setVolt d (min (s.volt d) 550)
    else s.setVolt d (if s.volt d < 560 then min (s.volt d) 550 else s.volt d - 10)

/-- THERMAL_CLAMP_STEP (R547). -/
def execThermalClampStep (dom : Fin 50) (celsius : BitVec 8) (s : State) : Res := .next (s.clampStep dom.val celsius.toNat)

/-! ### Tiers (R548 to R551) -/

def tierWing (t : Fin 8) : Fin 2 := if t.val < 4 then 0 else 1

/-- The tile and handle of the handle table's register at a BAR0 offset. -/
def handleAt (w : Fin 2) (a : Nat) : Option (BitVec 10 × Nat) :=
  let x := a % 0x2000000
  if a / 0x2000000 = w.val ∧ 0x1000000 ≤ x ∧ x < 0x1800000 ∧ 0x800 ≤ x % 0x2000 ∧ x % 0x2000 < 0x1000 then
    some (BitVec.ofNat 10 (x % 0x1000000 / 0x2000), (x % 0x2000 - 0x800) / 8)
  else none

/-- A run of rows lies in tier `i` in part. -/
def inTier (i first n : Nat) : Bool := decide (first < 4096 * (i + 1)) && decide (4096 * i < first + n)

/-- R548: a valid handle of the wing has rows in tier `i`. -/
def State.tierHeld (s : State) (w : Fin 2) (i : Nat) : Bool :=
  s.regs.any (fun e =>
    match handleAt w e.1 with
    | some (t, h) => let d := s.handle ⟨w, t⟩ h; d.valid && inTier i d.base d.rows
    | none => false)

/-- The tiles of a wing that hold anything. -/
def State.wingTiles (s : State) (w : Fin 2) : List Site :=
  (s.tiles.filter (fun e => e.1 / 1024 == w.val)).map (fun e => ⟨w, BitVec.ofNat 10 (e.1 % 1024)⟩)

/-- R549: a window's rows lie in tier `i`. -/
def State.windowInTier (s : State) (u : Site) (i n : Nat) : Bool :=
  let d := s.handle u (s.tfld u Reg.SP_WIN0.HANDLE n)
  d.valid && inTier i (d.base + s.tfld u Reg.SP_WIN0.FIRST n) (s.tfld u Reg.SP_WIN0.COUNT_M1 n + 1)

/-- R549 step 2: the windows of a tile over tier `i` are closed. -/
def State.closeTier (s : State) (u : Site) (i : Nat) : State :=
  (List.range 16).foldl (fun s n =>
    if ((s.tile u).window n).state ≠ .closed ∧ s.windowInTier u i n then s.windowClose u n else s) s

/-- R549 step 3: the tile has no window open over the tier, and no gather entry, claim or read lock on its rows. -/
def State.tierQuiet (s : State) (i : Nat) (u : Site) : Bool :=
  let t := s.tile u
  (List.range 16).all (fun n => (t.window n).state == .closed || !s.windowInTier u i n) &&
    t.gathers.all (fun g => g.row / 4096 != i) && t.claims.all (fun e => e.1 / 4096 != i) &&
    t.feeder.all (fun x => x.lockedRows.all (fun r => r / 4096 != i)) &&
    (match t.fill with | some f => f.rows.all (fun p => p.2 / 4096 != i) | none => true)

/-- A bit of a field of `PW_TIER_CTL`. -/
def State.tierBit (s : State) (f : Fld) (t : Nat) : Bool := (s.fld f 0).testBit t

def State.setTierBit (s : State) (f : Fld) (t : Nat) (b : Bool) : State :=
  let v := s.fld f 0
  s.setFld f 0 (if b then v ||| 2 ^ t else v - (v &&& 2 ^ t))

/-- R549 steps 1 and 2. -/
def State.tierDownRequest (s : State) (t : Fin 8) : State :=
  let w := tierWing t
  if s.power.rising.contains t.val then
    (s.setPower { s.power with rising := ndel t.val s.power.rising }).setTierBit Reg.PW_TIER_CTL.DOWN t.val true
  else if s.tierBit Reg.PW_TIER_CTL.OFF t.val || s.power.gated.contains t.val || s.tierBit Reg.PW_TIER_CTL.PENDING t.val then s
  else if s.loaded w && s.tierHeld w (t.val % 4) then s.setTierBit Reg.PW_TIER_CTL.DOWN t.val false
  else
    let s := (s.setTierBit Reg.PW_TIER_CTL.DOWN t.val true).setTierBit Reg.PW_TIER_CTL.PENDING t.val true
    let s := s.setCeil (24 + t.val) (min (s.ceil (24 + t.val)) (s.floorOf (24 + t.val)))
    (s.wingTiles w).foldl (fun s u => s.closeTier u (t.val % 4)) s

/-- TIER_DOWN (R549). -/
def execTierDown (t : Fin 8) (s : State) : Res := .next (s.tierDownRequest t)

/-- TIER_GATE_SHUT (R549 steps 3 and 4). -/
def execTierGateShut (t : Fin 8) (s : State) : Res :=
  .next (if s.tierBit Reg.PW_TIER_CTL.PENDING t.val && (s.wingTiles (tierWing t)).all (s.tierQuiet (t.val % 4)) then
    (s.setPower { s.power with gated := nins t.val s.power.gated }).setTierBit Reg.PW_TIER_CTL.PENDING t.val false
  else s)

/-- R549 step 5: the tier powers off, and its ceiling returns to the pool. -/
def State.tierOff (s : State) (t : Nat) : State :=
  let p := s.power
  let d := 24 + t
  let s := s.setPower { p with
    requests := sset (fun _ => 0) p.requests d 0, releases := sdel d p.releases
    reductions := sset (fun _ => none) p.reductions d none, acked := ndel d p.acked }
  let s := (s.setCeil d 0).setVolt d 0
  ((s.setFld Reg.PW_DOMAIN.ON 0 0 d).setTierBit Reg.PW_TIER_CTL.OFF t true).showPower

/-- TIER_POWER_OFF (R549): 2 µs after the gate. -/
def execTierPowerOff (t : Fin 8) (s : State) : Res :=
  .next (if s.power.gated.contains t.val && !s.tierBit Reg.PW_TIER_CTL.OFF t.val && !s.power.rising.contains t.val then
    s.tierOff t.val else s)

/-- R551: a tier is requested up; reductions make room for its FLOOR where the pool has less. -/
def State.tierUpRequest (s : State) (t : Nat) : State :=
  let s := s.setTierBit Reg.PW_TIER_CTL.DOWN t false
  if s.tierBit Reg.PW_TIER_CTL.PENDING t then s.setTierBit Reg.PW_TIER_CTL.PENDING t false
  else if s.tierBit Reg.PW_TIER_CTL.OFF t || s.power.gated.contains t then
    let s := s.setPower { s.power with rising := nins t s.power.rising }
    if s.pool < s.leverSum then s.sendReductions else s
  else s

/-- TIER_UP (R551). -/
def execTierUp (t : Fin 8) (s : State) : Res := .next (s.tierUpRequest t.val)

/-- Whether a memory key is a byte of a row of tier `i` of a wing. -/
def tierKey (w : Fin 2) (i k : Nat) : Bool :=
  let off := k % 2 ^ 48
  k / 2 ^ 48 == w.val && decide (0x8000000000 ≤ off) && decide (off < 0x8200000000) && off % 2 ^ 23 / 2 ^ 21 == i

/-- R551: the rows of a tier of a tile come up empty. -/
def Tile.loseTier (t : Tile) (i : Nat) : Tile :=
  { t with
    full := t.full.filter (fun r => r / 4096 != i), reads := t.reads.filter (fun e => e.1 / 4096 != i)
    emptyLater := t.emptyLater.filter (fun r => r / 4096 != i)
    stepClear := t.stepClear.filter (fun r => r / 4096 != i), upsets := t.upsets.filter (fun e => e.1 / 4096 != i) }

/-- R551: the contents of a tier are lost; its bytes are as those of memory that nothing has written (log entry 3). -/
def State.loseTier (s : State) (w : Fin 2) (i : Nat) : State :=
  let s := s.setMem (s.mem.filter (fun c => !tierKey w i c.1))
  s.setTiles (smap (fun _ => {}) (fun k x => if k / 1024 = w.val then x.loseTier i else x) s.tiles)

/-- R551: a tier comes up, at its FLOOR. -/
def State.tierRise (s : State) (t : Fin 8) : State :=
  let p := s.power
  let d := 24 + t.val
  let s := s.setPower { p with rising := ndel t.val p.rising, gated := ndel t.val p.gated }
  let s := (s.setTierBit Reg.PW_TIER_CTL.OFF t.val false).setFld Reg.PW_DOMAIN.ON 0 1 d
  let s := (s.setCeil d (max (s.ceil d) (s.floorOf d))).setVolt d (max 600 (s.highestBand (firstBand d)))
  (s.loseTier (tierWing t) (t.val % 4)).showPower

/-- TIER_POWER_UP_DONE (R551). -/
def execTierPowerUpDone (t : Fin 8) (s : State) : Res :=
  .next (if s.power.rising.contains t.val && decide (s.leverSum ≤ s.pool) then s.tierRise t else s)

/-- R562: a write of `PW_TIER_CTL`. -/
def State.tierWrite (s : State) (v : Word) : State :=
  (List.finRange 8).foldl (fun s t => if v.getLsbD t.val then s.tierDownRequest t else s.tierUpRequest t.val) s

/-! ### Wingwear (R552 to R556) -/

/-- R553, R556: a band takes a new code, at most its CODE_LIMIT; it never goes down here. -/
def State.raiseCode (s : State) (w : Fin 2) (b code : Nat) : State :=
  let limit := s.fld Reg.WW_BAND.CODE_LIMIT w b
  if limit < code then (s.setFld Reg.WW_BAND.CODE w limit b).setFld Reg.WW_STATUS.WORN w 1
  else s.setFld Reg.WW_BAND.CODE w code b

/-- R553: the code of a band after a re-plan at the present voltage. -/
def State.replanCode (s : State) (w : Fin 2) (b : Nat) : Nat :=
  s.fld Reg.WW_BAND.CODE w b + ((s.fld Reg.WW_CTL.GUARD w : Int) - signedOf 8 (s.fld Reg.WW_BAND.SLACK w b)).toNat

/-- R555, R564: what follows a re-plan. -/
def State.replanned (s : State) (w : Fin 2) (cause : Nat) : State :=
  let s := (List.range 12).foldl (fun s b => s.setFld Reg.WW_BAND.DRIFT w 0 b) s
  ((s.addFld Reg.WW_STATUS.REPLANS w 1).setFld Reg.WW_STATUS.LAST_CAUSE w cause).moduleWrite

/-- R553: a re-plan other than at load or restart. -/
def State.replan (s : State) (w : Fin 2) (cause : Nat) : State :=
  ((List.range 12).foldl (fun s b => s.raiseCode w b (s.replanCode w b)) s).replanned w cause

/-- R552: the slacks that the monitors report. -/
def State.setSlacks (s : State) (w : Fin 2) (slacks : List (BitVec 8)) : State :=
  (slacks.take 12).zipIdx.foldl (fun s p => s.setFld Reg.WW_BAND.SLACK w p.1.toNat p.2) s

/-- R553: the re-plan at a load or restart: the smallest code that leaves SLACK at or above GUARD at the three voltages;
`slacks` are the smallest slacks found at the three, under the present codes. -/
def State.replanLoad (s : State) (w : Fin 2) (slacks : List (BitVec 8)) : State :=
  let s := s.setSlacks w slacks
  ((List.range 12).foldl (fun s b =>
    s.raiseCode w b ((s.fld Reg.WW_BAND.CODE w b : Int) + (s.fld Reg.WW_CTL.GUARD w : Int) -
      signedOf 8 (s.fld Reg.WW_BAND.SLACK w b)).toNat) s).replanned w 0

/-- WW_REPLAN (R553): a host write of `WW_CTL.REPLAN`. -/
def execWwReplan (w : Fin 2) (slacks : List (BitVec 8)) (s : State) : Res := .next ((s.setSlacks w slacks).replan w 3)

/-- WW_PERIOD_EXPIRY (R553): while a job runs. -/
def execWwPeriodExpiry (w : Fin 2) (slacks : List (BitVec 8)) (s : State) : Res :=
  .next (if s.loaded w then (s.setSlacks w slacks).replan w 1 else s)

/-- R552, R553: a monitor's report; a drift at the trigger re-plans. -/
def State.measure (s : State) (w : Fin 2) (b : Nat) (slack drift beat : Nat) : State :=
  let s := s.setFld Reg.WW_BAND.SLACK w slack b
  let s := s.setFld Reg.WW_BAND.DRIFT w drift b
  let s := s.setFld Reg.WW_BAND.BEAT_PS w beat b
  if max 1 (s.fld Reg.WW_CTL.DRIFT_THR w) ≤ drift then s.replan w 2 else s

/-- WINGWEAR_MEASURE (R552). -/
def execWingwearMeasure (w : Fin 2) (band : Fin 12) (slack drift : BitVec 8) (beatPs : BitVec 10) (s : State) : Res :=
  .next (s.measure w band.val slack.toNat drift.toNat beatPs.toNat)

/-- R553, R554, R563: a write of `WW_CTL`, ignored whole when its GUARD would be too small. -/
def State.wwCtl (s : State) (w : Fin 2) (v : Word) : State :=
  if getBits v 8 8 < getBits v 0 8 + 2 then s
  else
    let s := s.setFld Reg.WW_CTL.DRIFT_THR w (getBits v 0 8)
    let s := s.setFld Reg.WW_CTL.GUARD w (getBits v 8 8)
    let s := s.setFld Reg.WW_CTL.PERIOD_H w (getBits v 16 8)
    if getBits v 24 1 = 1 then s.replan w 3 else s

end Sys2Proof.Machine
end

