-- ==== Sys2Proof/Machine/Sideband.lean ====
section
/-!
DEFINITION. Reads of registers, and the loading of fuse fields (R15, R21); sideband management (R524, R525): the MCTP endpoint with its PLDM sensors, effecter and firmware update, and the
FRU EEPROM.
-/
namespace Sys2Proof.Machine

/-! ### Answers -/

/-- What the latest read, of any path, gave its reader. -/
def State.reply (s : State) (data : List Byte) : State :=
  s.setHost { s.host with answer := some data, answerPoisoned := false }

/-! ### Reads of registers (R15, R21) -/

/-- R558: wing 1's PW_ block reads as wing 0's. -/
def readAddr (w : Fin 2) (off : Nat) (b : Block) : Nat := (if b = .pw then 0 else w.val * 0x2000000) + off

/-- R21: every fuse and cfg field of a register has loaded. -/
def State.readable (s : State) (r : RegRow) : Bool :=
  r.fields.all (fun f =>
    match f.tok with
    | .num => true
    | .fuse => s.board.fusesLoaded
    | .cfg => s.board.cfgLoaded)

/-- R15: the `n` bytes addressed at an offset of a wing's register of block `b`. -/
def State.regBytes (s : State) (w : Fin 2) (off n : Nat) (b : Block) : List Byte :=
  ((leBytes 8 (s.reg (readAddr w (off / 8 * 8) b)).toNat).drop (off % 8)).take n

/-- R15, R21: a read of a register; it is held while a field of the register has still to load. -/
def State.readReg (s : State) (w : Fin 2) (off n : Nat) (b : Block) (r : RegRow) : State :=
  if s.readable r then s.reply (s.regBytes w off n b)
  else s.setHost { s.host with heldReads := s.host.heldReads ++ [(w, off, n)], answer := none }

/-- R21: what a held read gets, once every field of its register has loaded. -/
def State.heldAnswer (s : State) (h : Fin 2 × Nat × Nat) : Option (List Byte) :=
  match s.rowAt h.1 (h.2.1 / 8 * 8) with
  | none => none
  | some r => if s.readable r.2.2 then some (s.regBytes h.1 h.2.1 h.2.2 r.1) else none

/-- R21: held reads whose fields have loaded are answered, in order. -/
def State.answerHeld (s : State) : State :=
  let ready := s.host.heldReads.filterMap s.heldAnswer
  if ready.isEmpty then s
  else s.setHost { s.host with
    heldReads := s.host.heldReads.filter (fun h => (s.heldAnswer h).isNone), answer := some ready.flatten
    answerPoisoned := false }

/-- FUSE_LOAD_COMPLETE (R21): the fuse fields have loaded. -/
def execFuseLoadComplete (s : State) : Res := .next (s.setBoard { s.board with fusesLoaded := true }).answerHeld

/-! ### The MCTP endpoint and the FRU EEPROM -/

/-- SET_ENDPOINT_ID (R524): the identifiers 0 and 0xFF are not assigned (DSP0236). -/
def execSetEndpointId (eid : BitVec 8) (s : State) : Res :=
  .next (if s.host.mctpUp && eid != 0 && eid != 0xFF then s.setHost { s.host with eid := eid.toNat } else s)

/-- R525: the state sensor: 3 safe mode, 1 a job loaded, 2 a job stopped, 0 none. -/
def State.jobSensor (s : State) : Nat :=
  if s.bit Reg.SC_BOOT_STATUS.SAFE 0 then 3
  else if s.loaded 0 || s.loaded 1 then 1
  else if s.job.img.isSome then 2 else 0

/-- R525: a sensor's reading; `measured` is what a sensor of a measured quantity finds. -/
def State.sensor (s : State) (id measured : Nat) : Option (List Byte) :=
  if id = 3 then some (leBytes 2 (s.fld Reg.PW_BUDGET.BUDGET_W 0))
  else if id = 7 then some (leBytes 1 s.jobSensor)
  else if 1 ≤ id ∧ id ≤ 6 then some (leBytes 2 measured)
  else none

/-- GET_SENSOR_READING (R525). -/
def execGetSensorReading (id measured : BitVec 16) (s : State) : Res :=
  if !s.host.mctpUp then .next s
  else match s.sensor id.toNat measured.toNat with
    | some d => .next (s.reply d)
    | none => .next s

/-- R525, R540: the effecter sets the budget as a host setting does, under the HBM cap in force. -/
def State.effecter (s : State) (watts : Nat) : State :=
  let h := s.fld Reg.PW_BUDGET.HBM_CAP_W 0
  (s.setBudget watts h).reply [BitVec.ofNat 8 (if budgetOk watts h then stOk else stBudgetRefused)]

/-- SET_NUMERIC_EFFECTER_VALUE (R525). -/
def execSetNumericEffecterValue (id watts : BitVec 16) (s : State) : Res :=
  .next (if s.host.mctpUp && id == 1 then s.effecter watts.toNat else s)

/-- R524, R571: a firmware update goes to the bank that did not boot. -/
def State.pldmUpdate (s : State) (c : Chrysalis) : State :=
  let r := s.updateBank c
  r.1.reply [BitVec.ofNat 8 r.2]

/-- FIRMWARE_UPDATE (R524, R571). -/
def execFirmwareUpdate (img : Chrysalis) (s : State) : Res := .next (if s.host.mctpUp then s.pldmUpdate img else s)

/-- R524, R623: the EEPROM answers at 0x50 + S, whenever the auxiliary rail is up. -/
def State.fruAnswers (s : State) (addr : Nat) : Bool := s.board.aux && addr == 0x50 + s.board.straps

/-- FRU_READ (R524): 8 KiB, the address wrapping. -/
def execFruRead (addr : BitVec 7) (off : BitVec 13) (len : Nat) (s : State) : Res :=
  .next (if s.fruAnswers addr.toNat then
    s.reply ((List.range len).map (fun i => memRead s.host.fru ((off.toNat + i) % 8192))) else s)

/-- The bytes of an I2C write go to rising addresses, wrapping at 8 KiB. -/
def fruPut (m : List Host.Cell) (off : Nat) : List Byte → List Host.Cell
  | [] => m
  | b :: r => fruPut (memWrite m (off % 8192) [b]) (off + 1) r

/-- FRU_WRITE (R524). -/
def execFruWrite (addr : BitVec 7) (off : BitVec 13) (data : List Byte) (s : State) : Res :=
  .next (if s.fruAnswers addr.toNat then s.setHost { s.host with fru := fruPut s.host.fru off.toNat data } else s)

end Sys2Proof.Machine
end

