-- ==== Sys2Proof/Machine/HostPort.lean ====
section
/-!
DEFINITION. The PCIe function (15): configuration requests (R502, R503, R571), the resets of the host port (R523), the link
(R527), and the BAR2 apertures (R507 to R510).
-/
namespace Sys2Proof.Machine

/-! ### Configuration space (R502, R503, R571) -/

/-- R502: the bytes of the identity field that a request asks for. -/
def State.identity (s : State) : ConfigReq → List Byte
  | .vendorDevice => leBytes 2 0x1F3A ++ leBytes 2 (if s.is544 0 then 0x0C91 else 0x0C90)
  | .revisionClass => leBytes 1 (s.fld Reg.CF_WING_ID.STEPPING 0) ++ leBytes 3 0x120000
  | .subsystem => leBytes 2 0x1F3A ++ leBytes 2 (if s.is544 0 then 0x0C91 else 0x0C90)
  | .serialNumber => leBytes 8 Config.serial.toNat
  | .resizeBar2 _ => []
  | .other => []

/-- R503: BAR2 takes a size from 1 GiB to 512 GiB. -/
def HostPort.resize (h : HostPort) : ConfigReq → HostPort
  | .resizeBar2 n => if 30 ≤ n.toNat ∧ n.toNat ≤ 39 then { h with barLog2 := n.toNat } else h
  | .vendorDevice => h
  | .revisionClass => h
  | .subsystem => h
  | .serialNumber => h
  | .other => h

/-- R571: a configuration request is answered, with retry status until the firmware runs. -/
def State.configRequest (s : State) (r : ConfigReq) : State :=
  if s.host.configReady then s.setHost
    { (s.host.resize r) with answer := some (s.identity r), answerPoisoned := false, retryStatus := false }
  else s.setHost { s.host with retryStatus := true, answer := none }

/-- CONFIG_REQUEST (R23, R502, R571): no endpoint answers while PERST_N is low, or without power. -/
def execConfigRequest (r : ConfigReq) (s : State) : Res :=
  .next (if s.host.perst || !s.up then s else s.configRequest r)

/-! ### Resets of the host port (R523) -/

/-- R523: rings stop, every aperture becomes not VALID, the MSI-X table is reset; a running job is not touched. -/
def State.hostReset (s : State) : State :=
  let s := (s.setFld Reg.HI_RING_CTL.ENABLE 0 0).setFld Reg.HI_RING_CTL.RUNNING 0 0
  let s := (List.range 8).foldl (fun s n => s.setFld Reg.HI_BAR2_AP.VALID 0 0 n) s
  s.setHost { s.host with vectors := [] }

/-- R527: no link. -/
def State.linkGone (s : State) : State :=
  let s := (s.setFld Reg.HI_LINK_STATUS.SPEED 0 0).setFld Reg.HI_LINK_STATUS.WIDTH 0 0
  (s.setFld Reg.HI_LINK_STATUS.FLIT 0 0).setFld Reg.HI_LINK_STATUS.UP 0 0

/-- R523, R527: a link-down event. -/
def State.linkDown (s : State) : State := (s.hostReset.linkGone).addFld Reg.HI_LINK_STATUS.DOWN_EVENTS 0 1

/-- FUNCTION_LEVEL_RESET (R523). -/
def execFunctionLevelReset (s : State) : Res := .next s.hostReset

/-- HOT_RESET (R523). -/
def execHotReset (s : State) : Res := .next s.hostReset

/-- PCIE_LINK_DOWN (R523, R527). -/
def execPcieLinkDown (s : State) : Res := .next s.linkDown

/-- D3HOT_ENTRY (R523). -/
def execD3hotEntry (s : State) : Res := .next s.hostReset

/-- PERST_N (R523, R621, R640): low resets the endpoint only; the job runs on. -/
def execPerstN (low : Bool) (s : State) : Res :=
  .next (if low then s.hostReset.linkGone.setHost { s.hostReset.linkGone.host with perst := true }
    else s.setHost { s.host with perst := false })

/-- R527: what the link trained to. -/
def State.linkUp (s : State) (speed width : Nat) (flit : Bool) : State :=
  let s := (s.setFld Reg.HI_LINK_STATUS.SPEED 0 speed).setFld Reg.HI_LINK_STATUS.WIDTH 0 width
  (s.setFld Reg.HI_LINK_STATUS.FLIT 0 (if flit then 1 else 0)).setFld Reg.HI_LINK_STATUS.UP 0 1

/-- PCIE_LINK_UP (R527): not while PERST_N is low. -/
def execPcieLinkUp (speed : BitVec 4) (width : BitVec 6) (flit : Bool) (s : State) : Res :=
  .next (if s.host.perst then s else s.linkUp speed.toNat width.toNat flit)

/-! ### BAR2 (R507 to R510) -/

/-- R528: a counted access, its BAR and its reason. -/
def State.countBad (s : State) (bar reason : Nat) : State :=
  ((s.addFld Reg.HI_BAD_ACCESS_COUNT.COUNT 0 1).setFld Reg.HI_BAD_ACCESS_COUNT.BAR 0 bar).setFld
    Reg.HI_BAD_ACCESS_COUNT.REASON 0 reason

/-- R507: the wing and offset that a BAR2 offset reaches, or the reason of R528 for which it reaches none. -/
def State.aperture (s : State) (off : Nat) : Except Nat (Fin 2 × Nat) :=
  let a := 2 ^ (s.host.barLog2 - 3)
  let n := off / a % 8
  let t := s.fld Reg.HI_BAR2_AP.OFFSET 0 n / a * a + off % a
  if !s.bit Reg.HI_BAR2_AP.VALID 0 n then .error 4
  else if t < 0x7800000000 ∨ (0x8000000000 ≤ t ∧ t < 0x8200000000) then
    .ok (if s.bit Reg.HI_BAR2_AP.WING 0 n then 1 else 0, t)
  else .error 5

/-- R26: the tile that a scratchpad offset names. -/
def scratchSite (w : Fin 2) (off : Nat) : Site := ⟨w, BitVec.ofNat 10 (off % 0x8000000000 / 2 ^ 23)⟩

/-- R26: the row and the word of a scratchpad offset within its tile. -/
def rowAtOff (off : Nat) : Nat := off % 2 ^ 23 / 512
def wordAtOff (off : Nat) : Nat := off % 512 / 8

/-- The packet that carries a host word to a tile. -/
def State.hostWord (s : State) (u : Site) (off : Nat) (bs : List Byte) : Packet :=
  { kind := 2, dstTile := u.tile, dstChip := BitVec.ofNat 16 (s.chip u.wing), srcTile := 0x3FF, srcKind := 2
    arg := BitVec.ofNat 20 (64 * rowAtOff off + wordAtOff off), data := bs }

/-- R27, R175, R185, R508: a piece of a host write reaches a tile. -/
def State.hostWriteWord (s : State) (w : Fin 2) (off n : Nat) (bs : List Byte) : State × Nat × List Byte :=
  let u := scratchSite w off
  let row := rowAtOff off
  let t := s.tile u
  if !s.tileLive w u.tile.toNat then (s.dropAtDisabled u (s.hostWord u off bs), stWindowViolation, [])
  else if n = 8 ∧ (!t.heldWords.isEmpty ∨ t.wordWaits row) then
    (s.setTile u { t with heldWords := t.heldWords ++ [s.hostWord u off bs] }, stOk, [])
  else
    let st := match s.admission u row 2 0 none (decide (n = 8)) with | .ok _ => stOk | .error _ => stWindowViolation
    ((s.arriveWord u row (wordAtOff off) 2 0 (decide (n = 8)) bs none).pumpTile u, st, [])

/-- R164, R181, R508: a piece of a host read at a tile; `found` is what the code finds in the row. -/
def State.hostReadWord (s : State) (w : Fin 2) (off n : Nat) (found : RowErr) : State × Nat × List Byte :=
  let u := scratchSite w off
  let row := rowAtOff off
  if !s.tileLive w u.tile.toNat || n != 8 || s.rowDown u row then (s, stWindowViolation, [])
  else
    let s := s.countCorrected u found
    match (s.tile u).rowUe row found with
    | some c => (s.eccStop u row c.1 false c.2, stEcc, [])
    | none => (s, stOk, s.readWord u row (wordAtOff off))

/-- R509, R521: a BAR2 request has failed. -/
def State.hostFail (s : State) (off status : Nat) : State :=
  s.event 5 status (leBytes 8 2 ++ leBytes 8 off)

/-- R508: the bytes of a host write at a place of the aperture map: the HBM tier below 0x80_0000_0000, scratchpads above. -/
def State.placeWrite (s : State) (w : Fin 2) (t : Nat) (data : List Byte) (outs : List HbmOut) : State × Nat × List Byte :=
  let piece (o n : Nat) := (data.drop (o - t)).take n
  if t < 0x8000000000 then
    s.overPieces (fun s i o n => s.hbmAccess w .hostWrite 2 0 o n (piece o n) (outs.getD i {})) (piecesOf 2048 t data.length)
  else s.overPieces (fun s _ o n => s.hostWriteWord w o n (piece o n)) (piecesOf 8 t data.length)

/-- R507 to R509: a BAR2 write. `outs` are the outcomes at the stacks of its pieces, in order. -/
def State.bar2Write (s : State) (off : Nat) (data : List Byte) (outs : List HbmOut) : State :=
  match s.aperture off with
  | .error r => (s.countBad 1 r).hostFail off stWindowViolation
  | .ok (w, t) =>
    let r := s.placeWrite w t data outs
    if r.2.1 = stOk then r.1 else r.1.hostFail off r.2.1

/-- R509: what the reader gets: the bytes, every byte 0xFF, or poisoned data. -/
def State.answerRead (s : State) (off n status : Nat) (data : List Byte) : State :=
  if status = stOk then s.reply data
  else if status = stWindowViolation then (s.reply (List.replicate n 0xFF)).hostFail off status
  else (s.setHost { s.host with answer := none, answerPoisoned := true }).hostFail off status

/-- R509: the bytes of a host read at a place of the aperture map. -/
def State.placeRead (s : State) (w : Fin 2) (t n : Nat) (outs : List HbmOut) (found : RowErr) : State × Nat × List Byte :=
  if t < 0x8000000000 then
    s.overPieces (fun s i o k => s.hbmAccess w .hostRead 2 0 o k [] (outs.getD i {})) (piecesOf 2048 t n)
  else s.overPieces (fun s i o k => s.hostReadWord w o k (if i = 0 then found else {})) (piecesOf 8 t n)

/-- R507 to R509: a BAR2 read. -/
def State.bar2Read (s : State) (off n : Nat) (outs : List HbmOut) (found : RowErr) : State :=
  match s.aperture off with
  | .error r => (s.countBad 1 r).answerRead off n stWindowViolation []
  | .ok (w, t) =>
    let r := s.placeRead w t n outs found
    r.1.answerRead off n r.2.1 r.2.2

/-- R23, R570: without power there is no endpoint, and in recovery it presents BAR4 only. -/
def State.barsShown (s : State) : Bool := s.up && !s.bit Reg.SC_BOOT_STATUS.RECOVERY 0

/-- R307: the wing on which a host write meets another write of the same bytes of HBM. -/
def State.countHostWrite (s : State) (off : Nat) (tie : Bool) : State :=
  match s.aperture off with
  | .ok (w, t) => s.countTdc w (tie && decide (t < 0x8000000000))
  | .error _ => s

/-- BAR2_WRITE (R307, R508). -/
def execBar2Write (off : BitVec 39) (data : List Byte) (outs : List HbmOut) (tie : Bool) (s : State) : Res :=
  .next (if s.barsShown then (s.countHostWrite off.toNat tie).bar2Write off.toNat data outs else s)

/-- BAR2_READ (R509). -/
def execBar2Read (off : BitVec 39) (len : Nat) (outs : List HbmOut) (re : RowErr) (s : State) : Res :=
  .next (if s.barsShown then s.bar2Read off.toNat len outs re else s)

end Sys2Proof.Machine
end

