-- ==== Sys2Proof/Machine/Encoding.lean ====
section
/-!
DEFINITION. The encoding of a bundle in a program row: R75 (slots), R76 (no-operation), R83 (row operands), R93, R94, R97,
R98 (CTL), R100, R101 (MEM), R103, R106 (Q), R107, R110, R111 (NET), R112, R113, R114 (VEC), R136, R137, R139, R146 (ARR);
and what of it the loader refuses (R484).
-/
namespace Sys2Proof.Machine

/-! ### Fields -/

/-- The bits `[lo + k - 1 : lo]` of a slot. -/
def bitsAt (v lo k : Nat) : BitVec k := BitVec.ofNat k (v >>> lo)

def bitAt (v lo : Nat) : Bool := v.testBit lo

/-- R83: the row operand at bit `lo`. -/
def rowAt (v lo : Nat) : RowOp := RowOp.ofBits (bitsAt v lo 16)

/-- R146: the accumulator operand at bit `lo`. -/
def accAt (v lo : Nat) : AccOp := { region := bitsAt v lo 4, row := bitsAt v (lo + 4) 11 }

/-! ### Slots -/

/-- R93, R94, R97, R98. -/
def ctlOf (v : Nat) : Option CtlOp :=
  match v % 256 with
  | 0x00 => none
  | 0x01 => some (.brc (bitsAt v 8 4) (bitsAt v 12 6) (bitsAt v 18 6) (bitsAt v 24 17))
  | 0x02 => some (.loop (bitAt v 8) (bitsAt v 9 6) (bitsAt v 15 16) (bitsAt v 31 17))
  | 0x03 => some (.twait (bitsAt v 8 4) (rowAt v 12) (bitsAt v 28 6) (bitsAt v 34 6))
  | 0x04 => some (if bitAt v 8 then .stepEnd else .stepBegin)
  | _ => some .reserved

/-- R100, R101. -/
def memOf (v : Nat) : Option MemOp :=
  match v % 256 with
  | 0x00 => none
  | 0x10 => some (.ldw (bitsAt v 8 2) (bitsAt v 10 6) (bitsAt v 16 2) (bitsAt v 18 16) (bitsAt v 34 6))
  | 0x11 => some (.stw (bitsAt v 8 6) (bitsAt v 14 2) (bitsAt v 16 16) (bitsAt v 32 6))
  | _ => some .reserved

/-- R103, R106. -/
def qOf (v : Nat) : Option QOp :=
  match v % 256 with
  | 0x00 => none
  | 0x20 => some (.qld (bitsAt v 8 5) (bitsAt v 13 2) (rowAt v 15) (bitsAt v 31 6) (bitAt v 37))
  | 0x21 => some (.qst (bitsAt v 8 5) (bitsAt v 13 2) (rowAt v 15) (bitsAt v 31 6) (bitAt v 37))
  | 0x22 => some (.qwait (bitAt v 8) (bitsAt v 9 32))
  | _ => some .reserved

/-- R107, R110, R111. -/
def netOf (v : Nat) : Option NetOp :=
  match v % 256 with
  | 0x00 => none
  | 0x30 => some (.send (rowAt v 8) (bitsAt v 24 4) (bitsAt v 28 6) (bitsAt v 34 4) (bitAt v 38) (bitAt v 39) (bitsAt v 40 4))
  | 0x31 => some (.post (rowAt v 8) (bitsAt v 24 4) (bitsAt v 28 6) (bitsAt v 34 4) (bitsAt v 38 6))
  | 0x32 => some (.rdrem (rowAt v 8) (bitsAt v 24 4) (bitsAt v 28 6) (bitAt v 34))
  | 0x33 => some (.bar (bitsAt v 8 4) (bitAt v 12))
  | 0x34 => some (.flag (bitsAt v 8 4) (bitsAt v 12 6) (bitsAt v 18 6) (bitsAt v 24 6) (bitAt v 30) (bitsAt v 31 4))
  | _ => some .reserved

/-- R114: the vector-form instruction of an opcode. -/
def vKindOf : Nat → Option VKind
  | 0x40 => some .vld | 0x41 => some .vlda | 0x42 => some .vst | 0x43 => some .vqnt
  | 0x44 => some .vste | 0x45 => some .vbcast | 0x46 => some .vmovs | 0x47 => some .vresc
  | 0x50 => some .vadd | 0x51 => some .vsub | 0x52 => some .vmul | 0x53 => some .vfma
  | 0x54 => some .vmax | 0x55 => some .vmin | 0x56 => some .vabs | 0x57 => some .vneg
  | 0x58 => some .vcmplt | 0x59 => some .vcmpeq
  | 0x60 => some .viadd | 0x61 => some .visub | 0x62 => some .vimul | 0x63 => some .vshl
  | 0x64 => some .vshr | 0x65 => some .vand | 0x66 => some .vor | 0x67 => some .vxor
  | 0x68 => some .vsel | 0x69 => some .vcvtif | 0x6A => some .vcvtfi
  | 0x70 => some .vexp2 | 0x71 => some .vrcp | 0x72 => some .vrsq | 0x73 => some .vsigm
  | 0x78 => some .vrsum | 0x79 => some .vrmax | 0x7A => some .vtopk
  | _ => none

/-- R114: the scalar-form instruction of an opcode. -/
def sKindOf : Nat → Option SKind
  | 0x80 => some .vsadd | 0x81 => some .vssub | 0x82 => some .vsmul | 0x83 => some .vsand
  | 0x84 => some .vsor | 0x85 => some .vsxor | 0x86 => some .vsshl | 0x87 => some .vsshr
  | 0x88 => some .vsmin | 0x89 => some .vsmax | 0x8A => some .vsli
  | _ => none

/-- R112: the fields of the vector form. -/
def vFormOf (v : Nat) : VForm :=
  { vd := bitsAt v 8 4, va := bitsAt v 12 4, vb := bitsAt v 16 4, vc := bitsAt v 20 4, fmt := bitsAt v 24 4
    rmode := bitsAt v 28 2, rowop := rowAt v 32, rowop2 := rowAt v 48, acc := accAt v 64
    immA := bitsAt v 80 8, immB := bitsAt v 88 8, immC := bitsAt v 96 8
    xe := bitAt v 104, side := bitAt v 105, sa := bitsAt v 106 6, release := bitAt v 112 }

/-- R113: the fields of the scalar form. -/
def sFormOf (v : Nat) : SForm :=
  { sd := bitsAt v 8 6, sa := bitsAt v 14 6, sb := bitsAt v 20 6, h := bitAt v 26, imm32 := bitsAt v 32 32 }

/-- R112, R113. -/
def vecOf (v : Nat) : Option VecOp :=
  if v % 256 = 0 then none
  else match vKindOf (v % 256), sKindOf (v % 256) with
    | some k, _ => some (.vec k (vFormOf v))
    | none, some k => some (.sca k (sFormOf v))
    | none, none => some .reserved

/-- R136, R137, R139. -/
def arrOf (v : Nat) : Option ArrOp :=
  match v % 256 with
  | 0x00 => none
  | 0x01 => some (.mload (bitsAt v 8 3) (rowAt v 11) (rowAt v 27) (rowAt v 43) (bitAt v 59))
  | 0x02 => some (.mstream (bitsAt v 8 3) (rowAt v 11) (bitsAt v 27 8) (accAt v 35) (bitsAt v 51 20) (rowAt v 71)
      (bitAt v 87) (bitAt v 88) (bitAt v 89))
  | 0x03 => some (.msparse (bitsAt v 8 3) (rowAt v 11) (rowAt v 27))
  | _ => some .reserved

/-! ### Bundles -/

/-- R75: the bundle that 64 bytes of a program row hold. -/
def decodeBundle (b : List Byte) : Bundle :=
  let slot (i n : Nat) : Nat := leNat ((b.drop i).take n)
  { ctl := ctlOf (slot 0 8), mem := memOf (slot 8 8), q := qOf (slot 16 8), net := netOf (slot 24 12)
    vec := vecOf (slot 36 16), arr := arrOf (slot 52 12) }

/-- R77: the eight bundles of each program row, in program-counter order. -/
def programBundles (rows : List (List Byte)) : List Bundle :=
  rows.flatMap (fun r => (List.range 8).map (fun k => decodeBundle ((r.drop (64 * k)).take 64)))

/-! ### What the loader refuses in a bundle (R484) -/

def ctlReserved : CtlOp → Bool
  | .brc c _ _ _ => decide (7 < c.toNat)
  | .twait k _ _ _ => decide (4 < k.toNat)
  | .reserved => true
  | .loop .. | .stepBegin | .stepEnd => false

def memReserved : MemOp → Bool
  | .ldw tk _ sk _ _ => decide (1 < tk.toNat) || decide (1 < sk.toNat)
  | .stw _ dk _ _ => decide (1 < dk.toNat)
  | .reserved => true

def qReserved : QOp → Bool
  | .reserved => true
  | .qld .. | .qst .. | .qwait .. => false

def netReserved : NetOp → Bool
  | .flag op _ _ _ _ _ => decide (3 < op.toNat)
  | .reserved => true
  | .send .. | .post .. | .rdrem .. | .bar .. => false

def vecReserved : VecOp → Bool
  | .vec k f => (k == .vld || k == .vst || k == .vqnt) && decide (7 < f.fmt.toNat)
  | .sca .. => false
  | .reserved => true

def arrReserved : ArrOp → Bool
  | .mload f _ _ _ _ => decide (4 < f.toNat)
  | .mstream f _ _ _ _ _ _ _ _ => decide (5 < f.toNat)
  | .msparse f _ _ => decide (1 < f.toNat)
  | .reserved => true

/-- R121, R153, R484: an opcode or field value of the bundle is reserved. -/
def bundleReserved (b : Bundle) : Bool :=
  b.ctl.any ctlReserved || b.mem.any memReserved || b.q.any qReserved || b.net.any netReserved ||
    b.vec.any vecReserved || b.arr.any arrReserved

/-- R412, R484: the bundle names channel 14 or 15. A local `FLAG` names no channel. -/
def bundleHawkChannel (b : Bundle) : Bool :=
  b.net.any (fun n => match n with
    | .send _ _ _ c _ _ _ | .post _ _ _ c _ => decide (13 < c.toNat)
    | .flag _ _ _ _ r c => r && decide (13 < c.toNat)
    | .rdrem .. | .bar .. | .reserved => false)

/-- R96: the CTL slot holds BRC or LOOP. -/
def bundleBranches (b : Bundle) : Bool :=
  b.ctl.any (fun c => match c with
    | .brc .. | .loop .. => true
    | .twait .. | .stepBegin | .stepEnd | .reserved => false)

/-- R96, R484: the END of a loop of the program carries BRC or LOOP. -/
def badLoopEnd (bs : List Bundle) : Bool :=
  bs.any (fun b => match b.ctl with
    | some (.loop _ _ _ last) => (bs[last.toNat]?).any bundleBranches
    | _ => false)

/-- R484: what the loader refuses in the bundles of a tile's program. -/
def programBad (rows : List (List Byte)) : Bool :=
  let bs := programBundles rows
  badLoopEnd bs || bs.any (fun b => bundleReserved b || bundleHawkChannel b)

end Sys2Proof.Machine
end

