-- ==== Sys2Proof/Machine/Loader.lean ====
section
/-!
DEFINITION. The loader (14, 18): the checks of a load (R483 to R488), loading (R495), the end of a job, and restarting
(R496, R604 to R614).
-/
namespace Sys2Proof.Machine

/-! ### What a tile image holds -/

/-- The value that an image gives the register at an offset of the tile block. -/
def imageReg (i : TileImage) (o : Nat) : Option Word := (i.regs.find? (fun e => e.1.toNat == o)).map (·.2)

/-- R484: the handles that an image makes valid: number and handle. -/
def imageHandles (i : TileImage) : List (Nat × Handle) :=
  (i.regs.filter (fun e => decide (0x800 ≤ e.1.toNat) && decide (e.1.toNat < 0x1000) && e.2.getLsbD 37)).map
    (fun e => ((e.1.toNat - 0x800) / 8, handleOfWord e.2))

/-- Runs (first, length) no two of which share an element. -/
def runsApart : List (Nat × Nat) → Bool
  | [] => true
  | a :: r => r.all (fun b => decide (a.1 + a.2 ≤ b.1) || decide (b.1 + b.2 ≤ a.1)) && runsApart r

/-- R484: the handles of an image. -/
def handlesOk (i : TileImage) : Bool :=
  let l := imageHandles i
  runsApart (l.map (fun e => (e.2.base, e.2.rows))) && l.all (fun e => decide (e.2.base + e.2.rows ≤ 16384)) &&
    (match l.find? (fun e => e.1 == 255) with
     | some e => e.2.valid && decide (e.2.mode = 0) && decide (e.2.owner = 1) && !e.2.stepclr && decide (e.2.base = 0) &&
         decide (e.2.rows = i.program.length) && decide (i.entry.toNat / 8 < i.program.length) &&
         decide (i.loadEntry.toNat / 8 < i.program.length)
     | none => false)

/-- R484: the resident runs of an image. -/
def residentOk (i : TileImage) : Bool :=
  i.resident.all (fun r => decide (r.1 % 4 = 0) && decide (r.2.length % 2048 = 0) &&
    (runOf r.1 (r.2.length / 512)).all (fun row => (imageHandles i).any (fun e =>
      e.2.valid && decide (e.2.owner = 0) && decide (e.2.base ≤ row) && decide (row < e.2.base + e.2.rows))))

/-- R180, R484: no window of an image names an OVERWRITE handle or the program handle. -/
def windowsOk (i : TileImage) : Bool :=
  i.regs.all (fun e =>
    if 0x1000 ≤ e.1.toNat ∧ e.1.toNat < 0x1100 ∧ e.1.toNat % 16 = 0 then
      let h := getBits e.2 0 8
      decide (h ≠ 255) && (imageHandles i).all (fun d => decide (d.1 ≠ h) || decide (d.2.mode ≠ 2))
    else true)

/-- R485: the accumulator regions of an image. -/
def regionsOk (i : TileImage) : Bool :=
  let l := (i.regs.filter (fun e => decide (0x400 ≤ e.1.toNat) && decide (e.1.toNat < 0x480) && e.2.getLsbD 23)).map
    (fun e => (getBits e.2 0 11, (getBits e.2 11 11 + 1) * (if e.2.getLsbD 22 then 2 else 1)))
  runsApart l && l.all (fun r => decide (r.1 + r.2 ≤ 2048))

/-- R484, R485. -/
def tileImageOk (i : TileImage) : Bool :=
  handlesOk i && residentOk i && windowsOk i && regionsOk i && !programBad i.program

/-! ### The checks of a load (R483) -/

/-- R501: a refusal. -/
structure LoadRefusal where
  status : Nat
  check : Nat
  lchip : Nat
  tile : Nat := 0x3FF
  cls : Nat := 0
  deriving DecidableEq, Repr

/-- A check that fails when its condition holds. -/
def failIf (b : Bool) (r : LoadRefusal) : List LoadRefusal := if b then [r] else []

/-- R483 checks 1 to 5. -/
def State.checksHead (s : State) (i : Imago) : List LoadRefusal :=
  let c := i.lchip0.toNat
  failIf (s.bit Reg.SC_BOOT_STATUS.SAFE 0) ⟨stSafeMode, 1, c, 0x3FF, 0⟩ ++
  failIf (s.bit Reg.SC_BOOT_STATUS.DEBUG_UNLOCKED 0 || !s.slotGood i.keySlot.toNat || !i.sigOk)
    ⟨stAuthFailed, 2, c, 0x3FF, 0⟩ ++
  failIf (decide (i.wsvn.toNat < s.fld Reg.SC_OTP_STATE.WSVN 0)) ⟨stAuthFailed, 3, c, 0x3FF, 0⟩ ++
  failIf (!i.magicOk || i.format != 1 || (i.gen != 9 && i.gen != 7) || (i.modeReq == 1 && !i.svJob.getLsbD 31))
    ⟨stPlanMismatch, 4, c, 0x3FF, 0⟩ ++
  bothWings.flatMap (fun w =>
    failIf (decide (i.grade.toNat ≠ s.fld Reg.CF_WING_ID.GRADE w) || i.modules != i.jobModules)
      ⟨stPlanMismatch, 5, c + w.val, 0x3FF, 0⟩)

/-- R487, R488: the native latency of a class on a wing. -/
def State.nativeLat (s : State) (w : Fin 2) (k : Nat) : Nat := getBits (s.reg (Reg.CF_UNIT_LAT.LAT_0.at w 0)) (4 * k) 4

/-- R483 checks 6 and 7. -/
def State.checksParts (s : State) (i : Imago) : List LoadRefusal :=
  let c := i.lchip0.toNat
  bothWings.flatMap (fun w => (List.range 10).flatMap (fun k =>
    failIf (decide (profileLat i.profile.toNat k < s.nativeLat w k) || (i.profile != 1 && i.profile != 2))
      ⟨stProfileMismatch, 6, c + w.val, 0x3FF, k⟩)) ++
  bothWings.flatMap (fun w =>
    failIf (decide (s.fld Reg.MX_BRIDGE_STATUS.LINK_OK w ≠ 2 ^ 24 - 1) || decide (s.fld Reg.CM_STATUS.TRAINED w ≠ 1023))
      ⟨stLinkLost, 7, c + w.val, 0x3FF, 0⟩) ++
  failIf (!i.verdictsOk) ⟨stPlanMismatch, 7, c, 0x3FF, 0⟩

/-- R483 check 8. -/
def checksTiles (i : Imago) : List LoadRefusal :=
  failIf (!i.relocOk) ⟨stPlanMismatch, 8, i.lchip0.toNat, 0x3FF, 0⟩ ++
  i.tiles.flatMap (fun t =>
    failIf (!tileImageOk t) ⟨stPlanMismatch, 8, i.lchip0.toNat + t.site.wing.val, t.site.tile.toNat, 0⟩)

/-- R421: the entries of a step's token list. -/
def jobTokens (i : Imago) : Nat := getBits i.svJob 43 12 * getBits i.svStep 0 15

/-- R126, R363, R486: the longest planned wait is below the limits, of which 0 acts as 1. -/
def State.waitOk (s : State) (i : Imago) : Bool :=
  i.tiles.all (fun t => decide (i.waitBound <
    max 1 (getBits ((imageReg t 0x18).getD (s.reg (Reg.TC_WAIT_LIMIT.LIMIT_US.on t.site 0))) 0 24))) &&
  bothWings.all (fun w => decide (i.waitBound < max 1 (s.fld Reg.FB_HOLD_LIMIT.LIMIT_US w)))

/-- R483 check 9: R486, R421, R439, R442. -/
def State.checksLimits (s : State) (i : Imago) : List LoadRefusal :=
  failIf (decide (56 < i.strictStreams) || decide (4096 < i.openMsgs) || decide (65535 < i.msgPackets) ||
      decide (1875 < i.stackRows) || i.tLims.any (fun t => decide (t.toNat < jobTokens i)) || !s.waitOk i ||
      decide (getBits i.svJob 29 2 = 3) || i.poolOverlap || !runsApart i.pageRanges)
    ⟨stPlanMismatch, 9, i.lchip0.toNat, 0x3FF, 0⟩

/-- The regions of a wing in the job description: base and size in bytes, kind. -/
def imageRegions (i : Imago) (w : Fin 2) : List (Nat × Nat × Nat) :=
  (i.regions.filter (fun r => r.1 == w)).map
    (fun r => (r.2.2.1.toNat, r.2.2.2.1.toNat, r.2.2.2.2.toNat))

/-- The size of the first region of a kind; 0 where there is none. -/
def sizeOfKind (l : List (Nat × Nat × Nat)) (k : Nat) : Nat := ((l.find? (fun r => r.2.2 == k)).map (·.2.1)).getD 0

/-- The number that a list gives a wing. -/
def wingNat (l : List (Fin 2 × Nat)) (w : Fin 2) : Option Nat := (l.find? (fun e => e.1 == w)).map (·.2)

/-- R302: the partner of a wing is another chip than `CM_MIRROR_CTL` names; 0xFFFF names none, and the loader will write it (log
entry 65). -/
def State.partnerOther (s : State) (i : Imago) (w : Fin 2) : Bool :=
  let own := s.fld Reg.CM_MIRROR_CTL.PARTNER_CHIP w
  match (i.partnerChip.find? (fun e => e.1 == w)) with
  | some e => own != 0xFFFF && e.2.toNat != own
  | none => false

/-- R297: S_G is no multiple of 2 KiB, or the page groups of an intake module reach beyond the wing's region of kind 1. -/
def groupsBad (i : Imago) (w : Fin 2) (size : Nat) : Bool :=
  decide (groupSize i w % 2048 ≠ 0) || i.pageRanges.any (fun p => decide (size < (p.1 + p.2) * groupSize i w))

/-- R483 check 10 on one wing: R285, R297, R302, R476. -/
def State.hbmPlanBad (s : State) (i : Imago) (w : Fin 2) : Bool :=
  let l := imageRegions i w
  let n := s.fld Reg.AU_LEDGER_CTL.NSLOTS w
  !runsApart (l.map (fun r => (r.1, r.2.1))) || l.any (fun r => decide (r.1 % 2 ^ 21 ≠ 0) || decide (r.2.1 % 2 ^ 21 ≠ 0)) || decide (n < 2) ||
    decide (sizeOfKind l 4 < 2 ^ 21 + 23068672 * n) ||
    groupsBad i w (sizeOfKind l 1) || decide (sizeOfKind l 1 < (getBits i.svPages 0 32 + getBits i.svPages 32 32) * groupSize i w) ||
    s.partnerOther i w ||
    (match wingNat i.partnerBytes w with | some b => decide (sizeOfKind l 6 < 2 ^ 21 + b) | none => false)

/-- R483 checks 10 and 11. -/
def State.checksHbm (s : State) (i : Imago) : List LoadRefusal :=
  let c := i.lchip0.toNat
  bothWings.flatMap (fun w => failIf (s.hbmPlanBad i w) ⟨stPlanMismatch, 10, c + w.val, 0x3FF, 0⟩) ++
  bothWings.flatMap (fun w =>
    failIf ((imageRegions i w).any (fun r => decide (0x7800000000 < r.1 + r.2.1))) ⟨stBudgetRefused, 11, c + w.val, 0x3FF, 0⟩)

/-- R483, R590: the first check that fails. -/
def State.loadRefusal (s : State) (i : Imago) : Option LoadRefusal :=
  (s.checksHead i ++ s.checksParts i ++ checksTiles i ++ s.checksLimits i ++ s.checksHbm i ++
    failIf (i.enc && (!i.tagsOk || s.cocoon.weightKey.isNone)) ⟨stAuthFailed, 0, i.lchip0.toNat, 0x3FF, 0⟩).head?

/-- R501: a refusal is recorded on both wings. -/
def State.refuseLoad (s : State) (r : LoadRefusal) : State :=
  bothWings.foldl (fun s w => s.setReg (Reg.CF_LOAD_STATUS.VALID.at w 0) (BitVec.ofNat 64
    (1 + r.status % 256 * 2 + r.check % 16 * 2 ^ 9 + r.lchip % 2 ^ 16 * 2 ^ 13 + r.tile % 1024 * 2 ^ 29 +
      r.cls % 16 * 2 ^ 39))) s

/-! ### The end of a job -/

/-- R285, R465: a job is unloaded on a wing: its open ledger blocks close. -/
def State.endJob (s : State) (w : Fin 2) : State :=
  let s := (s.setFld Reg.CM_STATUS.JOB w 0).closeBlocks w
  if s.loaded (otherWing w) then s else s.setJob { s.job with img := none }

/-- R333, R362, R465: a write of `FB_JOB`; one that leaves LOADED 0 ends the job. -/
def State.jobWrite (s : State) (w : Fin 2) (v : Word) : State :=
  let was := s.loaded w
  let s := s.fbJobWrite w v
  if getBits v 8 1 = 1 then s else if was then (s.dropQueued w).endJob w else s.endJob w

/-- FB_JOB_WRITE (R362, R384, R465). -/
def execFbJobWrite (w : Fin 2) (value : BitVec 64) (s : State) : Res := .next (s.whenUp (s.jobWrite w value))

/-! ### A tile before its program starts -/

/-- Registers of a tile block that a load or restart sets to 0 or writes whole: `TC_WIN_STATE`, `AY_STATUS`, handles,
windows, barrier states, flags, `CM_Q_STATE` (R154, R168, R182, R270, R273, R319). -/
def freshTileReg (a : Nat) : Bool :=
  let x := a % 0x2000000
  let o := x % 0x2000
  decide (0x1000000 ≤ x) && decide (x < 0x1800000) &&
    (o == 0x40 || o == 0x480 || (decide (0x800 ≤ o) && decide (o < 0x1100)) || (decide (0x1880 ≤ o) && decide (o < 0x1B00)) ||
      o == 0x1C00)

/-- R367, R315: the state words of fabric barriers. -/
def State.clearFbBars (s : State) (w : Fin 2) : State :=
  (List.range 16).foldl (fun s n =>
    let a := Reg.FB_BAR1.ARRIVED.at w n
    s.setReg a (setBits (s.reg a) Reg.FB_BAR1.ARRIVED.lo (64 - Reg.FB_BAR1.ARRIVED.lo) 0)) s

/-- R82, R154, R166, R182, R270: every tile begins anew; a restart keeps the tags. -/
def State.freshTiles (s : State) (restart : Bool) : State :=
  let s := s.setRegs (s.regs.filter (fun e => !freshTileReg e.1))
  let s := (s.clearFbBars 0).clearFbBars 1
  if restart then
    s.setTiles (smap (fun _ => {}) (fun _ t =>
      { full := t.full.filter (fun r => !t.emptyLater.contains r && !t.stepClear.contains r), reads := t.reads
        upsets := t.upsets }) s.tiles)
  else
    (s.setTiles []).setMem (s.mem.filter (fun c =>
      decide (c.1 % 2 ^ 48 < 0x8000000000) || decide (0x8200000000 ≤ c.1 % 2 ^ 48)))

/-- R129, R395, R495 steps 3 and 5: a register of an image; commands, `TC_RUN` and `TC_STEP_LOCAL` are not part of it. -/
def State.writeImage (s : State) (u : Site) (o : Nat) (v : Word) : State :=
  if o = 0x8 ∨ o = 0x30 ∨ o = 0x38 ∨ o = 0x48 ∨ o = 0x50 then s
  else if o < 0x400 then s.tcWrite u false 0 o v
  else s.writeAccess .tile o (tileAddr u o) v

def isWindowReg (o : Nat) : Bool := decide (0x1000 ≤ o) && decide (o < 0x1100)

/-- R495 steps 3 and 5 for one tile: registers, then window descriptors, then the windows marked open. -/
def State.writeTileImage (s : State) (i : TileImage) : State :=
  let s := (i.regs.filter (fun e => !isWindowReg e.1.toNat)).foldl (fun s e => s.writeImage i.site e.1.toNat e.2) s
  let s := (i.regs.filter (fun e => isWindowReg e.1.toNat)).foldl (fun s e => s.writeImage i.site e.1.toNat e.2) s
  i.opened.foldl (fun s e => s.windowOpen i.site e.1.toNat e.2.1 e.2.2) s

/-- R495 step 4: the program rows, each whole and full; window 15 has admitted and landed them. -/
def State.writeProgram (s : State) (i : TileImage) : State :=
  let s := i.program.zipIdx.foldl (fun s p => s.fillRow i.site p.2 p.1) s
  (s.setTfld i.site Reg.SP_WIN1.ADMITTED i.program.length 15).setTfld i.site Reg.SP_WIN1.LANDED i.program.length 15

/-- R496, R610 step 3: the program of a tile is written again when its handle's rows are not all full, or one of them has
met an uncorrectable codeword. -/
def State.programLost (s : State) (i : TileImage) : Bool :=
  let t := s.tile i.site
  (List.range i.program.length).any (fun r => !t.isFull r) ||
    (s.tbit i.site Reg.SP_ECC_STATUS.UE_VALID && decide (s.tfld i.site Reg.SP_ECC_STATUS.UE_ROW < i.program.length))

/-- R412: channels 14 and 15 of a wing are flag channels of the data class. -/
def State.engineChannels (s : State) (w : Fin 2) : State :=
  (s.setFld Reg.FB_CHAN_CFG.ORDER w (s.fld Reg.FB_CHAN_CFG.ORDER w ||| 0xC000)).setFld Reg.FB_CHAN_CFG.CLASS w
    (s.fld Reg.FB_CHAN_CFG.CLASS w % 0x4000)

/-- R412, R495 step 3: the fabric image. -/
def State.writeFabric (s : State) (l : List (Fin 2 × BitVec 20 × BitVec 64)) : State :=
  ((l.foldl (fun s e => s.writeAccess .fb e.2.1.toNat (regAddr e.1 .fb e.2.1.toNat) e.2.2) s).engineChannels 0).engineChannels 1

/-- Rows written from a row of a handle on. -/
def State.fillRows (s : State) (u : Site) (row : Nat) (rows : List (List Byte)) : State :=
  rows.zipIdx.foldl (fun s p => s.fillRow u (row + p.2) p.1) s

/-- The first copy of a table as the imago brings it; the engine sets the version of a placement table (R226). -/
def imageTable (t : TableImage) : List Byte :=
  let d := t.rows.flatMap (padTo 512)
  if t.layer.isSome then setVersion d t.version else d

/-- Rows of a table's bytes. -/
def tableRows (d : List Byte) (n : Nat) : List (List Byte) := (List.range n).map (fun i => (d.drop (512 * i)).take 512)

/-- R244, R495 step 6: copy 0 and copy 1 of a table. -/
def State.writeTable (s : State) (t : TableImage) (d0 d1 : List Byte) : State :=
  let b := (s.handle t.site t.handle.toNat).base
  let n := t.rows.length
  (s.fillRows t.site b (tableRows d0 n)).fillRows t.site (b + n) (tableRows d1 n)

/-- R551: the tiers that an image's handles use are powered up before it is written. -/
def State.raiseTiers (s : State) (tiles : List TileImage) : State :=
  (List.finRange 8).foldl (fun s t =>
    if tiles.any (fun i => i.site.wing == tierWing t &&
        (imageHandles i).any (fun e => inTier (t.val % 4) e.2.base e.2.rows)) && s.tierDown (tierWing t) (t.val % 4) then
      let s := s.tierUpRequest t.val
      if s.power.rising.contains t.val && decide (s.leverSum ≤ s.pool) then s.tierRise t else s
    else s) s

/-- R495 step 7: the tile starts at LOAD_ENTRY. -/
def State.startTile (s : State) (i : TileImage) : State :=
  s.runWrite i.site (BitVec.ofNat 64 (1 + i.loadEntry.toNat * 2 ^ 17))

/-- R395: the first step of a fresh job is 1, that of a replay run the first scripted one. -/
def firstStepOf (i : Imago) : BitVec 64 := if i.replay then i.firstStep else 1

/-- R299, R395: the first step that the run executes; a span bank armed for it takes force. -/
def State.setFirstStep (s : State) (tiles : List TileImage) (step : BitVec 64) : State :=
  let s := (s.setReg (Reg.TB_STEP.STEP.at 0 0) step).setReg (Reg.TB_STEP.STEP.at 1 0) step
  let s := (s.flipSpans 0 step.toNat).flipSpans 1 step.toNat
  tiles.foldl (fun s i => s.setReg (Reg.TC_STEP_LOCAL.STEP.on i.site 0) (step - 1)) s

/-- R495 step 7, R610 step 3: the epoch of both wings, which flips an armed routing table, and LOADED. -/
def State.setLoaded (s : State) : State :=
  bothWings.foldl (fun s w => s.fbJobWrite w (BitVec.ofNat 64 ((s.fld Reg.FB_JOB.EPOCH w + 1) % 256 + 256))) s

/-- R553, R555, R585: the copy in force is selected anew, and the bands' margins are re-planned from its codes. -/
def State.replanBoth (s : State) (slacks : List (BitVec 8)) : State :=
  let s := s.selectInstar false
  let s := match s.cocoon.inForce with | some i => s.loadCodes i | none => s
  (s.replanLoad 0 slacks).replanLoad 1 (slacks.drop 12)

/-! ### Loading (R495) -/

/-- R308: a region descriptor. -/
def regionWord (base size : BitVec 18) (kind : BitVec 4) : Word :=
  BitVec.ofNat 64 (base.toNat + size.toNat * 2 ^ 18 + kind.toNat * 2 ^ 36 + 2 ^ 40)

/-- R495 step 1: the region descriptors. -/
def State.writeRegions (s : State) (i : Imago) : State :=
  let s := bothWings.foldl (fun s w => (List.range 16).foldl (fun s n => s.setReg (Reg.CM_REGION.BASE.at w n) 0) s) s
  i.regions.foldl (fun s r => s.setReg (Reg.CM_REGION.BASE.at r.1 r.2.1.toNat) (regionWord (r.2.2.1.extractLsb' 21 18) (r.2.2.2.1.extractLsb' 21 18) r.2.2.2.2)) s

/-- R488, R499: the profile in force, and whether the equaliser pads. -/
def State.setProfile (s : State) (w : Fin 2) (p : Nat) : State :=
  let s := s.setFld Reg.CF_PROFILE.PROFILE w p
  let pads := (p == 1 || p == 2) && (List.range 10).any (fun k => decide (s.nativeLat w k < profileLat p k))
  s.setFld Reg.CF_PROFILE.PADDED w (if pads then 1 else 0)

/-- R437 to R443: the registers of the serving engine for a fresh job on a wing. -/
def State.writeServing (s : State) (i : Imago) (w : Fin 2) : State :=
  let s := s.setReg (Reg.SV_JOB_CFG.SLOT_LO.at w 0) (BitVec.ofNat 64 (i.svJob.toNat % 2 ^ 55))
  let s := s.setReg (Reg.SV_STEP_CFG.TOKENS.at w 0) (BitVec.ofNat 64 (i.svStep.toNat % 2 ^ 48))
  let s := s.setFld Reg.SV_LIMITS.LMAX w (getBits i.svLimits 24 32)
  let s := s.setReg (Reg.SV_PAGE_RANGE.FIRST.at w 0) i.svPages
  let s := s.setReg (Reg.SV_COMMITTED.STEP.at w 0) (firstStepOf i - 1)
  let s := s.setReg (Reg.SV_MIRRORED.STEP.at w 0) (firstStepOf i - 1)
  let s := s.setReg (Reg.SV_RELEASED.STEP.at w 0) (firstStepOf i - 1)
  let s := s.setReg (Reg.SV_RESTART.COUNT.at w 0) 0
  let s := (List.range 8).foldl (fun s n => s.setFld Reg.SV_TABLE_PUB1.STATE w 0 n) s
  s.setFld Reg.AU_LEDGER_STATUS.FULL w 0

/-- R24, R372: the chip number of a wing of module M. -/
def chipOf (m : BitVec 11) (w : Fin 2) : Nat := 2 * m.toNat + w.val

/-- R495 step 1 on one wing. -/
def State.writeConfig (s : State) (i : Imago) (w : Fin 2) : State :=
  let s := s.setFld Reg.AU_REPLAY.ENABLE w (if i.replay then 1 else 0)
  let s := (s.setProfile w i.profile.toNat).writeServing i w
  let s := s.setFld Reg.FB_CHIP_ID.CHIP w (chipOf i.modNum w)
  let s := s.setFld Reg.FB_CHIP_ID.GROUP w i.group.toNat
  match (i.partnerChip.find? (fun e => e.1 == w)) with
  | some e => s.setFld Reg.CM_MIRROR_CTL.PARTNER_CHIP w e.2.toNat
  | none => s

/-- What a wing's engine keeps of an earlier job is gone, but for closed blocks whose signatures are to come (R465); links, timebase
and HBM stay. -/
def Wing.newJob (x : Wing) (unsigned : List OldBlock) : Wing :=
  { poison := x.poison, oldBlocks := x.oldBlocks ++ unsigned, reports := x.reports, refreshing := x.refreshing, ports := x.ports, lfsr := x.lfsr, sweepBins := x.sweepBins
    hawkStatus := x.hawkStatus, hawkData := x.hawkData, time := x.time }

/-- R248, R495 step 2: the initial tables are written into the region of kind 7, one record for each set. -/
def State.recordImages (s : State) (w : Fin 2) (l : List TableImage) : State :=
  (List.range 8).foldl (fun s n =>
    match l.find? (fun t => t.set.toNat == n) with
    | some t => s.recordTable w n { version := t.version.toNat, swap := 0, data := imageTable t }
    | none => s) s

/-- R413, R421, R443, R495 step 2: the serving engine's regions for a fresh job: the table's header, FREE records, the tables, an empty
list. The mirror begins with what the first step changes. -/
def State.writeEngineRegions (s : State) (w : Fin 2) (i : Imago) : State :=
  let lo := s.fld Reg.SV_JOB_CFG.SLOT_LO w
  let s := (s.zeroRegion w 2 0 4096).zeroRegion w 2 (4096 + 256 * lo) (256 * (s.fld Reg.SV_JOB_CFG.SLOT_HI w + 1 - lo))
  let s := s.writeRegion w 2 0 (leBytes 8 (firstStepOf i - 1).toNat ++ leBytes 8 (firstStepOf i - 1).toNat)
  let s := (List.range 16).foldl (fun s k => s.zeroRegion w 7 (s.tableAt (k / 2) (k % 2)) 24) s
  let s := s.recordImages w i.tables
  let s := (s.writeRegion w 3 0 (listBytes [] (s.listTokens w))).refreshSlots w
  s.setWing w { s.wing w with dirty := [] }

/-- R315: no slot's stores are filtered as a job is loaded. -/
def State.clearCancelMap (s : State) (w : Fin 2) : State :=
  let a := Reg.CM_CANCEL_MAP.MAP.at w 0
  s.setRegs (s.regs.filter (fun e => decide (e.1 < a) || decide (a + 8 * 256 ≤ e.1)))

/-- R250, R495 step 6: the published tables, copy 0 in force. -/
def State.loadTables (s : State) (l : List TableImage) : State :=
  l.foldl (fun s t =>
    let x := s.wing t.site.wing
    let s := s.setWing t.site.wing { x with tableVer := sset (fun _ => 0) x.tableVer t.set.toNat t.version.toNat }
    (s.setTfld t.site Reg.TC_TABLE_SEL.ACTIVE 0).writeTable t (imageTable t) (imageTable t)) s

/-- R247, R250: each tile has taken the publications made so far. -/
def State.seenGens (s : State) (u : Site) : State :=
  (List.range 8).foldl (fun s n =>
    let a := Reg.TC_TABLE_SEL.ACTIVE.on u 0
    s.setReg a (setBits (s.reg a) (8 + 4 * n) 4 (s.fld Reg.SV_TABLE_PUB1.GEN u.wing n))) s

/-- R495: what a load does once its checks have passed. -/
def State.loadJob (s : State) (i : Imago) (slacks : List (BitVec 8)) : State :=
  let s := ((s.endJob 0).endJob 1).setJob { img := some i }
  let s := (s.clearRun 0).clearRun 1
  let s := bothWings.foldl (fun s w => (s.setWing w ((s.wing w).newJob (s.unsigned w))).clearCancelMap w) s
  let s := (s.raiseTiers i.tiles).freshTiles false
  let s := ((s.writeRegions i).writeConfig i 0).writeConfig i 1
  let s := s.setFirstStep i.tiles (firstStepOf i)
  let s := i.reload.foldl (fun s e => s.writeRegion e.1 5 0 e.2) s
  let s := bothWings.foldl (fun s w => s.writeEngineRegions w i) s
  let s := s.writeFabric i.fabric
  let s := i.tiles.foldl (fun s t => (s.writeTileImage t).writeProgram t) s
  let s := (s.loadTables i.tables).replanBoth slacks
  let s := i.tiles.foldl (fun s t => s.seenGens t.site) s
  i.tiles.foldl State.startTile s.setLoaded

/-- R483, R497: a load. -/
def State.load (s : State) (i : Imago) (slacks : List (BitVec 8)) : State :=
  if !s.board.booted then s
  else if s.loaded 0 || s.loaded 1 then s.refuseLoad ⟨stPlanMismatch, 0, i.lchip0.toNat, 0x3FF, 0⟩
  else match s.loadRefusal i with
    | some r => s.refuseLoad r
    | none => s.loadJob i slacks

/-- JOB_LOAD (R483, R495). -/
def execJobLoad (img : Imago) (slacks : List (BitVec 8)) (s : State) : Res := .next (s.load img slacks)

/-! ### Restarting (R604 to R614) -/

/-- A run of bytes of a record, as a number. -/
def part (b : List Byte) (off n : Nat) : Nat := leNat ((b.drop off).take n)

/-- R413: a slot record read back from its bytes; the record does not hold the vector and SCORE_ADDR of its SUBMIT. -/
def slotOfBytes (b : List Byte) (groups : List Nat) : Slot :=
  { reqId := BitVec.ofNat 64 (part b 0 8), state := part b 8 1, kind := part b 9 1, cancel := part b 10 1 == 1
    dReq := part b 11 1, dCur := part b 12 1, rejRun := part b 13 1, seed := BitVec.ofNat 64 (part b 16 8)
    promptLen := part b 24 4, promptDone := part b 28 4, len := part b 32 4, maxNew := part b 36 4, new := part b 40 4
    stopToken := BitVec.ofNat 32 (part b 44 4), seq := part b 48 8, lastStep := part b 56 8, promptAddr := part b 64 8
    pageList := part b 72 8, groups := groups, lastToken := BitVec.ofNat 32 (part b 84 4), homeChip := part b 88 2
    promptHold := part b 90 1 == 1, vector := 2 }

/-- R608: the request table of a spare, from the region of kind 2 that was copied to it. -/
def State.readSlots (s : State) (w : Fin 2) : State :=
  let lo := s.fld Reg.SV_JOB_CFG.SLOT_LO 0
  let l := (runOf lo (s.fld Reg.SV_JOB_CFG.SLOT_HI 0 + 1 - lo)).map (fun n =>
    let b := s.readRegion w 2 (4096 + 256 * n) 256
    let g := s.readRegion w 7 (part b 72 8) (4 * part b 80 4)
    (n, slotOfBytes b ((List.range (part b 80 4)).map (fun i => part g (4 * i) 4))))
  let x := s.wing w
  let slots := (l.filter (fun e => e.2.state != slFree)).foldl (fun m e => sset (fun _ => {}) m e.1 e.2) []
  (s.setWing w { x with
    slots := slots, nextSeq := slots.foldl (fun m e => max m (e.2.seq + 1)) x.nextSeq }).refreshSlots w

/-- R422: an entry read back from its bytes. -/
def entryOfBytes (b : List Byte) : Entry :=
  let v := leNat b
  { tokenId := BitVec.ofNat 32 v, slot := BitVec.ofNat 14 (v / 2 ^ 32), role := BitVec.ofNat 2 (v / 2 ^ 46)
    draftI := BitVec.ofNat 3 (v / 2 ^ 48), last := v.testBit 51, score := v.testBit 52
    pos := BitVec.ofNat 32 (v / 2 ^ 64), seed := BitVec.ofNat 64 (v / 2 ^ 128) }

/-- R608: the token list of the resumed step, from the region of kind 3 that was copied to a spare. -/
def State.readBatch (s : State) (w : Fin 2) : Sparse Entry :=
  ((List.range (s.listTokens w)).map (fun t => (t, entryOfBytes (s.readRegion w 3 (32 * t) 32)))).filter
    (fun e => e.2.role != 3)

/-- R464, R467: the open block of a spare's ledger, from the header that was copied to it. -/
def State.readBlock (s : State) (w : Fin 2) : LedgerBlock :=
  let n := part (s.readRegion w 4 0 8) 0 8
  let b := s.readRegion w 4 (s.blockAt w n) 232
  let digest (off : Nat) : BitVec 384 := BitVec.ofNat 384 (leNat ((b.drop off).take 48).reverse)
  { number := part b 0 8, firstStep := part b 8 8, lastStep := part b 16 8, state := part b 35 1
    prevChain := digest 36, finalChain := digest 84, keySlot := part b 132 1
    signature := BitVec.ofNat 768 (leNat ((b.drop 136).take 96).reverse) }

/-- R413, R443, R604: COMMITTED and RELEASED of a spare from the header copied to it, and the step that the mirror's header held. -/
def State.adoptSteps (s : State) (w : Fin 2) (mirrored : Nat) : State :=
  let h := s.readRegion w 2 0 16
  let s := s.setReg (Reg.SV_COMMITTED.STEP.at w 0) (BitVec.ofNat 64 (part h 0 8))
  let s := s.setReg (Reg.SV_RELEASED.STEP.at w 0) (BitVec.ofNat 64 (part h 8 8))
  s.setReg (Reg.SV_MIRRORED.STEP.at w 0) (BitVec.ofNat 64 mirrored)

/-- R465, R467: a spare's ledger: the block copied to it, which closes when the mirror has acknowledged its last step. -/
def State.adoptBlock (s : State) (w : Fin 2) (mirrored : Nat) : State :=
  let b := s.readBlock w
  let s := s.setWing w { s.wing w with blocks := [b] }
  let s := (s.setFld Reg.AU_LEDGER_STATUS.OPEN_BLOCK w b.number).setWing w
    { s.wing w with chain := s.recordedChain w b.lastStep }
  if b.lastStep % blockSteps = 65535 ∧ b.lastStep ≤ mirrored then s.closeBlock w b.number else s

/-- R420, R443, R467, R604, R608, R613: what a spare takes from the regions copied to it. -/
def State.adopt (s : State) (w : Fin 2) (mirrored : Nat) (hold : Bool) : State :=
  let s := ((s.adoptSteps w mirrored).readSlots w).adoptBlock w mirrored
  let x := s.wing w
  s.setWing w { x with
    batch := s.readBatch w, nextBatch := s.readBatch w, dirty := []
    slots := smap (fun _ => {}) (fun _ y =>
      if hold ∧ (y.state = slQueued ∨ y.state = slPrefill) then { y with promptHold := true } else y) x.slots }

/-- R612: a poisoned granule of the region of kind 5 waits for a REPAIR_RELOAD. -/
def State.reloadPoisoned (s : State) (w : Fin 2) : Bool :=
  (s.wing w).poison.any (fun g => match s.regionAt w (2048 * g) with | some r => r.kind == 5 | none => false)

/-- R607, R610 step 2: chip numbers of a spare, verdicts, and the routing bank not in force, which is armed. -/
def State.writePlan (s : State) (p : RestartPlan) : State :=
  let s := if p.spare then
      (s.setFld Reg.FB_CHIP_ID.CHIP 0 (chipOf p.modNum 0)).setFld Reg.FB_CHIP_ID.CHIP 1 (chipOf p.modNum 1) else s
  let s := p.partnerChip.foldl (fun s e => s.setFld Reg.CM_MIRROR_CTL.PARTNER_CHIP e.1 e.2.toNat) s
  let s := p.verdicts.foldl (fun s e => (s.setFld Reg.FB_PORT_VERDICT.VERDICT e.1 e.2.toNat).applyVerdicts e.1) s
  let s := p.routes.foldl (fun s e =>
    let f := if s.bit Reg.FB_ROUTE_CTL.ACTIVE e.1 then Reg.FB_ROUTE_BANK0.PORTS else Reg.FB_ROUTE_BANK1.PORTS
    s.setReg (f.at e.1 e.2.1.toNat) (BitVec.ofNat 64 (e.2.2.toNat % 2 ^ 19))) s
  if p.routes.isEmpty then s
  else (s.setFld Reg.FB_ROUTE_CTL.ARMED 0 1).setFld Reg.FB_ROUTE_CTL.ARMED 1 1

/-- R248: a table at a restart: copy 0 is the one in force at the resumed step, copy 1 the one armed beyond it, if there is one. -/
def State.restoreTable (s : State) (f : Nat) (t : TableImage) : State :=
  let w := t.site.wing
  let d := ((s.tableInForce w t.set.toNat f).map (·.data)).getD (imageTable t)
  (s.setTfld t.site Reg.TC_TABLE_SEL.ACTIVE 0).writeTable t d (((s.tablePending w t.set.toNat f).map (·.data)).getD d)

/-- R248, R459: the version in force of a set at a restart, and its publication beyond the resumed step, which is armed again. -/
def State.rearm (s : State) (w : Fin 2) (f : Nat) (t : TableImage) : State :=
  let n := t.set.toNat
  let x := s.wing w
  let s := s.setWing w { x with
    tableVer := sset (fun _ => 0) x.tableVer n (((s.tableInForce w n f).map (·.version)).getD t.version.toNat) }
  match s.tablePending w n f with
  | some r =>
    let x := s.wing w
    let s := s.setWing w { x with tablePend := sset (fun _ => 0) x.tablePend n r.version }
    (s.setReg (Reg.SV_TABLE_PUB0.SWAP_STEP.at w n) (BitVec.ofNat 64 r.swap)).armSet w n
  | none =>
    if s.fld Reg.SV_TABLE_PUB1.STATE w n = 1 ∧ f < s.fld Reg.SV_TABLE_PUB0.SWAP_STEP w n then
      s.setFld Reg.SV_TABLE_PUB1.STATE w 0 n
    else s

/-- R248: the tables of the resumed job. -/
def State.restoreTables (s : State) (l : List TableImage) (f : Nat) : State :=
  let s := l.foldl (fun s t => s.restoreTable f t) s
  let s := l.foldl (fun s t => s.seenGens t.site) s
  bothWings.foldl (fun s w =>
    ((List.range 8).foldl (fun s n =>
      match l.find? (fun t => t.set.toNat == n) with
      | some t => s.rearm w f t
      | none => s) s).swapPublications w f) s

/-- R470, R605: the step at which a wing resumes committing; a replay run commits every scripted step. -/
def State.resumesAt (s : State) (w : Fin 2) (f : Nat) : Nat :=
  if s.fld Reg.SV_COMMITTED.STEP w = f && !s.bit Reg.AU_REPLAY.ENABLE w then f + 1 else f

/-- R605, R618, R619: what the loader writes for the run. -/
def State.writeRestart (s : State) (p : RestartPlan) (w : Fin 2) : State :=
  let s := s.addFld Reg.SV_RESTART.COUNT w 1
  let s := s.setFld Reg.SV_RESTART.REPEAT w p.repeats.toNat
  let s := s.setFld Reg.SV_RESTART.AHEAD w (if s.resumesAt w p.step.toNat = p.step.toNat then 0 else 1)
  let s := s.setFld Reg.SV_RESTART.SPARE w (if p.spare then 1 else 0)
  s.setReg (Reg.SV_RESUME_STEP.STEP.at w 0) p.step

/-- R418, R467, R605: the engine of a wing resumes with the token list of the resumed step and its chain tail; nothing of the stopped
run's boundary or batch goes on. -/
def State.resumeEngine (s : State) (w : Fin 2) (f : Nat) : State :=
  let x := s.wing w
  s.setWing w { x with
    chain := s.chainTail w (s.resumesAt w f)
    endedTiles := [], toHawk := [], toHbm := [], parts := [], nextPages := [], bnd := {}, restarted := true
    batch := if s.stepOf w = f then x.batch else x.nextBatch, nextBatch := [] }

/-- R612: a slot whose pages are lost ends with the resumed step. -/
def State.loseSlots (s : State) (l : List (BitVec 14)) : State :=
  l.foldl (fun s n =>
    let x := (s.wing 0).slot n.toNat
    if x.state = slFree then s else s.setSlotBoth n.toNat { x with state := slFinished, reason := 6 }) s

/-- R436: page copies that the stop has dropped are made again. -/
def State.reship (s : State) : State :=
  (s.wing 0).handoffs.foldl (fun s h =>
    match h.reply with
    | some r =>
      if h.cancelled then s
      else (s.pageCopies ((s.wing 0).slot h.slot).groups r.1.toNat r.2.2).foldl State.shipPage s
    | none => s) s

/-- R607, R608, R612: what a restart moves: numbers, routes, region kinds and registers of a spare, copied and repaired bytes, and what a
spare takes from them. -/
def State.movePlan (s : State) (p : RestartPlan) (i : Imago) : State :=
  let s := s.writePlan p
  let s := if p.spare then ((s.writeRegions i).writeServing i 0).writeServing i 1 else s
  let s := p.copies.foldl (fun s e => s.enginePut e.1 e.2.1 e.2.2) s
  let s := p.repairs.foldl (fun s e => s.enginePut e.1 (2048 * e.2.1) (padTo 2048 e.2.2)) s
  let step (w : Fin 2) := ((p.mirrored.find? (fun e => e.1 == w)).map (·.2.toNat)).getD (p.step.toNat - 1)
  if p.spare then bothWings.foldl (fun s w => s.adopt w (step w) p.promptHold) s else s

/-- R610 on one module, of the image `i`. -/
def State.restart (s : State) (p : RestartPlan) (i : Imago) : State :=
  let f := p.step.toNat
  let s := ((s.setJob { img := some i }).clearRun 0).clearRun 1
  let s := s.refusePublications.movePlan p i
  let s := (bothWings.foldl (fun s w => s.resumeEngine w f) s).loseSlots p.lostSlots
  let s := bothWings.foldl (fun s w => s.writeRestart p w) s
  let s := (s.raiseTiers i.tiles).freshTiles true
  let s := (s.writeFabric i.fabric).setFirstStep i.tiles p.step
  let s := i.tiles.foldl (fun s t => let lost := s.programLost t
    if lost then (s.writeTileImage t).writeProgram t else s.writeTileImage t) s
  let s := (s.restoreTables i.tables f).replanBoth p.slacks
  (i.tiles.foldl State.startTile s.setLoaded.reship).event 2 stOk (leBytes 8 f)

/-- R279: the bridge has every link. -/
def State.bridgeWhole (s : State) : Bool := bothWings.all (fun w => s.fld Reg.MX_BRIDGE_STATUS.LINK_OK w == 2 ^ 24 - 1)

/-- R614, R519: every unfinished request ends with REASON 6, and the job is unloaded. -/
def State.loseJob (s : State) (st : Nat) : State :=
  let l := (s.ownSlots 0).filter (fun e => e.2.state != slFinished && e.2.state != slCancelled)
  let s := l.foldl (fun s e => s.postCompletion
    { typ := 0, id := e.2.reqId, step := s.reg (Reg.TB_STEP.STEP.at 0 0), slot := e.1, status := st, code := 6, final := true
      vector := e.2.vector }) s
  let s := bothWings.foldl (fun s w => s.setWing w { s.wing w with slots := [] }) s
  (((s.refreshSlots 0).refreshSlots 1).endJob 0).endJob 1

/-- R470: a replay run is ended by its engine before the loader moves it to another step. -/
def State.endRun (s : State) (w : Fin 2) : State := ((s.clearRun w).setFld Reg.FB_JOB.LOADED w 0).dropQueued w

/-- R279, R496, R606, R610, R612, R614: a restart, of a job that has stopped, of a prepared spare, or of a replay run. -/
def State.restartJob (s : State) (p : RestartPlan) : State :=
  let s := if s.replayRun then (s.endRun 0).endRun 1 else s
  if !s.board.booted || s.loaded 0 || s.loaded 1 then s
  else match p.lostJob with
    | some st => s.loseJob st.toNat
    | none =>
      if s.reloadPoisoned 0 || s.reloadPoisoned 1 then s
      else match (if p.spare then p.img else s.job.img) with
        | some i => if s.bridgeWhole then s.restart p i else s.refuseLoad ⟨stLinkLost, 7, i.lchip0.toNat, 0x3FF, 0⟩
        | none => s

/-- JOB_RESTART (R610). -/
def execJobRestart (plan : RestartPlan) (s : State) : Res := .next (s.restartJob plan)

end Sys2Proof.Machine
end

