-- ==== Sys2Proof/Machine/Board.lean ====
section
/-!
DEFINITION. Resets, power sequencing and boot (19, 17): cold and warm reset (R20, R631, R636), PWR_EN and the latches (R632
to R635), the boot ROM (R567, R570, R580, R585 to R587), straps, flash select and the auxiliary rail (R23, R623, R626,
R628), and the links of the wing bridge (R278, R279, R601).
-/
namespace Sys2Proof.Machine

/-! ### What a reset leaves (R20, R573, R633, R636) -/

/-- R20: a register after a warm reset: kept, fused and cfg fields stay. -/
def RegRow.warm (r : RegRow) (v : Word) : Word :=
  r.fields.foldl (fun v f => if f.kept || f.tok != .num then v else setBits v f.fld.lo f.fld.width f.cold) v

/-- R20: the value of the register at a BAR0 offset after a warm reset. -/
def warmVal (a : Nat) (v : Word) : Word :=
  match locate (a % 0x2000000) with
  | some (b, o) => (match b.row? o with | some r => r.warm v | none => v)
  | none => v

/-- R166, R636: HBM keeps its contents over a warm reset, scratchpad does not. -/
def hbmCells (m : List Host.Cell) : List Host.Cell := m.filter (fun c => decide (c.1 % 2 ^ 48 < 0x8000000000))

/-- R567, R568, R573, R579: what the cocoon keeps over a cold reset: fuses, flash, and how often its DRBG has drawn. -/
def Cocoon.cold (c : Cocoon) : Cocoon :=
  { ownerHash := c.ownerHash, firmwareHash := c.firmwareHash, otpLog := c.otpLog, draws := c.draws, reseeds := c.reseeds
    banks := c.banks, instarA := c.instarA, instarB := c.instarB }

/-- R573, R589, R636: over a warm reset it keeps its keys and their counters as well. -/
def Cocoon.warm (c : Cocoon) : Cocoon :=
  { c.cold with weightKey := c.weightKey, edgeKey := c.edgeKey, edgeCtr := c.edgeCtr, booted := c.booted }

/-- What stays outside the module's logic: host memory, the FRU EEPROM, the PERST_N pin. -/
def HostPort.afterReset (h : HostPort) : HostPort := { hostMem := h.hostMem, fru := h.fru, perst := h.perst }

/-- R548, R636: the tiers stay as they were over a warm reset. -/
def Power.warm (p : Power) : Power := { gated := p.gated, rising := p.rising }

/-- R305: poison belongs to the contents of HBM. -/
def Wing.warm (x : Wing) : Wing := { poison := x.poison }

/-- R20, R573, R631, R633: the module's state after a cold reset; only the fuses of `SC_OTP_STATE` differ from the cold
values of the registers. -/
def State.coldReset (s : State) (cause : Nat) : State :=
  let b := s.board
  let s := s.setRegs (s.regs.filter (fun e => e.1 == Reg.SC_OTP_STATE.ROLLBACK.at 0 0))
  let s := ((s.setMem []).setTiles []).setJob {}
  let s := ((s.setWing0 {}).setWing1 {}).setPower {}
  let s := (s.setCocoon s.cocoon.cold).setHost s.host.afterReset
  s.setBoard { b with bootPending := true, booted := false, keepBank := false, uartFail := false, cause := cause
                      fusesLoaded := false, cfgLoaded := false }

/-- R599, R636 step 1: a loaded job stops, with LINK_LOST and SOURCE 7. -/
def State.stopForReset (s : State) : State :=
  let s := if s.loaded 0 then s.stopHere 0 stLinkLost 7 0 else s
  if s.loaded 1 then s.stopHere 1 stLinkLost 7 0 else s

/-- R20, R571, R636: a warm reset. -/
def State.warmReset (s : State) : State :=
  let keep := s.loaded 0 || s.loaded 1
  let s := s.stopForReset
  let s := if s.bit Reg.HI_LINK_STATUS.UP 0 then s.linkDown else s
  let b := s.board
  let s := s.setRegs (smap resetVal warmVal s.regs)
  let s := ((s.setMem (hbmCells s.mem)).setTiles []).setJob {}
  let s := ((s.setWing0 s.wing0.warm).setWing1 s.wing1.warm).setPower s.power.warm
  let s := (s.setCocoon s.cocoon.warm).setHost s.host.afterReset
  s.setBoard { b with bootPending := true, booted := false, keepBank := keep, cause := 3 }

/-! ### The internal reset and main power (R626, R631 to R635) -/

/-- R637: PWR_OK_N is driven low. -/
def Board.pwrOk (b : Board) : Bool := b.mainOn && !b.held

/-- R626: the flash's bus stands at the service connector while FL_SEL_N is low and the module is held in reset by a pin,
or off. -/
def Board.settle (b : Board) : Board :=
  { b with flashOut := b.flSel && b.aux && (b.modRst || b.svcRst || !b.mainOn) }

/-- The board side changes; when the internal reset begins to be held, the module is cold. -/
def State.changeBoard (s : State) (b : Board) (cause : Nat) : State :=
  let was := s.board.held
  let s := s.setBoard b.settle
  if b.held && !was then s.coldReset cause else s

/-- R633 to R635: the module powers down, and the controller latches a cause other than 0. -/
def State.powerDown (s : State) (latch : Nat) : State :=
  let b := s.board
  if !b.mainOn then s
  else s.changeBoard { b with
    mainOn := false, latch := if latch = 0 then b.latch else latch, mayStart := b.mayStart && latch == 0 } 0

/-- R632, R634: main power comes up; the cause is power-on. -/
def State.powerUp (s : State) : State :=
  let b := s.board
  (s.setBoard { b with mainOn := true }.settle).coldReset 0

/-- PWR_EN_RISE (R632, R634). -/
def execPwrEnRise (p54ok : Bool) (s : State) : Res :=
  let b := s.board
  let s := s.setBoard { b with pwrEn := true }
  .next (if p54ok && b.aux && b.mayStart && !b.mainOn then s.powerUp else s)

/-- PWR_EN_FALL (R633, R634): `low1s` says that it stays low for at least 1 s, after which the controller starts again. -/
def execPwrEnFall (low1s : Bool) (s : State) : Res :=
  let s := s.powerDown 0
  let b := s.board
  .next (s.setBoard { b with pwrEn := false, mayStart := b.mayStart || low1s })

/-- UNDER_V (R634). -/
def execUnderV (s : State) : Res := .next (s.powerDown 1)

/-- OVER_V (R634). -/
def execOverV (s : State) : Res := .next (s.powerDown 2)

/-- REG_FAULT (R634). -/
def execRegFault (s : State) : Res := .next (s.powerDown 3)

/-- THERMAL (R635). -/
def execThermal (s : State) : Res := .next (s.powerDown 4)

/-- MOD_RST_N (R631, R640). -/
def execModRstN (low : Bool) (s : State) : Res := .next (s.changeBoard { s.board with modRst := low } 1)

/-- SVC_RST_N (R626, R631). -/
def execSvcRstN (low : Bool) (s : State) : Res := .next (s.changeBoard { s.board with svcRst := low } 2)

/-- MOD_REFCLK_RANGE (R631): the spec names no cause for it; it is recorded as power-on. -/
def execModRefclkRange (inRange : Bool) (s : State) : Res := .next (s.changeBoard { s.board with refclk := inRange } 0)

/-- P3V3_AUX (R23, R628, R637): without the rail the power controller cannot hold main power up. -/
def execP3v3Aux (up : Bool) (s : State) : Res :=
  let s := if up then s else s.powerDown 0
  .next (s.changeBoard { s.board with aux := up } 0)

/-- ADDR_SEL_CHANGE (R623, R640). -/
def execAddrSelChange (sel : BitVec 2) (s : State) : Res := .next (s.setBoard { s.board with straps := sel.toNat })

/-- FL_SEL_N (R626, R640). -/
def execFlSelN (low : Bool) (s : State) : Res := .next (s.changeBoard { s.board with flSel := low } 0)

/-! ### Boot (R567, R570, R580, R585 to R587) -/

/-- R570, R571: the bank that the boot ROM boots. -/
def State.chooseBank (s : State) : Option Nat :=
  let now := s.fld Reg.SC_BOOT_STATUS.BANK 0
  let v0 := s.bankValid (s.bank 0)
  let v1 := s.bankValid (s.bank 1)
  let ver (b : Nat) := ((s.bank b).map (·.version.toNat)).getD 0
  if s.board.keepBank ∧ s.bankValid (s.bank now) then some now
  else match v0, v1 with
    | true, true => some (if ver 0 < ver 1 then 1 else 0)
    | true, false => some 0
    | false, true => some 1
    | false, false => none

/-- R567: the self-tests of a cold reset; a warm reset runs none. -/
def State.selfTests (s : State) (katOk entropyOk : Bool) : State :=
  if s.board.cause = 3 then s
  else
    let ok := katOk && entropyOk
    let s := (s.setFld Reg.SC_BOOT_STATUS.KAT_OK 0 (if ok then 1 else 0)).setFld Reg.SC_BOOT_STATUS.ENTROPY_OK 0
      (if entropyOk then 1 else 0)
    s.setBoard { s.board with uartFail := !ok }

/-- R580: log entries that a loss of power left pending are settled. -/
def State.settleLog (s : State) : State :=
  s.setCocoon { s.cocoon with otpLog := s.cocoon.otpLog.map (fun e => if e.state = 0 then { e with state := 1 } else e) }

/-- R623, R634, R642: the cause, the latch that this power-up cleared, and the straps, on both wings. -/
def State.recordCause (s : State) : State :=
  let b := s.board
  let rec1 (s : State) (w : Fin 2) : State :=
    let s := s.setFld Reg.CF_RESET_CAUSE.CAUSE w b.cause
    if b.cause = 3 then s
    else (s.setFld Reg.CF_RESET_CAUSE.LATCH w b.latch).setFld Reg.CF_RESET_CAUSE.ADDR_SEL w b.straps
  let s := rec1 (rec1 s 0) 1
  s.setBoard (if b.cause = 3 then b else { b with latch := 0 })

/-- R632: a fabric port group whose four ports all have the off role. -/
def State.groupOff (s : State) (d : Nat) : Bool :=
  decide (38 ≤ d) && decide (d < 42) &&
    (List.range 4).all (fun p => s.roleOf (if d < 40 then 0 else 1) (4 * (d % 2) + p) == 3)

/-- R632, R542, R548: a domain as the arbiter begins; a tier that is off stays off, a levered domain begins at its FLOOR. -/
def State.startDomain (s : State) (d : Nat) : State :=
  let on := !(decide (24 ≤ d) && decide (d < 32) && s.tierBit Reg.PW_TIER_CTL.OFF (d - 24)) && !s.groupOff d
  let s := s.setFld Reg.PW_DOMAIN.ON 0 (if on then 1 else 0) d
  let s := s.setCeil d (if !on then 0 else if d < 32 then s.floorOf d else fixedPeak d)
  s.setVolt d (if on && decide (d < 32) then 720 else 0)

/-- R541, R542, R632: the power domains as the arbiter begins. -/
def State.startPower (s : State) : State := ((List.range 50).foldl State.startDomain s).setHbmCeilings.showPower

/-- R555, R585 to R587: the instar copy in force; its cfg fields are loaded at a cold reset only. -/
def State.applyInstar (s : State) : State :=
  let s := s.selectInstar true
  match s.cocoon.inForce with
  | some i => (if s.board.cause = 3 then s else s.applyOwner i).loadCodes i
  | none => s

/-- R21, R570: the hawk cores are released; with the instar copy the cfg fields have loaded. -/
def State.releaseHawks (s : State) (bank : Nat) : State :=
  let c := s.bank bank
  let s := s.setFld Reg.SC_BOOT_STATUS.BANK 0 bank
  let s := s.setFld Reg.SC_BOOT_STATUS.SVN 0 ((c.map (·.svn.toNat)).getD 0)
  let s := s.setCocoon { s.cocoon with booted := c.map (·.digest) }
  let s := ((s.applyInstar).applyRoles 0).applyRoles 1
  let s := s.setHost { s.host with mctpUp := true }
  (s.setBoard { s.board with booted := true, cfgLoaded := true }).startPower.answerHeld

/-- R570, R571: what the boot ROM does. -/
def State.runBoot (s : State) (katOk entropyOk : Bool) : State :=
  let s := s.setBoard { s.board with bootPending := false }
  let s := (s.recordCause.selfTests katOk entropyOk).settleLog
  let s := s.setHost { s.host with configReady := true }
  if !s.cocoonUp then s
  else match s.chooseBank with
    | some b => (s.setFld Reg.SC_BOOT_STATUS.RECOVERY 0 0).releaseHawks b
    | none => s.setFld Reg.SC_BOOT_STATUS.RECOVERY 0 1

/-- BOOT (R570): once after each reset, when nothing holds the internal reset. -/
def execBoot (katOk entropyOk : Bool) (s : State) : Res :=
  .next (if s.board.bootPending && !s.board.held then s.runBoot katOk entropyOk else s)

/-! ### The wing bridge (R278, R279, R601) -/

/-- BRIDGE_LINK_HANDSHAKE (R278). -/
def execBridgeLinkHandshake (w : Fin 2) (row : Fin 24) (s : State) : Res :=
  .next (s.setFld Reg.MX_BRIDGE_STATUS.LINK_OK w (s.fld Reg.MX_BRIDGE_STATUS.LINK_OK w ||| 2 ^ row.val))

/-- R279, R601: a link of the bridge is lost. -/
def State.bridgeLost (s : State) (w : Fin 2) (row : Nat) : State :=
  let v := s.fld Reg.MX_BRIDGE_STATUS.LINK_OK w
  (s.setFld Reg.MX_BRIDGE_STATUS.LINK_OK w (v - (v &&& 2 ^ row))).stopHere w stLinkLost 2 row

/-- BRIDGE_LINK_LOST (R601). -/
def execBridgeLinkLost (w : Fin 2) (row : Fin 24) (s : State) : Res := .next (s.bridgeLost w row.val)

end Sys2Proof.Machine
end

