-- ==== Sys2Proof/Machine/Csr.lean ====
section
/-!
DEFINITION. Register accesses from outside the tile's program (R14 to R19, R504 to R506, R511, R575): what a write of each
register does, when it is ignored, reads, counted accesses, and the commands that are such accesses (R528, R582, R616,
R636).
-/
namespace Sys2Proof.Machine

/-! ### Registers with an effect of their own -/

/-- R616: a stop that the host or the fabric manager writes; a code that stops no job is recorded as TIMEOUT. -/
def State.jobStop (s : State) (w : Fin 2) (v : Word) : State :=
  let st := getBits v 1 8
  if getBits v 0 1 = 1 ∧ s.loaded w then s.stopHere w (if stopsJob st then st else stTimeout) 7 0 else s

/-- CF_JOB_STOP (R616). -/
def execCfJobStop (w : Fin 2) (value : BitVec 64) (s : State) : Res := .next (s.whenUp (s.jobStop w value))

/-- R636, R641: a write of `CF_RESET` by the host or the hawk cores. -/
def State.resetWrite (s : State) (src : Src) (v : Word) : State :=
  if getBits v 0 1 = 1 ∧ getBits v 8 8 = 0xA5 ∧ src ≠ .program then s.warmReset else s

/-- CF_RESET (R636): a write on either wing resets the module. -/
def execCfReset (_w : Fin 2) (src : Src) (value : BitVec 64) (s : State) : Res := .next (s.whenUp (s.resetWrite src value))

/-- R528. -/
def State.clearBad (s : State) (v : Word) : State :=
  if getBits v 32 1 = 1 then s.setFld Reg.HI_BAD_ACCESS_COUNT.COUNT 0 0 else s

/-- BAD_ACCESS_CLEAR (R528). -/
def execBadAccessClear (value : BitVec 64) (s : State) : Res := .next (s.whenUp (s.clearBad value))

/-- R575, R578, R595: a doorbell; while a request runs it is ignored. -/
def State.doorbell (s : State) (v : Word) : State :=
  let n := getBits v 0 17
  if s.bit Reg.SC_MB_STATUS.BUSY 0 then s.setFld Reg.SC_MB_STATUS.OVERRUN 0 1
  else if !s.cocoonUp then s
  else if n < 8 ∨ 65536 < n then s.mbReply stPlanMismatch
  else s.setFld Reg.SC_MB_STATUS.BUSY 0 1

/-! ### Writes, block by block. `o` is the offset in the block, `a` the register's address. -/

/-- R122, R154, R168, R198 to R202, R270, R274: a register of a tile's block; its program reaches TC_ registers only. -/
def State.writeTileReg (s : State) (u : Site) (src : Src) (o a : Nat) (v : Word) : State :=
  let fixed := decide (o < 0x1100) || (decide (0x1800 ≤ o) && decide (o < 0x1B80))
  if o < 0x400 then s.tcAccess u src o v
  else if src = .program || (fixed && s.tbit u Reg.TC_RUN.RUN) then s
  else if o = 0x1108 then (if getBits v 32 1 = 1 then s.setTfld u Reg.SP_VIOL_COUNT.COUNT 0 else s)
  else s.writeAccess .tile o a v

/-- R499, R616, R617, R641: the CF_ block. -/
def State.writeCf (s : State) (w : Fin 2) (src : Src) (o a : Nat) (v : Word) : State :=
  if o = 0x40 then (if s.loaded w then s else s.setProfile w (getBits v Reg.CF_PROFILE.PROFILE.lo Reg.CF_PROFILE.PROFILE.width))
  else if o = 0x60 then s.jobStop w v
  else if o = 0x80 then s.resetWrite src v
  else s.writeAccess .cf o a v

/-- R528 to R534: the HI_ block, which only the host writes. -/
def State.writeHi (s : State) (src : Src) (o a : Nat) (v : Word) : State :=
  if src ≠ .host then s
  else if o = 0x8 then s.clearBad v
  else if o = 0x10 ∨ o = 0x18 ∨ o = 0x20 then (if s.bit Reg.HI_RING_CTL.ENABLE 0 then s else s.writeAccess .hi o a v)
  else if o = 0x28 then s.ringCtl v
  else s.writeAccess .hi o a v

/-- R251: the second word of a publication. -/
def State.writePub (s : State) (w : Fin 2) (n o a : Nat) (v : Word) : State :=
  let s := s.writeAccess .sv o a v
  let s := if getBits v Reg.SV_TABLE_PUB1.ARM.lo 1 = 1 then s.pubArm w n else s
  if getBits v Reg.SV_TABLE_PUB1.CANCEL.lo 1 = 1 then s.pubCancel w n else s

/-- R251, R437 to R443, R618, R619: the SV_ block. -/
def State.writeSv (s : State) (w : Fin 2) (o a : Nat) (v : Word) : State :=
  if o = 0x0 ∨ o = 0x8 ∨ o = 0x10 ∨ o = 0x38 then (if s.loaded w then s else s.writeAccess .sv o a v)
  else if 0x800 ≤ o then
    let n := (o - 0x800) / 0x10
    if o % 0x10 = 0 then (if s.fld Reg.SV_TABLE_PUB1.STATE w n = 1 then s else s.writeAccess .sv o a v)
    else s.writePub w n o a v
  else s.writeAccess .sv o a v

/-- R476, R477, R479: the AU_ block. -/
def State.writeAu (s : State) (w : Fin 2) (o a : Nat) (v : Word) : State :=
  if o = 0x10 then (if s.loaded w then s else s.writeAccess .au o a v)
  else if o = 0x18 then s.exportBlock w v
  else if o = 0x28 then
    let enable := s.fld Reg.AU_REPLAY.ENABLE w
    let t := s.writeAccess .au o a v
    if s.loaded w then t.setFld Reg.AU_REPLAY.ENABLE w enable else t
  else s.writeAccess .au o a v

/-- R393, R406, R407: the TB_ block. -/
def State.writeTb (s : State) (w : Fin 2) (o a : Nat) (v : Word) : State :=
  if o = 0x0 then (if s.fld Reg.TB_TREE.PARENT w = 15 ∧ !s.loaded w then s.writeAccess .tb o a v else s)
  else if o = 0x8 ∨ o = 0x10 then (if s.loaded w then s else s.writeAccess .tb o a v)
  else if o = 0x28 then s.stepDoneWrite w v.toNat
  else s.writeAccess .tb o a v

/-- R558 to R562: the PW_ block; wing 1's ignores writes. -/
def State.writePw (s : State) (w : Fin 2) (o a : Nat) (v : Word) : State :=
  if w = 1 then s
  else if o = 0x0 then s.budgetWrite v
  else if o = 0x300 then s.tierWrite v
  else s.writeAccess .pw o a v

/-- R554, R563, R565: the WW_ block; only the hawk cores write CODE, and it never falls while a job is loaded. -/
def State.writeWw (s : State) (w : Fin 2) (src : Src) (o a : Nat) (v : Word) : State :=
  if o = 0x0 then s.wwCtl w v
  else if 0x100 ≤ o then
    let b := (o - 0x100) / 8
    if src = .host ∨ (s.loaded w ∧ getBits v 0 8 < s.fld Reg.WW_BAND.CODE w b) then s else s.writeAccess .ww o a v
  else s.writeAccess .ww o a v

/-- R351 to R367, R380, R396 to R405: the FB_ block. -/
def State.writeFb (s : State) (w : Fin 2) (o a : Nat) (v : Word) : State :=
  let fixed := decide (o < 0x40) || o == 0x100 || o == 0x128 || o == 0x130 || o == 0x138 ||
    (decide (0x200 ≤ o) && decide (o < 0x280)) || (decide (0x400 ≤ o) && decide (o < 0xA00))
  if fixed && s.loaded w then s
  else if o < 0x40 then (s.writeAccess .fb o a v).applyRoles w
  else if o = 0x108 then s.jobWrite w v
  else if o = 0x138 then (s.writeAccess .fb o a v).applyVerdicts w
  else if a = Reg.FB_PLAN_ID.PLAN.at w 0 then (s.writeAccess .fb o a v).matchPlans w
  else if o = 0x140 then s.routeCtl w v
  else if o = 0x148 then s.occCtl w v
  else if 0x10000 ≤ o then
    -- R384, R405: writes to the bank in force are ignored.
    if o / 0x10000 = s.fld Reg.FB_ROUTE_CTL.ACTIVE w + 1 then s else s.writeAccess .fb o a v
  else s.writeAccess .fb o a v

/-- R285, R315 to R318: the CM_ block. -/
def State.writeCm (s : State) (w : Fin 2) (o a : Nat) (v : Word) : State :=
  if o < 0x80 ∨ o = 0xD8 then (if s.bit Reg.CM_STATUS.JOB w then s else s.writeAccess .cm o a v)
  else if o = 0xB0 then s.setCancelBit w (getBits v 0 14) true
  else if o = 0xB8 then s.setCancelBit w (getBits v 0 14) false
  else if o = 0xC0 then (if s.bit Reg.CM_SPAN_CTL.ARMED w then s else s.writeAccess .cm o a v)
  else if o = 0xC8 then s.spanCtl w v
  else if 0x100000 ≤ o then
    if o / 0x40000 = s.fld Reg.CM_SPAN_CTL.ACTIVE w + 4 then s else s.writeAccess .cm o a v
  else s.writeAccess .cm o a v

/-- R595: the pair of registers in the mailbox region. -/
def State.writeMb (s : State) (o a : Nat) (v : Word) : State :=
  if o = 0x20000 then s.doorbell v else s.writeAccess .mb o a v

/-- The tile whose block holds a register offset. -/
def tileOf (w : Fin 2) (off : Nat) : Site := ⟨w, BitVec.ofNat 10 (off % 0x1000000 / 0x2000)⟩

/-- R17, R102: a 64-bit write of the register at an offset of a wing, which has one; a tile's program reaches no other
block than its tile's. -/
def State.writeReg (s : State) (w : Fin 2) (src : Src) (off : Nat) (b : Block) (o : Nat) (v : Word) : State :=
  let a := w.val * 0x2000000 + off
  if src = .program ∧ b ≠ .tile then s
  else match b with
  | .tile => s.writeTileReg (tileOf w off) src o a v
  | .cf => s.writeCf w src o a v
  | .hi => s.writeHi src o a v
  | .sv => s.writeSv w o a v
  | .au => s.writeAu w o a v
  | .tb => s.writeTb w o a v
  | .mx => s.writeAccess .mx o a v
  | .pw => s.writePw w o a v
  | .ww => s.writeWw w src o a v
  | .sc => s.writeAccess .sc o a v
  | .fb => s.writeFb w o a v
  | .cm => s.writeCm w o a v
  | .mb => s.writeMb o a v

/-! ### Accesses (R15, R21, R506, R511, R575) -/

/-- R511, R575: the offset lies in the cocoon mailbox region, which BAR4 reaches. -/
def inMailbox (off : Nat) : Bool := decide (0x1800000 ≤ off)

/-- R506, R528: an access that changes nothing is counted, for BAR4 in the mailbox region (R528). -/
def State.badAccess (s : State) (src : Src) (bar reason : Nat) (isRead : Bool) (n : Nat) : State :=
  let s := if reason = 1 ∨ src = .host then s.countBad bar reason else s
  if isRead then s.reply (List.replicate n 0) else s

/-- R575: the request buffer, which is written, and the response buffer, which is read only. -/
def State.mailboxBuffer (s : State) (o n : Nat) (isRead : Bool) (v : Word) : State :=
  if o < 0x10000 then
    if isRead then s.reply (memRun s.cocoon.request o n)
    else s.setCocoon { s.cocoon with request := memWrite s.cocoon.request o (leBytes n v.toNat) }
  else if isRead then s.reply ((List.range n).map (fun i => s.cocoon.response.getD (o % 0x10000 + i) 0))
  else s

/-- R575: 32 or 64 bits, naturally aligned. -/
def wideAccess (off n : Nat) : Bool := (n == 4 || n == 8) && decide (off % n = 0)

/-- R511, R575: an access to the mailbox region. A 32-bit write gives the named half of a register. -/
def State.mailboxAccess (s : State) (src : Src) (off n : Nat) (isRead : Bool) (v : Word) : State :=
  let o := off % 0x1800000
  if o < 0x20000 then (if wideAccess off n then s.mailboxBuffer o n isRead v else s.badAccess src 2 2 isRead n)
  else match s.rowAt 0 (off / 8 * 8) with
    | none => if isRead then s.reply (List.replicate n 0) else s
    | some r =>
      if !wideAccess off n then s.badAccess src 2 (if isRead then 2 else 1) isRead n
      else if isRead then s.readReg 0 off n r.1 r.2.2
      else if off % 8 = 4 then (if r.2.1 = 0x20000 then s else s.writeReg 0 src (off - 4) r.1 r.2.1 (v <<< 32))
      else s.writeReg 0 src off r.1 r.2.1 (if n = 4 then v &&& 0xFFFFFFFF else v)

/-- R15, R23, R504 to R506: one access of at most 8 bytes at an offset of a wing's register region. -/
def State.access (s : State) (w : Fin 2) (src : Src) (off n : Nat) (isRead : Bool) (v : Word) : State :=
  if !s.up then s
  else if w = 0 ∧ inMailbox off then s.mailboxAccess src off n isRead v
  else if isRead && !wideAccess off n then s.badAccess src 0 2 isRead n
  else match s.rowAt w (off / 8 * 8) with
    | none => s.badAccess src 0 3 isRead n
    | some r =>
      if isRead then s.readReg w off n r.1 r.2.2
      else if n ≠ 8 ∨ off % 8 ≠ 0 then s.badAccess src 0 1 isRead n
      else s.writeReg w src off r.1 r.2.1 v

/-- REGISTER_WRITE (R15, R506): in recovery the endpoint presents BAR4 only (R570). -/
def execRegisterWrite (w : Fin 2) (src : Src) (off : BitVec 25) (bytes : Nat) (isRead : Bool) (value : BitVec 64)
    (s : State) : Res :=
  .next (if src = .host ∧ !s.barsShown ∧ !(w = 0 ∧ inMailbox off.toNat) then s else s.access w src off.toNat bytes isRead value)

/-- R582: the debug port reaches registers only while debug is unlocked, and never the mailbox region. -/
def State.jtag (s : State) (write : Bool) (w : Fin 2) (off : Nat) (v : Word) : State :=
  if s.bit Reg.SC_BOOT_STATUS.DEBUG_UNLOCKED 0 && !s.bit Reg.SC_OTP_STATE.DEBUG_DISABLED 0 && !inMailbox off then
    s.access w .hawk (off / 8 * 8) 8 (!write) v
  else s

/-- JTAG_ACCESS (R582): boundary scan changes no state of the module. -/
def execJtagAccess (regAccess write : Bool) (w : Fin 2) (off : BitVec 25) (value : BitVec 64) (s : State) : Res :=
  .next (if regAccess then s.jtag write w off.toNat value else s)

end Sys2Proof.Machine
end

