-- ==== Sys2Proof/Machine/TileControl.lean ====
section
/-!
DEFINITION. The meanings of the CTL, MEM, Q and NET instructions (R93 to R111): each is the issue of the bundle that carries it.
-/
namespace Sys2Proof.Machine

/-- NOP (R76): a bundle with no instruction issues and counts one beat. -/
def execNop (u : Site) (s : State) : Res := .next (s.issue u {})

/-- BRC (R93). -/
def execBrc (u : Site) (cond : BitVec 4) (sa sb : BitVec 6) (target : BitVec 17) (co : Bundle) (s : State) : Res := .next (s.issue u { co with ctl := some (.brc cond sa sb target) })

/-- LOOP (R94). -/
def execLoop (u : Site) (csrc : Bool) (sc : BitVec 6) (imm : BitVec 16) (last : BitVec 17) (co : Bundle) (s : State) : Res := .next (s.issue u { co with ctl := some (.loop csrc sc imm last) })

/-- TWAIT (R97). -/
def execTwait (u : Site) (kind : BitVec 4) (rowop : RowOp) (fid sv : BitVec 6) (co : Bundle) (s : State) : Res := .next (s.issue u { co with ctl := some (.twait kind rowop fid sv) })

/-- STEP_BEGIN (R98). -/
def execStepBegin (u : Site) (co : Bundle) (s : State) : Res := .next (s.issue u { co with ctl := some .stepBegin })

/-- STEP_END (R98). -/
def execStepEnd (u : Site) (co : Bundle) (s : State) : Res := .next (s.issue u { co with ctl := some .stepEnd })

/-- LDW (R100). -/
def execLdw (u : Site) (tkind : BitVec 2) (tgt : BitVec 6) (skind : BitVec 2) (src : BitVec 16) (woff : BitVec 6) (co : Bundle) (s : State) : Res := .next (s.issue u { co with mem := some (.ldw tkind tgt skind src woff) })

/-- STW (R101). -/
def execStw (u : Site) (src : BitVec 6) (dkind : BitVec 2) (dst : BitVec 16) (woff : BitVec 6) (co : Bundle) (s : State) : Res := .next (s.issue u { co with mem := some (.stw src dkind dst woff) })

/-- QLD (R105). -/
def execQld (u : Site) (ticket : BitVec 5) (nrows : BitVec 2) (rowop : RowOp) (addr : BitVec 6) (inc : Bool) (co : Bundle) (s : State) : Res := .next (s.issue u { co with q := some (.qld ticket nrows rowop addr inc) })

/-- QST (R105). -/
def execQst (u : Site) (ticket : BitVec 5) (nrows : BitVec 2) (rowop : RowOp) (addr : BitVec 6) (inc : Bool) (co : Bundle) (s : State) : Res := .next (s.issue u { co with q := some (.qst ticket nrows rowop addr inc) })

/-- QWAIT (R106). -/
def execQwait (u : Site) (queue : Bool) (mask : BitVec 32) (co : Bundle) (s : State) : Res := .next (s.issue u { co with q := some (.qwait queue mask) })

/-- SEND (R107). -/
def execSend (u : Site) (rowop : RowOp) (nrows : BitVec 4) (dst : BitVec 6) (chan : BitVec 4) (flaglast mcast : Bool) (mgroup : BitVec 4) (co : Bundle) (s : State) : Res := .next (s.issue u { co with net := some (.send rowop nrows dst chan flaglast mcast mgroup) })

/-- POST (R233). -/
def execPost (u : Site) (rowop : RowOp) (nrows : BitVec 4) (dst : BitVec 6) (chan : BitVec 4) (seq : BitVec 6) (co : Bundle) (s : State) : Res := .next (s.issue u { co with net := some (.post rowop nrows dst chan seq) })

/-- RDREM (R109). -/
def execRdrem (u : Site) (rowop : RowOp) (nrows : BitVec 4) (src : BitVec 6) (merge : Bool) (co : Bundle) (s : State) : Res := .next (s.issue u { co with net := some (.rdrem rowop nrows src merge) })

/-- BAR (R110). -/
def execBar (u : Site) (bid : BitVec 4) (wait : Bool) (co : Bundle) (s : State) : Res := .next (s.issue u { co with net := some (.bar bid wait) })

/-- FLAG_SET (R111). -/
def execFlagSet (u : Site) (fid sv dst : BitVec 6) (remote : Bool) (chan : BitVec 4) (co : Bundle) (s : State) : Res := .next (s.issue u { co with net := some (.flag 0 fid sv dst remote chan) })

/-- FLAG_ADD (R111). -/
def execFlagAdd (u : Site) (fid sv dst : BitVec 6) (remote : Bool) (chan : BitVec 4) (co : Bundle) (s : State) : Res := .next (s.issue u { co with net := some (.flag 1 fid sv dst remote chan) })

/-- FLAG_WAIT_AT_LEAST (R111). -/
def execFlagWaitAtLeast (u : Site) (fid sv dst : BitVec 6) (remote : Bool) (chan : BitVec 4) (co : Bundle) (s : State) : Res := .next (s.issue u { co with net := some (.flag 2 fid sv dst remote chan) })

/-- FLAG_WAIT_EQUAL (R111). -/
def execFlagWaitEqual (u : Site) (fid sv dst : BitVec 6) (remote : Bool) (chan : BitVec 4) (co : Bundle) (s : State) : Res := .next (s.issue u { co with net := some (.flag 3 fid sv dst remote chan) })

end Sys2Proof.Machine
end

