-- ==== Sys2Proof/Machine/TileScalar.lean ====
section
/-!
DEFINITION. The meanings of the scalar-form instructions of the VEC slot (R113, R114) and of the ARR slot (R136 to R139).
-/
namespace Sys2Proof.Machine

/-- VSADD (R114). -/
def execVsadd (u : Site) (f : SForm) (co : Bundle) (s : State) : Res := .next (s.issue u { co with vec := some (.sca .vsadd f) })

/-- VSSUB (R114). -/
def execVssub (u : Site) (f : SForm) (co : Bundle) (s : State) : Res := .next (s.issue u { co with vec := some (.sca .vssub f) })

/-- VSMUL (R114). -/
def execVsmul (u : Site) (f : SForm) (co : Bundle) (s : State) : Res := .next (s.issue u { co with vec := some (.sca .vsmul f) })

/-- VSAND (R114). -/
def execVsand (u : Site) (f : SForm) (co : Bundle) (s : State) : Res := .next (s.issue u { co with vec := some (.sca .vsand f) })

/-- VSOR (R114). -/
def execVsor (u : Site) (f : SForm) (co : Bundle) (s : State) : Res := .next (s.issue u { co with vec := some (.sca .vsor f) })

/-- VSXOR (R114). -/
def execVsxor (u : Site) (f : SForm) (co : Bundle) (s : State) : Res := .next (s.issue u { co with vec := some (.sca .vsxor f) })

/-- VSSHL (R114). -/
def execVsshl (u : Site) (f : SForm) (co : Bundle) (s : State) : Res := .next (s.issue u { co with vec := some (.sca .vsshl f) })

/-- VSSHR (R114). -/
def execVsshr (u : Site) (f : SForm) (co : Bundle) (s : State) : Res := .next (s.issue u { co with vec := some (.sca .vsshr f) })

/-- VSMIN (R114). -/
def execVsmin (u : Site) (f : SForm) (co : Bundle) (s : State) : Res := .next (s.issue u { co with vec := some (.sca .vsmin f) })

/-- VSMAX (R114). -/
def execVsmax (u : Site) (f : SForm) (co : Bundle) (s : State) : Res := .next (s.issue u { co with vec := some (.sca .vsmax f) })

/-- VSLI (R114). -/
def execVsli (u : Site) (f : SForm) (co : Bundle) (s : State) : Res := .next (s.issue u { co with vec := some (.sca .vsli f) })

/-- MLOAD (R138). -/
def execMload (u : Site) (wfmt : BitVec 3) (rowop xrowop srowop : RowOp) (side : Bool) (co : Bundle) (s : State) : Res := .next (s.issue u { co with arr := some (.mload wfmt rowop xrowop srowop side) })

/-- MSPARSE (R137). -/
def execMsparse (u : Site) (wfmt : BitVec 3) (rowop xrowop : RowOp) (co : Bundle) (s : State) : Res := .next (s.issue u { co with arr := some (.msparse wfmt rowop xrowop) })

/-- MSTREAM (R139). -/
def execMstream (u : Site) (afmt : BitVec 3) (rowop : RowOp) (xhandle : BitVec 8) (acc : AccOp) (count : BitVec 20) (hrowop : RowOp) (swap walk inl : Bool) (co : Bundle) (s : State) : Res := .next (s.issue u { co with arr := some (.mstream afmt rowop xhandle acc count hrowop swap walk inl) })

end Sys2Proof.Machine
end

