-- ==== Sys2Proof/Machine/TileVector.lean ====
section
/-!
DEFINITION. The meanings of the vector-form instructions of the VEC slot (R112, R114 to R120).
-/
namespace Sys2Proof.Machine

/-- VLD (R115). -/
def execVld (u : Site) (f : VForm) (co : Bundle) (s : State) : Res := .next (s.issue u { co with vec := some (.vec .vld f) })

/-- VLDA (R114). -/
def execVlda (u : Site) (f : VForm) (co : Bundle) (s : State) : Res := .next (s.issue u { co with vec := some (.vec .vlda f) })

/-- VST (R116). -/
def execVst (u : Site) (f : VForm) (co : Bundle) (s : State) : Res := .next (s.issue u { co with vec := some (.vec .vst f) })

/-- VQNT (R117). -/
def execVqnt (u : Site) (f : VForm) (co : Bundle) (s : State) : Res := .next (s.issue u { co with vec := some (.vec .vqnt f) })

/-- VSTE (R116). -/
def execVste (u : Site) (f : VForm) (co : Bundle) (s : State) : Res := .next (s.issue u { co with vec := some (.vec .vste f) })

/-- VBCAST (R114). -/
def execVbcast (u : Site) (f : VForm) (co : Bundle) (s : State) : Res := .next (s.issue u { co with vec := some (.vec .vbcast f) })

/-- VMOVS (R114). -/
def execVmovs (u : Site) (f : VForm) (co : Bundle) (s : State) : Res := .next (s.issue u { co with vec := some (.vec .vmovs f) })

/-- VRESC (R118). -/
def execVresc (u : Site) (f : VForm) (co : Bundle) (s : State) : Res := .next (s.issue u { co with vec := some (.vec .vresc f) })

/-- VADD (R114). -/
def execVadd (u : Site) (f : VForm) (co : Bundle) (s : State) : Res := .next (s.issue u { co with vec := some (.vec .vadd f) })

/-- VSUB (R114). -/
def execVsub (u : Site) (f : VForm) (co : Bundle) (s : State) : Res := .next (s.issue u { co with vec := some (.vec .vsub f) })

/-- VMUL (R114). -/
def execVmul (u : Site) (f : VForm) (co : Bundle) (s : State) : Res := .next (s.issue u { co with vec := some (.vec .vmul f) })

/-- VFMA (R63). -/
def execVfma (u : Site) (f : VForm) (co : Bundle) (s : State) : Res := .next (s.issue u { co with vec := some (.vec .vfma f) })

/-- VMAX (R64). -/
def execVmax (u : Site) (f : VForm) (co : Bundle) (s : State) : Res := .next (s.issue u { co with vec := some (.vec .vmax f) })

/-- VMIN (R64). -/
def execVmin (u : Site) (f : VForm) (co : Bundle) (s : State) : Res := .next (s.issue u { co with vec := some (.vec .vmin f) })

/-- VABS (R114). -/
def execVabs (u : Site) (f : VForm) (co : Bundle) (s : State) : Res := .next (s.issue u { co with vec := some (.vec .vabs f) })

/-- VNEG (R114). -/
def execVneg (u : Site) (f : VForm) (co : Bundle) (s : State) : Res := .next (s.issue u { co with vec := some (.vec .vneg f) })

/-- VCMPLT (R114). -/
def execVcmplt (u : Site) (f : VForm) (co : Bundle) (s : State) : Res := .next (s.issue u { co with vec := some (.vec .vcmplt f) })

/-- VCMPEQ (R114). -/
def execVcmpeq (u : Site) (f : VForm) (co : Bundle) (s : State) : Res := .next (s.issue u { co with vec := some (.vec .vcmpeq f) })

/-- VIADD (R114). -/
def execViadd (u : Site) (f : VForm) (co : Bundle) (s : State) : Res := .next (s.issue u { co with vec := some (.vec .viadd f) })

/-- VISUB (R114). -/
def execVisub (u : Site) (f : VForm) (co : Bundle) (s : State) : Res := .next (s.issue u { co with vec := some (.vec .visub f) })

/-- VIMUL (R114). -/
def execVimul (u : Site) (f : VForm) (co : Bundle) (s : State) : Res := .next (s.issue u { co with vec := some (.vec .vimul f) })

/-- VSHL (R114). -/
def execVshl (u : Site) (f : VForm) (co : Bundle) (s : State) : Res := .next (s.issue u { co with vec := some (.vec .vshl f) })

/-- VSHR (R114). -/
def execVshr (u : Site) (f : VForm) (co : Bundle) (s : State) : Res := .next (s.issue u { co with vec := some (.vec .vshr f) })

/-- VAND (R114). -/
def execVand (u : Site) (f : VForm) (co : Bundle) (s : State) : Res := .next (s.issue u { co with vec := some (.vec .vand f) })

/-- VOR (R114). -/
def execVor (u : Site) (f : VForm) (co : Bundle) (s : State) : Res := .next (s.issue u { co with vec := some (.vec .vor f) })

/-- VXOR (R114). -/
def execVxor (u : Site) (f : VForm) (co : Bundle) (s : State) : Res := .next (s.issue u { co with vec := some (.vec .vxor f) })

/-- VSEL (R114). -/
def execVsel (u : Site) (f : VForm) (co : Bundle) (s : State) : Res := .next (s.issue u { co with vec := some (.vec .vsel f) })

/-- VCVTIF (R114). -/
def execVcvtif (u : Site) (f : VForm) (co : Bundle) (s : State) : Res := .next (s.issue u { co with vec := some (.vec .vcvtif f) })

/-- VCVTFI (R114). -/
def execVcvtfi (u : Site) (f : VForm) (co : Bundle) (s : State) : Res := .next (s.issue u { co with vec := some (.vec .vcvtfi f) })

/-- VEXP2 (R65). -/
def execVexp2 (u : Site) (f : VForm) (co : Bundle) (s : State) : Res := .next (s.issue u { co with vec := some (.vec .vexp2 f) })

/-- VRCP (R65). -/
def execVrcp (u : Site) (f : VForm) (co : Bundle) (s : State) : Res := .next (s.issue u { co with vec := some (.vec .vrcp f) })

/-- VRSQ (R65). -/
def execVrsq (u : Site) (f : VForm) (co : Bundle) (s : State) : Res := .next (s.issue u { co with vec := some (.vec .vrsq f) })

/-- VSIGM (R65). -/
def execVsigm (u : Site) (f : VForm) (co : Bundle) (s : State) : Res := .next (s.issue u { co with vec := some (.vec .vsigm f) })

/-- VRSUM (R119). -/
def execVrsum (u : Site) (f : VForm) (co : Bundle) (s : State) : Res := .next (s.issue u { co with vec := some (.vec .vrsum f) })

/-- VRMAX (R114). -/
def execVrmax (u : Site) (f : VForm) (co : Bundle) (s : State) : Res := .next (s.issue u { co with vec := some (.vec .vrmax f) })

/-- VTOPK (R120). -/
def execVtopk (u : Site) (f : VForm) (co : Bundle) (s : State) : Res := .next (s.issue u { co with vec := some (.vec .vtopk f) })

end Sys2Proof.Machine
end

