-- ==== Sys2Proof/Machine/Dispatch.lean ====
section
/-!
DEFINITION. The dispatch: one arm for each command, a direct call of its meaning.
-/
namespace Sys2Proof.Machine

/-- The effect of a command on everything but the queue. -/
def exec (i : Instr) (s : State) : Host.Outcome State Fault Refusal :=
  match i with
  | .nop u => Sys2Proof.Machine.execNop u s
  | .brc u cond sa sb target co => Sys2Proof.Machine.execBrc u cond sa sb target co s
  | .loop u csrc sc imm last co => Sys2Proof.Machine.execLoop u csrc sc imm last co s
  | .twait u kind rowop fid sv co => Sys2Proof.Machine.execTwait u kind rowop fid sv co s
  | .stepBegin u co => Sys2Proof.Machine.execStepBegin u co s
  | .stepEnd u co => Sys2Proof.Machine.execStepEnd u co s
  | .ldw u tkind tgt skind src woff co => Sys2Proof.Machine.execLdw u tkind tgt skind src woff co s
  | .stw u src dkind dst woff co => Sys2Proof.Machine.execStw u src dkind dst woff co s
  | .qld u ticket nrows rowop addr inc co => Sys2Proof.Machine.execQld u ticket nrows rowop addr inc co s
  | .qst u ticket nrows rowop addr inc co => Sys2Proof.Machine.execQst u ticket nrows rowop addr inc co s
  | .qwait u queue mask co => Sys2Proof.Machine.execQwait u queue mask co s
  | .send u rowop nrows dst chan flaglast mcast mgroup co => Sys2Proof.Machine.execSend u rowop nrows dst chan flaglast mcast mgroup co s
  | .post u rowop nrows dst chan seq co => Sys2Proof.Machine.execPost u rowop nrows dst chan seq co s
  | .rdrem u rowop nrows src merge co => Sys2Proof.Machine.execRdrem u rowop nrows src merge co s
  | .bar u bid wait co => Sys2Proof.Machine.execBar u bid wait co s
  | .flagSet u fid sv dst remote chan co => Sys2Proof.Machine.execFlagSet u fid sv dst remote chan co s
  | .flagAdd u fid sv dst remote chan co => Sys2Proof.Machine.execFlagAdd u fid sv dst remote chan co s
  | .flagWaitAtLeast u fid sv dst remote chan co => Sys2Proof.Machine.execFlagWaitAtLeast u fid sv dst remote chan co s
  | .flagWaitEqual u fid sv dst remote chan co => Sys2Proof.Machine.execFlagWaitEqual u fid sv dst remote chan co s
  | .vld u f co => Sys2Proof.Machine.execVld u f co s
  | .vlda u f co => Sys2Proof.Machine.execVlda u f co s
  | .vst u f co => Sys2Proof.Machine.execVst u f co s
  | .vqnt u f co => Sys2Proof.Machine.execVqnt u f co s
  | .vste u f co => Sys2Proof.Machine.execVste u f co s
  | .vbcast u f co => Sys2Proof.Machine.execVbcast u f co s
  | .vmovs u f co => Sys2Proof.Machine.execVmovs u f co s
  | .vresc u f co => Sys2Proof.Machine.execVresc u f co s
  | .vadd u f co => Sys2Proof.Machine.execVadd u f co s
  | .vsub u f co => Sys2Proof.Machine.execVsub u f co s
  | .vmul u f co => Sys2Proof.Machine.execVmul u f co s
  | .vfma u f co => Sys2Proof.Machine.execVfma u f co s
  | .vmax u f co => Sys2Proof.Machine.execVmax u f co s
  | .vmin u f co => Sys2Proof.Machine.execVmin u f co s
  | .vabs u f co => Sys2Proof.Machine.execVabs u f co s
  | .vneg u f co => Sys2Proof.Machine.execVneg u f co s
  | .vcmplt u f co => Sys2Proof.Machine.execVcmplt u f co s
  | .vcmpeq u f co => Sys2Proof.Machine.execVcmpeq u f co s
  | .viadd u f co => Sys2Proof.Machine.execViadd u f co s
  | .visub u f co => Sys2Proof.Machine.execVisub u f co s
  | .vimul u f co => Sys2Proof.Machine.execVimul u f co s
  | .vshl u f co => Sys2Proof.Machine.execVshl u f co s
  | .vshr u f co => Sys2Proof.Machine.execVshr u f co s
  | .vand u f co => Sys2Proof.Machine.execVand u f co s
  | .vor u f co => Sys2Proof.Machine.execVor u f co s
  | .vxor u f co => Sys2Proof.Machine.execVxor u f co s
  | .vsel u f co => Sys2Proof.Machine.execVsel u f co s
  | .vcvtif u f co => Sys2Proof.Machine.execVcvtif u f co s
  | .vcvtfi u f co => Sys2Proof.Machine.execVcvtfi u f co s
  | .vexp2 u f co => Sys2Proof.Machine.execVexp2 u f co s
  | .vrcp u f co => Sys2Proof.Machine.execVrcp u f co s
  | .vrsq u f co => Sys2Proof.Machine.execVrsq u f co s
  | .vsigm u f co => Sys2Proof.Machine.execVsigm u f co s
  | .vrsum u f co => Sys2Proof.Machine.execVrsum u f co s
  | .vrmax u f co => Sys2Proof.Machine.execVrmax u f co s
  | .vtopk u f co => Sys2Proof.Machine.execVtopk u f co s
  | .vsadd u f co => Sys2Proof.Machine.execVsadd u f co s
  | .vssub u f co => Sys2Proof.Machine.execVssub u f co s
  | .vsmul u f co => Sys2Proof.Machine.execVsmul u f co s
  | .vsand u f co => Sys2Proof.Machine.execVsand u f co s
  | .vsor u f co => Sys2Proof.Machine.execVsor u f co s
  | .vsxor u f co => Sys2Proof.Machine.execVsxor u f co s
  | .vsshl u f co => Sys2Proof.Machine.execVsshl u f co s
  | .vsshr u f co => Sys2Proof.Machine.execVsshr u f co s
  | .vsmin u f co => Sys2Proof.Machine.execVsmin u f co s
  | .vsmax u f co => Sys2Proof.Machine.execVsmax u f co s
  | .vsli u f co => Sys2Proof.Machine.execVsli u f co s
  | .mload u wfmt rowop xrowop srowop side co => Sys2Proof.Machine.execMload u wfmt rowop xrowop srowop side co s
  | .msparse u wfmt rowop xrowop co => Sys2Proof.Machine.execMsparse u wfmt rowop xrowop co s
  | .mstream u afmt rowop xhandle acc count hrowop swap walk inl co => Sys2Proof.Machine.execMstream u afmt rowop xhandle acc count hrowop swap walk inl co s
  | .streamBeginFeed u => Sys2Proof.Machine.execStreamBeginFeed u s
  | .vectorFeed u found => Sys2Proof.Machine.execVectorFeed u found s
  | .accRowWrite u => Sys2Proof.Machine.execAccRowWrite u s
  | .weightFillComplete u => Sys2Proof.Machine.execWeightFillComplete u s
  | .qldComplete u ticket o => Sys2Proof.Machine.execQldComplete u ticket o s
  | .qstComplete u ticket o tie => Sys2Proof.Machine.execQstComplete u ticket o tie s
  | .waitTimeout u tie => Sys2Proof.Machine.execWaitTimeout u tie s
  | .inboundRowLand u => Sys2Proof.Machine.execInboundRowLand u s
  | .inboundHoldTimeout u tie => Sys2Proof.Machine.execInboundHoldTimeout u tie s
  | .spScrub u row found => Sys2Proof.Machine.execSpScrub u row found s
  | .mergeHoldExpiry u row => Sys2Proof.Machine.execMergeHoldExpiry u row s
  | .fuseLoadComplete => Sys2Proof.Machine.execFuseLoadComplete s
  | .meshForward u out e tie => Sys2Proof.Machine.execMeshForward u out e tie s
  | .rowWrite u dir p tie => Sys2Proof.Machine.execRowWrite u dir p tie s
  | .rowPost u dir p tie => Sys2Proof.Machine.execRowPost u dir p tie s
  | .wordWrite u dir p tie => Sys2Proof.Machine.execWordWrite u dir p tie s
  | .readReq u dir p tie => Sys2Proof.Machine.execReadReq u dir p tie s
  | .readData u dir p tie => Sys2Proof.Machine.execReadData u dir p tie s
  | .readMerged u dir p tie => Sys2Proof.Machine.execReadMerged u dir p tie s
  | .readStatus u dir p tie => Sys2Proof.Machine.execReadStatus u dir p tie s
  | .wordRead u dir p tie => Sys2Proof.Machine.execWordRead u dir p tie s
  | .wordData u dir p tie => Sys2Proof.Machine.execWordData u dir p tie s
  | .barArrive u dir p tie => Sys2Proof.Machine.execBarArrive u dir p tie s
  | .barRelease u dir p tie => Sys2Proof.Machine.execBarRelease u dir p tie s
  | .flagOp u dir p tie => Sys2Proof.Machine.execFlagOp u dir p tie s
  | .frameReceive w p f chk => Sys2Proof.Machine.execFrameReceive w p f chk s
  | .ack w p seq => Sys2Proof.Machine.execAck w p seq s
  | .nak w p seq => Sys2Proof.Machine.execNak w p seq s
  | .poison w p seq vc tail => Sys2Proof.Machine.execPoison w p seq vc tail s
  | .laneLockLoss w p lane => Sys2Proof.Machine.execLaneLockLoss w p lane s
  | .portTrained w p rtt => Sys2Proof.Machine.execPortTrained w p rtt s
  | .hello w p h => Sys2Proof.Machine.execHello w p h s
  | .helloTimer w p => Sys2Proof.Machine.execHelloTimer w p s
  | .fabricPacketReceive w port p => Sys2Proof.Machine.execFabricPacketReceive w port p s
  | .hbmWrite w p o tie => Sys2Proof.Machine.execHbmWrite w p o tie s
  | .complete w p => Sys2Proof.Machine.execComplete w p s
  | .verdict w chip chan dstKind dstTile msg taken => Sys2Proof.Machine.execVerdict w chip chan dstKind dstTile msg taken s
  | .strictAckTimer w chip chan => Sys2Proof.Machine.execStrictAckTimer w chip chan s
  | .flagHoldTimeout w chip chan dstKind dstTile msg tie => Sys2Proof.Machine.execFlagHoldTimeout w chip chan dstKind dstTile msg tie s
  | .sweep w port p => Sys2Proof.Machine.execSweep w port p s
  | .occSample w out => Sys2Proof.Machine.execOccSample w out s
  | .fbBarLocalArrive w tile bid => Sys2Proof.Machine.execFbBarLocalArrive w tile bid s
  | .fbBarChildArrive w p => Sys2Proof.Machine.execFbBarChildArrive w p s
  | .fbBarParentRelease w p => Sys2Proof.Machine.execFbBarParentRelease w p s
  | .fbBarLocalRelease w tile bid => Sys2Proof.Machine.execFbBarLocalRelease w tile bid s
  | .timesyncTimer w => Sys2Proof.Machine.execTimesyncTimer w s
  | .delayReq w port t1 => Sys2Proof.Machine.execDelayReq w port t1 s
  | .sync w port t3 t2 t1 => Sys2Proof.Machine.execSync w port t3 t2 t1 s
  | .stepDone w port step => Sys2Proof.Machine.execStepDone w port step s
  | .stepGo w port step t => Sys2Proof.Machine.execStepGo w port step t s
  | .stepAdvance w => Sys2Proof.Machine.execStepAdvance w s
  | .stop w p epoch status chip => Sys2Proof.Machine.execStop w p epoch status chip s
  | .jobStop w status source locus => Sys2Proof.Machine.execJobStop w status source locus s
  | .otherWingStop w => Sys2Proof.Machine.execOtherWingStop w s
  | .submit vector tag a => Sys2Proof.Machine.execSubmit vector tag a s
  | .cancel vector tag reqId late => Sys2Proof.Machine.execCancel vector tag reqId late s
  | .publishTable vector tag a => Sys2Proof.Machine.execPublishTable vector tag a s
  | .repairReload vector tag a => Sys2Proof.Machine.execRepairReload vector tag a s
  | .commandPoll entries cplHead => Sys2Proof.Machine.execCommandPoll entries cplHead s
  | .heartbeat => Sys2Proof.Machine.execHeartbeat s
  | .stepBoundary w => Sys2Proof.Machine.execStepBoundary w s
  | .batchPart w q step part clear pages => Sys2Proof.Machine.execBatchPart w q step part clear pages s
  | .mirrorAck w => Sys2Proof.Machine.execMirrorAck w s
  | .ackTimeout w => Sys2Proof.Machine.execAckTimeout w s
  | .cancelForward w slot => Sys2Proof.Machine.execCancelForward w slot s
  | .handoff a => Sys2Proof.Machine.execHandoff a s
  | .handoffReply reqId status chip slot groups => Sys2Proof.Machine.execHandoffReply reqId status chip slot groups s
  | .shipDone slot cancelled => Sys2Proof.Machine.execShipDone slot cancelled s
  | .ledgerSignComplete w block => Sys2Proof.Machine.execLedgerSignComplete w block s
  | .auLedgerExport w value => Sys2Proof.Machine.execAuLedgerExport w value s
  | .eventDrop => Sys2Proof.Machine.execEventDrop s
  | .msixCoalesceTimer v => Sys2Proof.Machine.execMsixCoalesceTimer v s
  | .msixUnmask v => Sys2Proof.Machine.execMsixUnmask v s
  | .ringEnable value => Sys2Proof.Machine.execRingEnable value s
  | .tcRun u src value => Sys2Proof.Machine.execTcRun u src value s
  | .satClear u src value => Sys2Proof.Machine.execSatClear u src value s
  | .winOpen u src win notify fid tie => Sys2Proof.Machine.execWinOpen u src win notify fid tie s
  | .winClose u src win tie => Sys2Proof.Machine.execWinClose u src win tie s
  | .tcTagEmpty u src value => Sys2Proof.Machine.execTcTagEmpty u src value s
  | .tcGatherSeal u src value => Sys2Proof.Machine.execTcGatherSeal u src value s
  | .violCountClear u value => Sys2Proof.Machine.execViolCountClear u value s
  | .cmCancelSet w slot tie => Sys2Proof.Machine.execCmCancelSet w slot tie s
  | .cmCancelClr w slot => Sys2Proof.Machine.execCmCancelClr w slot s
  | .spanArm w value tie => Sys2Proof.Machine.execSpanArm w value tie s
  | .pubArm w set tie => Sys2Proof.Machine.execPubArm w set tie s
  | .pubCancel w set tie => Sys2Proof.Machine.execPubCancel w set tie s
  | .routeArm w value => Sys2Proof.Machine.execRouteArm w value s
  | .occClear w value => Sys2Proof.Machine.execOccClear w value s
  | .fbJobWrite w value => Sys2Proof.Machine.execFbJobWrite w value s
  | .tbStepDoneWrite w value => Sys2Proof.Machine.execTbStepDoneWrite w value s
  | .tbTimeWrite w value => Sys2Proof.Machine.execTbTimeWrite w value s
  | .pwBudgetWrite value => Sys2Proof.Machine.execPwBudgetWrite value s
  | .tierDown t => Sys2Proof.Machine.execTierDown t s
  | .tierGateShut t => Sys2Proof.Machine.execTierGateShut t s
  | .tierPowerOff t => Sys2Proof.Machine.execTierPowerOff t s
  | .tierUp t => Sys2Proof.Machine.execTierUp t s
  | .tierPowerUpDone t => Sys2Proof.Machine.execTierPowerUpDone t s
  | .wwReplan w slacks => Sys2Proof.Machine.execWwReplan w slacks s
  | .wwPeriodExpiry w slacks => Sys2Proof.Machine.execWwPeriodExpiry w slacks s
  | .wingwearMeasure w band slack drift beatPs => Sys2Proof.Machine.execWingwearMeasure w band slack drift beatPs s
  | .arbiterEpoch => Sys2Proof.Machine.execArbiterEpoch s
  | .powerRequest dom watts => Sys2Proof.Machine.execPowerRequest dom watts s
  | .powerRelease dom peak100 => Sys2Proof.Machine.execPowerRelease dom peak100 s
  | .reductionAck dom => Sys2Proof.Machine.execReductionAck dom s
  | .bandVoltageControl dom beats draws draw => Sys2Proof.Machine.execBandVoltageControl dom beats draws draw s
  | .bandHot dom celsius => Sys2Proof.Machine.execBandHot dom celsius s
  | .thermalClampStep dom celsius => Sys2Proof.Machine.execThermalClampStep dom celsius s
  | .hbmRefresh w stack bank ends => Sys2Proof.Machine.execHbmRefresh w stack bank ends s
  | .cmScrub w granule o => Sys2Proof.Machine.execCmScrub w granule o s
  | .hawkHbmAccess w write off len data outs tie => Sys2Proof.Machine.execHawkHbmAccess w write off len data outs tie s
  | .bar2Write off data outs tie => Sys2Proof.Machine.execBar2Write off data outs tie s
  | .bar2Read off len outs re => Sys2Proof.Machine.execBar2Read off len outs re s
  | .registerWrite w src off bytes isRead value => Sys2Proof.Machine.execRegisterWrite w src off bytes isRead value s
  | .badAccessClear value => Sys2Proof.Machine.execBadAccessClear value s
  | .cfJobStop w value => Sys2Proof.Machine.execCfJobStop w value s
  | .cfReset w src value => Sys2Proof.Machine.execCfReset w src value s
  | .configRequest r => Sys2Proof.Machine.execConfigRequest r s
  | .functionLevelReset => Sys2Proof.Machine.execFunctionLevelReset s
  | .hotReset => Sys2Proof.Machine.execHotReset s
  | .pcieLinkDown => Sys2Proof.Machine.execPcieLinkDown s
  | .d3hotEntry => Sys2Proof.Machine.execD3hotEntry s
  | .perstN low => Sys2Proof.Machine.execPerstN low s
  | .getInfo => Sys2Proof.Machine.execGetInfo s
  | .readOtpLog => Sys2Proof.Machine.execReadOtpLog s
  | .getNonce => Sys2Proof.Machine.execGetNonce s
  | .nonceLapse => Sys2Proof.Machine.execNonceLapse s
  | .ledgerCert slot => Sys2Proof.Machine.execLedgerCert slot s
  | .ownerClaim slot keyHash => Sys2Proof.Machine.execOwnerClaim slot keyHash s
  | .ownerAdd sg slot keyHash => Sys2Proof.Machine.execOwnerAdd sg slot keyHash s
  | .ownerRevoke sg slot => Sys2Proof.Machine.execOwnerRevoke sg slot s
  | .rollbackCommit sg => Sys2Proof.Machine.execRollbackCommit sg s
  | .wsvnRaise sg new => Sys2Proof.Machine.execWsvnRaise sg new s
  | .debugUnlock sg => Sys2Proof.Machine.execDebugUnlock sg s
  | .debugDisable sg => Sys2Proof.Machine.execDebugDisable sg s
  | .instarWrite part => Sys2Proof.Machine.execInstarWrite part s
  | .chrysalisWrite off len img final => Sys2Proof.Machine.execChrysalisWrite off len img final s
  | .weightKey sg key unwraps => Sys2Proof.Machine.execWeightKey sg key unwraps s
  | .edgeKey sg w key unwraps => Sys2Proof.Machine.execEdgeKey sg w key unwraps s
  | .zeroise sg => Sys2Proof.Machine.execZeroise sg s
  | .entropyHealthFail => Sys2Proof.Machine.execEntropyHealthFail s
  | .getVersion => Sys2Proof.Machine.execGetVersion s
  | .getCapabilities => Sys2Proof.Machine.execGetCapabilities s
  | .negotiateAlgorithms p384 sha384 => Sys2Proof.Machine.execNegotiateAlgorithms p384 sha384 s
  | .getDigests => Sys2Proof.Machine.execGetDigests s
  | .getCertificate slot => Sys2Proof.Machine.execGetCertificate slot s
  | .challenge slot nonce => Sys2Proof.Machine.execChallenge slot nonce s
  | .getMeasurements index signed nonce => Sys2Proof.Machine.execGetMeasurements index signed nonce s
  | .setEndpointId eid => Sys2Proof.Machine.execSetEndpointId eid s
  | .getSensorReading id measured => Sys2Proof.Machine.execGetSensorReading id measured s
  | .setNumericEffecterValue id watts => Sys2Proof.Machine.execSetNumericEffecterValue id watts s
  | .firmwareUpdate img => Sys2Proof.Machine.execFirmwareUpdate img s
  | .fruRead addr off len => Sys2Proof.Machine.execFruRead addr off len s
  | .fruWrite addr off data => Sys2Proof.Machine.execFruWrite addr off data s
  | .pwrEnRise p54ok => Sys2Proof.Machine.execPwrEnRise p54ok s
  | .pwrEnFall low1s => Sys2Proof.Machine.execPwrEnFall low1s s
  | .underV => Sys2Proof.Machine.execUnderV s
  | .overV => Sys2Proof.Machine.execOverV s
  | .regFault => Sys2Proof.Machine.execRegFault s
  | .thermal => Sys2Proof.Machine.execThermal s
  | .modRstN low => Sys2Proof.Machine.execModRstN low s
  | .svcRstN low => Sys2Proof.Machine.execSvcRstN low s
  | .boot katOk entropyOk => Sys2Proof.Machine.execBoot katOk entropyOk s
  | .addrSelChange sel => Sys2Proof.Machine.execAddrSelChange sel s
  | .flSelN low => Sys2Proof.Machine.execFlSelN low s
  | .jobLoad img slacks => Sys2Proof.Machine.execJobLoad img slacks s
  | .jobRestart plan => Sys2Proof.Machine.execJobRestart plan s
  | .bridgeLinkHandshake w row => Sys2Proof.Machine.execBridgeLinkHandshake w row s
  | .bridgeLinkLost w row => Sys2Proof.Machine.execBridgeLinkLost w row s
  | .hbmStackTrained w stack => Sys2Proof.Machine.execHbmStackTrained w stack s
  | .hbmStackHot w stack hot => Sys2Proof.Machine.execHbmStackHot w stack hot s
  | .pcieLinkUp speed width flit => Sys2Proof.Machine.execPcieLinkUp speed width flit s
  | .modRefclkRange inRange => Sys2Proof.Machine.execModRefclkRange inRange s
  | .p3v3Aux up => Sys2Proof.Machine.execP3v3Aux up s
  | .jtagAccess regAccess write w off value => Sys2Proof.Machine.execJtagAccess regAccess write w off value s

end Sys2Proof.Machine
end

