-- ==== Sys2Proof/Machine/Idle.lean ====
section
/-!
DEFINITION. What passes while no command waits: one cycle of the timebase (R387, log entry 12).
-/
namespace Sys2Proof.Machine

/-- R390: the unit of slew that a cycle brings: one unit of 1/16 ns in 1,250 ns, which is 50 ppm. -/
def slewStep (t : TimeUnit) : Int × TimeUnit :=
  if t.slew = 0 then (0, t)
  else if t.slewTick + 1 < 1250 then (0, { t with slewTick := t.slewTick + 1 })
  else if 0 < t.slew then (1, { t with slewTick := 0, slew := t.slew - 1 })
  else (-1, { t with slewTick := 0, slew := t.slew + 1 })

/-- R387, R388, R390: one cycle of a wing's 1 GHz timebase. -/
def State.tick (s : State) (w : Fin 2) : State :=
  let x := s.wing w
  let d := slewStep x.time
  let s := if d.2 = x.time then s else s.setWing w { x with time := d.2 }
  let a := Reg.TB_TIME.TIME.at w 0
  s.setReg a (s.reg a + 16 + BitVec.ofInt 64 d.1)

/-- R23, R387, R393: a cycle passes on both wings, and a wing that is done with its step reports; without power, or in the
internal reset, no clock runs. -/
def idleTick (s : State) : State := s.whenUp ((((s.tick 0).tick 1).tryStepDone 0).tryStepDone 1)

end Sys2Proof.Machine
end

