-- ==== Sys2Proof/Safety.lean ====
section
/-!
DEFINITION. What counts as a safe run: no step of it ends in a fault or a refusal; the form that every state of a run keeps:
registers, memory and tiles as canonical lists, so that equal machines are equal data; and, in terms of the state alone,
when a bundle that a tile presents issues.
-/
namespace Sys2Proof.Machine

/-- A command that completes: it answers a next state. -/
def Completes (c : Instr) (s : State) : Prop := ∃ t, exec c s = .next t

/-- The command completes, with a next state of which `P` holds. -/
def Yields (c : Instr) (s : State) (P : State → Prop) : Prop := ∃ t, exec c s = .next t ∧ P t

/-- A run of `k` steps that neither faults nor is refused. -/
def SafeFor (k : Nat) (s : State) : Prop := ∃ t, Host.Core.run Sys2Proof.core k s = .next t

/-- The register file, the memory (R26) and the tiles are in canonical form: keys rising, nothing listed that reads as an
unlisted key does. -/
def State.Canonical (s : State) : Prop :=
  Memory.wf s.mem ∧ SparseWf resetVal s.regs ∧ SparseWf (fun _ => ({} : Tile)) s.tiles

/-! ### When a bundle issues (R29, R30, R80, R110) -/

/-- The state in which a presented bundle meets its conditions: due results are visible (R80), and the arrival of an awaited
barrier has been sent (R110). -/
def State.atIssue (s : State) (u : Site) (b : Bundle) : State :=
  match bundleBar b with
  | some bid => (s.settle u).barAwait u bid
  | none => s.settle u

/-- The bundle issues: the tile presents it, its fetch and the rows that it reads meet no uncorrectable codeword (R164), it
meets no fault (R643), waits for nothing (R30, R89), and a barrier that it awaits is complete (R110). -/
def State.Issues (s : State) (u : Site) (b : Bundle) : Prop :=
  s.presents u = true ∧ (s.settle u).fetchBad u b = none ∧ (s.settle u).bundleFault u b = none ∧
    (s.settle u).bundleWait u b = none ∧ (s.settle u).badRow u b = none ∧
    ∀ bid, bundleBar b = some bid → (s.atIssue u b).barDone u bid = true

/-! ### The bundle of a tile command -/

/-- R29, R75: the tile and the bundle whose issue a tile command is; no other command issues one. -/
def carried : Instr → Option (Site × Bundle)
  | .nop u => some (u, {})
  | .brc u cond sa sb target co => some (u, { co with ctl := some (.brc cond sa sb target) })
  | .loop u csrc sc imm last co => some (u, { co with ctl := some (.loop csrc sc imm last) })
  | .twait u kind rowop fid sv co => some (u, { co with ctl := some (.twait kind rowop fid sv) })
  | .stepBegin u co => some (u, { co with ctl := some .stepBegin })
  | .stepEnd u co => some (u, { co with ctl := some .stepEnd })
  | .ldw u tkind tgt skind src woff co => some (u, { co with mem := some (.ldw tkind tgt skind src woff) })
  | .stw u src dkind dst woff co => some (u, { co with mem := some (.stw src dkind dst woff) })
  | .qld u ticket nrows rowop addr inc co => some (u, { co with q := some (.qld ticket nrows rowop addr inc) })
  | .qst u ticket nrows rowop addr inc co => some (u, { co with q := some (.qst ticket nrows rowop addr inc) })
  | .qwait u queue mask co => some (u, { co with q := some (.qwait queue mask) })
  | .send u rowop nrows dst chan flaglast mcast mgroup co => some (u, { co with net := some (.send rowop nrows dst chan flaglast mcast mgroup) })
  | .post u rowop nrows dst chan seq co => some (u, { co with net := some (.post rowop nrows dst chan seq) })
  | .rdrem u rowop nrows src merge co => some (u, { co with net := some (.rdrem rowop nrows src merge) })
  | .bar u bid wait co => some (u, { co with net := some (.bar bid wait) })
  | .flagSet u fid sv dst remote chan co => some (u, { co with net := some (.flag 0 fid sv dst remote chan) })
  | .flagAdd u fid sv dst remote chan co => some (u, { co with net := some (.flag 1 fid sv dst remote chan) })
  | .flagWaitAtLeast u fid sv dst remote chan co => some (u, { co with net := some (.flag 2 fid sv dst remote chan) })
  | .flagWaitEqual u fid sv dst remote chan co => some (u, { co with net := some (.flag 3 fid sv dst remote chan) })
  | .vld u f co => some (u, { co with vec := some (.vec .vld f) })
  | .vlda u f co => some (u, { co with vec := some (.vec .vlda f) })
  | .vst u f co => some (u, { co with vec := some (.vec .vst f) })
  | .vqnt u f co => some (u, { co with vec := some (.vec .vqnt f) })
  | .vste u f co => some (u, { co with vec := some (.vec .vste f) })
  | .vbcast u f co => some (u, { co with vec := some (.vec .vbcast f) })
  | .vmovs u f co => some (u, { co with vec := some (.vec .vmovs f) })
  | .vresc u f co => some (u, { co with vec := some (.vec .vresc f) })
  | .vadd u f co => some (u, { co with vec := some (.vec .vadd f) })
  | .vsub u f co => some (u, { co with vec := some (.vec .vsub f) })
  | .vmul u f co => some (u, { co with vec := some (.vec .vmul f) })
  | .vfma u f co => some (u, { co with vec := some (.vec .vfma f) })
  | .vmax u f co => some (u, { co with vec := some (.vec .vmax f) })
  | .vmin u f co => some (u, { co with vec := some (.vec .vmin f) })
  | .vabs u f co => some (u, { co with vec := some (.vec .vabs f) })
  | .vneg u f co => some (u, { co with vec := some (.vec .vneg f) })
  | .vcmplt u f co => some (u, { co with vec := some (.vec .vcmplt f) })
  | .vcmpeq u f co => some (u, { co with vec := some (.vec .vcmpeq f) })
  | .viadd u f co => some (u, { co with vec := some (.vec .viadd f) })
  | .visub u f co => some (u, { co with vec := some (.vec .visub f) })
  | .vimul u f co => some (u, { co with vec := some (.vec .vimul f) })
  | .vshl u f co => some (u, { co with vec := some (.vec .vshl f) })
  | .vshr u f co => some (u, { co with vec := some (.vec .vshr f) })
  | .vand u f co => some (u, { co with vec := some (.vec .vand f) })
  | .vor u f co => some (u, { co with vec := some (.vec .vor f) })
  | .vxor u f co => some (u, { co with vec := some (.vec .vxor f) })
  | .vsel u f co => some (u, { co with vec := some (.vec .vsel f) })
  | .vcvtif u f co => some (u, { co with vec := some (.vec .vcvtif f) })
  | .vcvtfi u f co => some (u, { co with vec := some (.vec .vcvtfi f) })
  | .vexp2 u f co => some (u, { co with vec := some (.vec .vexp2 f) })
  | .vrcp u f co => some (u, { co with vec := some (.vec .vrcp f) })
  | .vrsq u f co => some (u, { co with vec := some (.vec .vrsq f) })
  | .vsigm u f co => some (u, { co with vec := some (.vec .vsigm f) })
  | .vrsum u f co => some (u, { co with vec := some (.vec .vrsum f) })
  | .vrmax u f co => some (u, { co with vec := some (.vec .vrmax f) })
  | .vtopk u f co => some (u, { co with vec := some (.vec .vtopk f) })
  | .vsadd u f co => some (u, { co with vec := some (.sca .vsadd f) })
  | .vssub u f co => some (u, { co with vec := some (.sca .vssub f) })
  | .vsmul u f co => some (u, { co with vec := some (.sca .vsmul f) })
  | .vsand u f co => some (u, { co with vec := some (.sca .vsand f) })
  | .vsor u f co => some (u, { co with vec := some (.sca .vsor f) })
  | .vsxor u f co => some (u, { co with vec := some (.sca .vsxor f) })
  | .vsshl u f co => some (u, { co with vec := some (.sca .vsshl f) })
  | .vsshr u f co => some (u, { co with vec := some (.sca .vsshr f) })
  | .vsmin u f co => some (u, { co with vec := some (.sca .vsmin f) })
  | .vsmax u f co => some (u, { co with vec := some (.sca .vsmax f) })
  | .vsli u f co => some (u, { co with vec := some (.sca .vsli f) })
  | .mload u wfmt rowop xrowop srowop side co => some (u, { co with arr := some (.mload wfmt rowop xrowop srowop side) })
  | .msparse u wfmt rowop xrowop co => some (u, { co with arr := some (.msparse wfmt rowop xrowop) })
  | .mstream u afmt rowop xhandle acc count hrowop swap walk inl co => some (u, { co with arr := some (.mstream afmt rowop xhandle acc count hrowop swap walk inl) })
  | _ => none

/-! ### What a bundle that issues brings -/

/-- R80: a bundle that issues in state `s` has brought the result `e`, visible to the bundle issued `d` beats later. -/
def State.Brings (s t : State) (u : Site) (d : Nat) (e : Effect) : Prop := ⟨(s.tile u).beat + d, e⟩ ∈ (t.tile u).pend

/-- Whenever the command's bundle issues, the command completes, and the result `e` of latency class `cls` is on its way; `e`
is given by the state at issue and the tile in it. -/
def Gives (c : Instr) (s : State) (cls : Nat) (e : State → Tile → Effect) : Prop :=
  ∀ u b, carried c = some (u, b) → s.Issues u b →
    Yields c s (fun t => (s.atIssue u b).Brings t u ((s.atIssue u b).lat u.wing cls) (e (s.atIssue u b) ((s.atIssue u b).tile u)))

/-- Lane `l` of vector register `r`. -/
def Tile.lane (t : Tile) (r : BitVec 4) (l : Nat) : Lane := sget (fun _ => 0) t.vectors (64 * r.toNat + l)

/-- The command gives a vector result lane by lane. -/
def GivesLanes (c : Instr) (s : State) (cls : Nat) (vd : BitVec 4) (f : Tile → Nat → Lane) : Prop :=
  Gives c s cls (fun _ x => .vector vd.toNat ((List.range 64).map (f x)))

/-- R175 to R177: the program's entry for a row has taken in a run of bytes: either it is still open, or it was complete and
the whole row is on its way, to be full at the latency of class 9. Its other bytes are as they were. -/
def State.Gathers (s t : State) (u : Site) (row off : Nat) (bs : List Byte) : Prop :=
  ∃ g : Gather, g.row = row ∧
    (g ∈ (t.tile u).gathers ∨ ⟨(s.tile u).beat + s.lat u.wing 9, .rowFill row g.row512⟩ ∈ (t.tile u).pend) ∧
    ∀ i, sget (fun _ => 0) g.bytes i =
      if off ≤ i ∧ i < off + bs.length then bs.getD (i - off) 0
      else match (s.tile u).programEntry row with
        | some h => sget (fun _ => 0) h.bytes i
        | none => 0

/-- No slot of the bundle holds an instruction. -/
def Alone (b : Bundle) : Prop :=
  b.ctl = none ∧ b.mem = none ∧ b.q = none ∧ b.net = none ∧ b.vec = none ∧ b.arr = none

/-- Memory, every other tile, and the tile's own scalar, vector and exponent registers and accumulator rows are as before. -/
def State.LeavesData (s t : State) (u : Site) : Prop :=
  t.mem = s.mem ∧ (∀ v, v ≠ u → t.tile v = s.tile v) ∧ (t.tile u).scalars = (s.tile u).scalars ∧
    (t.tile u).vectors = (s.tile u).vectors ∧ (t.tile u).expReg = (s.tile u).expReg ∧ (t.tile u).acc = (s.tile u).acc

/-- Memory and every tile are as before, and so is every register but those at the listed addresses. -/
def State.WritesOnly (s t : State) (l : List Nat) : Prop := t.mem = s.mem ∧ t.tiles = s.tiles ∧ ∀ a, a ∉ l → t.reg a = s.reg a

/-- R127, R599, R617: what a stop of a wing leaves: the wing's tiles neither run nor wait, and a loaded job has ended, with a stop record
that names the first stop. -/
def State.Stops (s t : State) (w : Fin 2) (status source locus chip : Nat) : Prop :=
  t.mem = s.mem ∧ t.tiles = s.tiles ∧
  (∀ u : Site, t.tbit u Reg.TC_RUN.RUN = if u.wing = w then false else s.tbit u Reg.TC_RUN.RUN) ∧
  (∀ u : Site, u.wing = w → t.reg (Reg.TC_WAIT_STATE.WAITING.on u 0) = 0) ∧
  (s.bit Reg.FB_JOB.LOADED w = false → ∀ a, isTcRun w a = false → isTcWait w a = false → t.reg a = s.reg a) ∧
  (s.bit Reg.FB_JOB.LOADED w = true → t.bit Reg.FB_JOB.LOADED w = false ∧ t.bit Reg.CF_STOP_RECORD0.VALID w = true ∧
    (s.bit Reg.CF_STOP_RECORD0.VALID w = true →
      t.reg (Reg.CF_STOP_RECORD0.VALID.at w 0) = s.reg (Reg.CF_STOP_RECORD0.VALID.at w 0)) ∧
    (s.bit Reg.CF_STOP_RECORD0.VALID w = false →
      t.fld Reg.CF_STOP_RECORD0.STATUS w = status % 256 ∧ t.fld Reg.CF_STOP_RECORD0.SOURCE w = source % 16 ∧
      t.fld Reg.CF_STOP_RECORD0.LOCUS w = locus % 2 ^ 16 ∧ t.fld Reg.CF_STOP_RECORD0.CHIP w = chip % 2 ^ 16 ∧
      t.reg (Reg.CF_STOP_RECORD1.TIME.at w 0) = s.reg (Reg.TB_TIME.TIME.at w 0) ∧
      t.reg (Reg.CF_STOP_RECORD2.STEP.at w 0) = s.reg (Reg.TB_STEP.STEP.at w 0)))

/-- R375: a control record goes out: in the next free frame of a trained port on which nothing waits, else in the order in which
records wait. -/
def State.SendsControl (s t : State) (w : Fin 2) (p : Nat) (c : Control) : Prop :=
  (s.trained w p = false → (t.wing w).port p = { (s.wing w).port p with control := ((s.wing w).port p).control ++ [c] }) ∧
  (s.trained w p = true → ((s.wing w).port p).control = [] → ((s.wing w).port p).out = [] →
    ((s.wing w).port p).replay.length < 256 → ∃ f : SentFrame, ((t.wing w).port p).replay = ((s.wing w).port p).replay ++ [f] ∧
      f.frame.seq = ((s.wing w).port p).txSeq ∧
      f.frame.ctrl = some (controlBytes c ((s.wing w).port p).txSeq))

/-- R520: one more completion: it waits behind those that wait, or it is written when none waits and there is room. -/
def State.Posts (s t : State) (c : Completion) : Prop :=
  (s.cplRoom = false → t.host.waiting = s.host.waiting ++ [c] ∧ t.host.written = s.host.written) ∧
  (s.cplRoom = true → s.host.waiting = [] → t.host.waiting = [] ∧ ∃ i, t.host.written = s.host.written ++ [(i, c)])

/-- Memory and tiles are as before. -/
def State.KeepsData (s t : State) : Prop := t.mem = s.mem ∧ t.tiles = s.tiles

/-- R521: the completion that an event brings. -/
def State.eventEntry (s : State) (code status : Nat) (payload : List Byte) : Completion :=
  { typ := 2, step := s.reg (Reg.TB_STEP.STEP.at 0 0), status := status, code := code, payload := payload }

/-- R516, R517: the completion of a command. -/
def cmdEntry (vector opcode : Nat) (tag : BitVec 64) (status : Nat) (payload : List Byte) : Completion :=
  { typ := 1, id := tag, status := status, code := opcode, payload := payload,
    vector := if vector < 2 ∨ 63 < vector then 2 else vector }

/-- R411: wing 0's engine has decided about slot `n`. Wing 1's copy follows at once where both wings have committed the same step;
where wing 1 is behind it keeps the decision until its own commit, and where it is ahead wing 0 keeps the slot's number for its own. -/
def State.Decides (s t : State) (n : Nat) (P : Slot → Prop) : Prop :=
  let c (w : Fin 2) := s.fld Reg.SV_COMMITTED.STEP w
  P ((t.wing 0).slot n) ∧ (∀ w m, m ≠ n → (t.wing w).slot m = (s.wing w).slot m) ∧
  (c 0 = c 1 → (t.wing 1).slot n = (t.wing 0).slot n) ∧
  (c 0 ≠ c 1 → (t.wing 1).slot n = (s.wing 1).slot n) ∧
  (c 1 < c 0 → (t.wing 1).decided = (s.wing 1).decided ++ [(n, (t.wing 0).slot n)]) ∧
  (c 0 < c 1 → n ∈ (t.wing 0).late)

/-- A run of bytes at an offset of a wing, and nothing else of the memory, has been written. -/
def State.Stores (s t : State) (w : Fin 2) (off : Nat) (bs : List Byte) : Prop :=
  (∀ i, i < bs.length → memRead t.mem (wingAddr w (off + i)) = bs.getD i 0) ∧
  ∀ a, (∀ i, i < bs.length → a ≠ wingAddr w (off + i)) → memRead t.mem a = memRead s.mem a

/-- R177: no completed row of the tile's program is on its way. -/
def Tile.Filled (t : Tile) : Prop := ∀ p ∈ t.pend, ∀ r d, p.eff ≠ .rowFill r d

/-- R141, R173: the row does not become empty when a lock or a claim of it ends. -/
def Tile.Stays (t : Tile) (r : Nat) : Prop := t.emptyLater.contains r = false ∧ t.stepClear.contains r = false

/-- No word and no read waits at the tile (R175, R189), and no completed row of its program is on its way (R177). -/
def State.Quiet (s : State) (u : Site) : Prop :=
  (s.tile u).heldWords = [] ∧ (s.tile u).readPort = [] ∧ (s.tile u).Filled

/-- Memory and tiles are as before, but for the round-robin pointers of the tile's router (R257). -/
def State.OnlyServes (s t : State) (u : Site) : Prop :=
  t.mem = s.mem ∧ (∀ v, v ≠ u → t.tile v = s.tile v) ∧ ∃ l, t.tile u = { s.tile u with served := l }

/-- Whenever the command's bundle, whose other slots are empty, issues at a tile where nothing waits, the command completes
with a next state of which `P` holds; `P` is given the state at issue and the tile. -/
def YieldsAlone (c : Instr) (co : Bundle) (s : State) (P : State → Site → State → Prop) : Prop :=
  ∀ u b, carried c = some (u, b) → Alone co → s.Issues u b → (s.atIssue u b).Quiet u →
    Yields c s (fun t => P (s.atIssue u b) u t)

/-- The command's bundle, whose other slots are empty, goes on when `cond` holds of the state that it meets, and otherwise
waits with a cause. -/
def WaitsUntil (c : Instr) (co : Bundle) (s : State) (cause : Nat) (cond : State → Prop) : Prop :=
  ∀ u b, carried c = some (u, b) → Alone co → s.presents u = true → (s.settle u).fetchBad u b = none →
    (s.settle u).bundleFault u b = none →
    (cond (s.settle u) → Yields c s (fun t =>
      t.pc u = ((s.settle u).flow u b.ctl).pc % 2 ^ 17 ∧ t.reg (Reg.TC_WAIT_STATE.WAITING.on u 0) = 0)) ∧
    (¬ cond (s.settle u) → (s.tile u).pend = [] → s.Quiet u → Yields c s (fun t =>
      t.tbit u Reg.TC_WAIT_STATE.WAITING = true ∧ t.tfld u Reg.TC_WAIT_STATE.CAUSE = cause ∧ t.pc u = s.pc u ∧ t.mem = s.mem))

/-- R267: what one arrival at a usable barrier of a router does: it pends while the barrier waits for its release; or it is
counted; or it is the last one expected, and the barrier completes at its root, and elsewhere an arrival goes to the parent. -/
def State.CountsArrival (s t : State) (u : Site) (b : Nat) : Prop :=
  let n := (s.tfld u Reg.MX_BAR_STATE.ARRIVED b + 1) % 8
  let gen := s.tfld u Reg.MX_BAR_STATE.GEN b
  let is (arrived waitrel gen : Nat) : Prop := t.tfld u Reg.MX_BAR_STATE.ARRIVED b = arrived ∧
    t.tfld u Reg.MX_BAR_STATE.WAITREL b = waitrel ∧ t.tfld u Reg.MX_BAR_STATE.GEN b = gen
  (s.tbit u Reg.MX_BAR_STATE.WAITREL b = true → is (s.tfld u Reg.MX_BAR_STATE.ARRIVED b) 1 gen ∧
    t.tfld u Reg.MX_BAR_STATE.PENDING b = (s.tfld u Reg.MX_BAR_STATE.PENDING b + 1) % 8) ∧
  (s.tbit u Reg.MX_BAR_STATE.WAITREL b = false →
    t.tfld u Reg.MX_BAR_STATE.PENDING b = s.tfld u Reg.MX_BAR_STATE.PENDING b ∧
    (n ≠ s.barExpected u b → is n 0 gen) ∧
    (n = s.barExpected u b → s.tfld u Reg.MX_BAR_CFG.PARENT b = 0 → is 0 0 ((gen + 1) % 2 ^ 16)) ∧
    (n = s.barExpected u b → s.tfld u Reg.MX_BAR_CFG.PARENT b ≠ 0 → is n 1 gen ∧
      (hasLink u (dirOf (s.tfld u Reg.MX_BAR_CFG.PARENT b)) = true → ∃ p : Packet, p.kind = 9 ∧ p.arg = BitVec.ofNat 20 b ∧
        (t.tile u).queue .tile = (s.tile u).queue .tile ++ [p])))

end Sys2Proof.Machine
end

