-- ==== Sys2Proof/Certificates/Slice0/Obligations.lean ====
section
/-!
DEFINITION. The statements for the provers, each a Prop: the queue and every step; the bundles of a tile, by slot; the
commands of the other units, family by family.
-/
open Sys2Proof Sys2Proof.Machine

/-! ### Steps -/

/-- A step runs the command at the front of the queue with the queue's rest. -/
def Obligations.StepRunsFront : Prop :=
  ∀ (c : Instr) (rest : List Instr) (s : State), step (s.setPending (c :: rest)) = exec c (s.setPending rest)

/-- With an empty queue a step is one cycle of the timebase (log entry 12: DESIGN CHOICE): each wing's time gains 1 ns, in
units of 1/16 ns, and the unit by which it slews; tiles, memory and queue stay. A module without power, or held in reset, has no
clock (R23, R637). -/
def Obligations.IdleStepCounts : Prop :=
  ∀ s : State, s.pending = [] →
    (s.up = false → step s = .next s) ∧
    (s.up = true → ∃ t, step s = .next t ∧ t.pending = [] ∧ t.mem = s.mem ∧ t.tiles = s.tiles ∧
      ∀ w : Fin 2, t.reg (Reg.TB_TIME.TIME.at w 0) =
        s.reg (Reg.TB_TIME.TIME.at w 0) + 16 + BitVec.ofInt 64 (slewStep (s.wing w).time).1)

/-- The state after reset is in canonical form. -/
def Obligations.ResetCanonical : Prop := State.reset.Canonical

/-- Every step keeps the registers, the memory and the tiles in canonical form. -/
def Obligations.StepKeepsCanonical : Prop :=
  ∀ s t : State, s.Canonical → step s = .next t → t.Canonical

/-- No command's effect touches the queue, and every command completes: the one next state keeps the queue's rest. Model's
choices: log entry 6. -/
def Obligations.ExecLeavesQueue : Prop :=
  ∀ (c : Instr) (s : State), Yields c s (fun t => t.pending = s.pending)

/-- After reset every register reads its reset value, every byte of memory and every tile is as nothing has written it, and
no job is loaded and no tile runs. Model's choices: log entries 1, 2, 3 and 4. -/
def Obligations.ResetState : Prop :=
  (∀ a, State.reset.reg a = resetVal a) ∧ (∀ a, memRead State.reset.mem a = 0) ∧ (∀ u, State.reset.tile u = {}) ∧
    State.reset.pending = [] ∧ (∀ w, State.reset.bit Reg.FB_JOB.LOADED w = false) ∧
    ∀ u, State.reset.tbit u Reg.TC_RUN.RUN = false

/-! ### Bundles: issue, fault, wait -/

/-- R29, R75, R79, R80: a command whose bundle issues completes: the program counter goes where control flow says, nothing
waits, and every result of every slot is on its way. Model's choices: log entry 13. -/
def Obligations.BundleIssues : Prop :=
  ∀ (c : Instr) (u : Site) (b : Bundle) (s : State), carried c = some (u, b) → s.Issues u b →
    Yields c s (fun t =>
      t.pc u = ((s.atIssue u b).flow u b.ctl).pc % 2 ^ 17 ∧
      t.reg (Reg.TC_WAIT_STATE.WAITING.on u 0) = 0 ∧
      (t.tile u).loops = ((s.atIssue u b).flow u b.ctl).loops ∧
      ∀ r ∈ (s.atIssue u b).results u b, r ∈ (t.tile u).pend)

/-- R127, R128, R164, R643: a command whose bundle meets a fault as it comes to issue completes: before any slot takes effect,
`TC_FAULT` records TAG_FAULT, the cause and the program counter unless it holds a fault, and the tile's `TC_RUN.RUN` and its wait are
clear. Memory and tiles are as the results due by then leave them. An uncorrectable codeword in the program row stops the tile in
the same way, and `SP_ECC_STATUS` records the row unless it holds a record. Model's choices: log entries 13 and 60. -/
def Obligations.BundleFaults : Prop :=
  (∀ (c : Instr) (u : Site) (b : Bundle) (s : State) (e : Nat × Bool), s.Canonical → carried c = some (u, b) →
    s.presents u = true → (s.settle u).fetchBad u b = some e →
    Yields c s (fun t =>
      t.tbit u Reg.SP_ECC_STATUS.UE_VALID = true ∧
      ((s.settle u).tbit u Reg.SP_ECC_STATUS.UE_VALID = false →
        t.tfld u Reg.SP_ECC_STATUS.UE_ROW = (s.settle u).pc u / 8 ∧ t.tbit u Reg.SP_ECC_STATUS.UE_SCRUB = false ∧
          t.tbit u Reg.SP_ECC_STATUS.UE_PARITY = e.2) ∧
      t.tbit u Reg.TC_RUN.RUN = false ∧ t.pc u = (s.settle u).pc u ∧ t.mem = (s.settle u).mem ∧ t.tiles = (s.settle u).tiles)) ∧
  ∀ (c : Instr) (u : Site) (b : Bundle) (s : State) (n : Nat), s.Canonical → carried c = some (u, b) →
    s.presents u = true → (s.settle u).fetchBad u b = none → (s.settle u).bundleFault u b = some n →
    Yields c s (fun t =>
      t.tbit u Reg.TC_FAULT.VALID = true ∧
      ((s.settle u).tbit u Reg.TC_FAULT.VALID = false →
        t.tfld u Reg.TC_FAULT.STATUS = stTagFault ∧ t.tfld u Reg.TC_FAULT.CAUSE = n % 16 ∧
          t.tfld u Reg.TC_FAULT.PC = (s.settle u).pc u) ∧
      ((s.settle u).tbit u Reg.TC_FAULT.VALID = true →
        t.reg (Reg.TC_FAULT.VALID.on u 0) = (s.settle u).reg (Reg.TC_FAULT.VALID.on u 0)) ∧
      t.tbit u Reg.TC_RUN.RUN = false ∧ t.reg (Reg.TC_WAIT_STATE.WAITING.on u 0) = 0 ∧ t.pc u = (s.settle u).pc u ∧
      t.mem = (s.settle u).mem ∧ t.tiles = (s.settle u).tiles)

/-- R30, R127: a command whose bundle waits completes: `TC_WAIT_STATE` shows the wait, its cause and its program counter;
with no result on its way and nothing else waiting at the tile, memory and tiles stay as they are. Model's choices: log
entries 11 and 13. -/
def Obligations.BundleWaits : Prop :=
  ∀ (c : Instr) (u : Site) (b : Bundle) (s : State) (n : Nat), carried c = some (u, b) → s.presents u = true →
    (s.tile u).pend = [] → s.Quiet u → (s.settle u).fetchBad u b = none → (s.settle u).bundleFault u b = none →
    (s.settle u).bundleWait u b = some n →
    Yields c s (fun t =>
      t.tbit u Reg.TC_WAIT_STATE.WAITING = true ∧ t.tfld u Reg.TC_WAIT_STATE.CAUSE = n % 16 ∧
      t.tfld u Reg.TC_WAIT_STATE.PC = s.pc u ∧ t.mem = s.mem ∧ (∀ v, t.tile v = s.tile v) ∧
      ∀ a, a ≠ Reg.TC_WAIT_STATE.WAITING.on u 0 → t.reg a = s.reg a)

/-- R80 to R82: when a bundle of a tile comes to issue, a scalar result due by then is what the register holds, unless a
later entry of the results on their way, also due, writes the same register; a result not yet due stays on its way; a scalar
register that no due result writes keeps its value; and s0 reads 0. Model's choices: log entry 57. -/
def Obligations.ResultsBecomeVisible : Prop :=
  ∀ (s : State) (u : Site),
    (∀ (d r : Nat) (v : Word) (before later : List PendWrite), (s.tile u).pend = before ++ ⟨d, .scalar r v⟩ :: later →
      d ≤ (s.tile u).beat → r ≠ 0 → (∀ q ∈ later, q.due ≤ (s.tile u).beat → ∀ x, q.eff ≠ .scalar r x) →
      ((s.settle u).tile u).scalar r = v) ∧
    (∀ p ∈ (s.tile u).pend, (s.tile u).beat < p.due → p ∈ ((s.settle u).tile u).pend) ∧
    (∀ r, (∀ p ∈ (s.tile u).pend, p.due ≤ (s.tile u).beat → ∀ x, p.eff ≠ .scalar r x) →
      ((s.settle u).tile u).scalar r = (s.tile u).scalar r) ∧
    ((s.settle u).tile u).scalar 0 = 0

/-- R86: what a generator with base B, counts N0 to N3 and strides S0 to S3 outputs when its counters stand at i0 to i3, and
how its counters advance. -/
def Obligations.Generators : Prop :=
  ∀ (b n0 n1 n2 n3 i0 i1 i2 i3 : Nat) (s0 s1 s2 s3 : Int),
    (((Gen.out { base := b, n := [n0, n1, n2, n3], st := [s0, s1, s2, s3] } [i0, i1, i2, i3] : Nat) : Int) =
      (b + i0 * s0 + i1 * s1 + i2 * s2 + i3 * s3) % 2 ^ 20) ∧
    advanceNest [i0, i1, i2, i3] [n0, n1, n2, n3] =
      (if n0 < i0 + 1 then
        if n1 < i1 + 1 then
          if n2 < i2 + 1 then
            if n3 < i3 + 1 then [0, 0, 0, 0] else [0, 0, 0, i3 + 1]
          else [0, 0, i2 + 1, i3]
        else [0, i1 + 1, i2, i3]
      else [i0 + 1, i1, i2, i3])

/-! ### The VEC slot -/

/-- R113, R114: the scalar forms. IMM32 is sign-extended; where SB is 0, the logical forms take IMM32. -/
def Obligations.ScalarForms : Prop :=
  ∀ (u : Site) (f : SForm) (co : Bundle) (s : State),
    let g (v : Word → Word → Word) (_ : State) (x : Tile) : Effect := .scalar f.sd.toNat (v (x.scalar f.sa.toNat) (x.scalar f.sb.toNat))
    let imm : Word := f.imm32.signExtend 64
    let orImm (b : Word) : Word := if f.sb = 0 then imm else b
    Gives (.vsadd u f co) s 0 (g fun a b => a + b + imm) ∧
    Gives (.vssub u f co) s 0 (g fun a b => a - b - imm) ∧
    Gives (.vsmul u f co) s 0 (g fun a b => a * b) ∧
    Gives (.vsand u f co) s 0 (g fun a b => a &&& orImm b) ∧
    Gives (.vsor u f co) s 0 (g fun a b => a ||| orImm b) ∧
    Gives (.vsxor u f co) s 0 (g fun a b => a ^^^ orImm b) ∧
    Gives (.vsshl u f co) s 0 (g fun a b => a <<< ((b + imm).toNat % 64)) ∧
    Gives (.vsshr u f co) s 0 (g fun a b => a.sshiftRight ((b + imm).toNat % 64)) ∧
    Gives (.vsmin u f co) s 0 (g fun a b => if b.toInt < a.toInt then b else a) ∧
    Gives (.vsmax u f co) s 0 (g fun a b => if a.toInt < b.toInt then b else a) ∧
    Gives (.vsli u f co) s 0 (fun _ x => .scalar f.sd.toNat
      (if f.h then f.imm32 ++ (x.scalar f.sd.toNat).extractLsb' 0 32 else imm))

/-- R114: the integer and logical forms work lane by lane, with no event; a shift takes bits [4:0] of its count. -/
def Obligations.IntegerLanes : Prop :=
  ∀ (u : Site) (f : VForm) (co : Bundle) (s : State),
    let g (v : Lane → Lane → Lane → Lane) (x : Tile) (l : Nat) : Lane := v (x.lane f.va l) (x.lane f.vb l) (x.lane f.vc l)
    GivesLanes (.viadd u f co) s 2 f.vd (g fun a b _ => a + b) ∧
    GivesLanes (.visub u f co) s 2 f.vd (g fun a b _ => a - b) ∧
    GivesLanes (.vimul u f co) s 2 f.vd (g fun a b _ => a * b) ∧
    GivesLanes (.vshl u f co) s 2 f.vd (g fun a b _ => a <<< (b.toNat % 32)) ∧
    GivesLanes (.vshr u f co) s 2 f.vd (g fun a b _ => a.sshiftRight (b.toNat % 32)) ∧
    GivesLanes (.vand u f co) s 2 f.vd (g fun a b _ => a &&& b) ∧
    GivesLanes (.vor u f co) s 2 f.vd (g fun a b _ => a ||| b) ∧
    GivesLanes (.vxor u f co) s 2 f.vd (g fun a b _ => a ^^^ b) ∧
    GivesLanes (.vsel u f co) s 2 f.vd (g fun a b c => if a = 0 then c else b)

/-- R59, R63, R64, R114: the floating-point forms work lane by lane, each in its latency class; a NaN operand of `VABS` and
`VNEG` gives the one NaN. -/
def Obligations.FloatLanes : Prop :=
  ∀ (u : Site) (f : VForm) (co : Bundle) (s : State),
    let m := f.rmode.toNat
    let g (v : Lane → Lane → Lane → Lane) (x : Tile) (l : Nat) : Lane := v (x.lane f.va l) (x.lane f.vb l) (x.lane f.vc l)
    GivesLanes (.vadd u f co) s 3 f.vd (g fun a b _ => (fpAdd m a b).1) ∧
    GivesLanes (.vsub u f co) s 3 f.vd (g fun a b _ => (fpSub m a b).1) ∧
    GivesLanes (.vmul u f co) s 3 f.vd (g fun a b _ => (fpMul m a b).1) ∧
    GivesLanes (.vfma u f co) s 4 f.vd (g fun a b c => (fpFma m a b c).1) ∧
    GivesLanes (.vmax u f co) s 2 f.vd (g fun a b _ => fpMax a b) ∧
    GivesLanes (.vmin u f co) s 2 f.vd (g fun a b _ => fpMin a b) ∧
    GivesLanes (.vabs u f co) s 2 f.vd (g fun a _ _ => if isNan a then nanLane else a &&& 0x7FFFFFFF) ∧
    GivesLanes (.vneg u f co) s 2 f.vd (g fun a _ _ => if isNan a then nanLane else a ^^^ 0x80000000) ∧
    GivesLanes (.vcmplt u f co) s 2 f.vd (g fun a b _ => if fpLess a b then 1 else 0) ∧
    GivesLanes (.vcmpeq u f co) s 2 f.vd (g fun a b _ => if fpEq a b then 1 else 0) ∧
    GivesLanes (.vcvtif u f co) s 3 f.vd (g fun a _ _ => (cvtIF m a).1) ∧
    GivesLanes (.vcvtfi u f co) s 3 f.vd (g fun a _ _ => (cvtFI m a).1) ∧
    GivesLanes (.vexp2 u f co) s 6 f.vd (g fun a _ _ => (vexp2 a).1) ∧
    GivesLanes (.vrcp u f co) s 6 f.vd (g fun a _ _ => (vrcp a).1) ∧
    GivesLanes (.vrsq u f co) s 6 f.vd (g fun a _ _ => (vrsq a).1) ∧
    GivesLanes (.vsigm u f co) s 7 f.vd (g fun a _ _ => (vsigm a).1)

/-- R114, R115, R118: the forms that fill VD from elsewhere: a row of scratchpad widened, an accumulator row, a scalar
register, a rescaled accumulator row; and `VMOVS`, which moves one lane to a scalar register. Model's choices: log entry 18.
-/
def Obligations.VectorSources : Prop :=
  ∀ (u : Site) (f : VForm) (co : Bundle) (s : State),
    Gives (.vld u f co) s 2 (fun x _ => .vector f.vd.toNat (loadSlice
      (match optRows (x.operandRows u f.rowop 1) with | r :: _ => x.readRow u r.row | [] => [])
      (match (if vldScaled f then optRows (x.operandRows u f.rowop2 1) else []) with | r :: _ => some (x.readRow u r.row) | [] => none)
      f.fmt.toNat f.immA.toNat f.immB.toNat).1) ∧
    Gives (.vlda u f co) s 2 (fun x y =>
      let reg := x.region u f.acc.region.toNat
      .vector f.vd.toNat (y.accRow (reg.base + f.acc.row.toNat + (if f.side then reg.rows else 0))).lanes) ∧
    GivesLanes (.vbcast u f co) s 2 f.vd (fun y _ => (y.scalar f.sa.toNat).extractLsb' 0 32) ∧
    Gives (.vmovs u f co) s 2 (fun _ y => .scalar f.sa.toNat (((y.vector f.va.toNat).getD f.immA.toNat 0).signExtend 64)) ∧
    Gives (.vresc u f co) s 4 (fun x _ => .vector f.vd.toNat (x.rescLanes u f).1)

/-- R62, R64, R114, R117, R119, R120: reductions, lists and quantisation. `VQNT` also brings the two block exponents, as an
E pair, in the same beat. -/
def Obligations.VectorReductions : Prop :=
  ∀ (u : Site) (f : VForm) (co : Bundle) (s : State),
    GivesLanes (.vrsum u f co) s 5 f.vd (fun y _ => (treeSum 6 (y.vector f.va.toNat)).1.headD 0) ∧
    GivesLanes (.vrmax u f co) s 4 f.vd (fun y _ => laneMax (y.vector f.va.toNat)) ∧
    Gives (.vtopk u f co) s 4 (fun _ y => .vector f.vd.toNat (topK f.immA.toNat (f.immB.getLsbD 0)
      ((y.scalar f.sa.toNat).toNat % 2 ^ 32) (y.vector f.vd.toNat) (y.vector f.va.toNat))) ∧
    Gives (.vqnt u f co) s 4 (fun x _ => .vector f.vd.toNat ((x.quantHalf u f false).1 ++ (x.quantHalf u f true).1)) ∧
    Gives (.vqnt u f co) s 4 (fun x _ => .expPair f.immA.toNat (BitVec.ofInt 8 (x.quantHalf u f false).2.1)
      (BitVec.ofInt 8 (x.quantHalf u f true).2.1))

/-- Frame of the forms that touch registers only (R82, R112, R113): a bundle whose VEC slot holds nothing, a scalar form, or
a vector form that names no row and no accumulator leaves memory, every other tile, both wings and every other unit as they
stand at issue; in its own tile only the beat, the results on their way and the loop records change; and of the registers
only those listed: the tile's program counter, wait state, beat count and numeric flags, its saturation count and its count of
corrected codewords (of the fetch, R163), and the wing's choice counters (R457) and replay register (R471). -/
def Obligations.RegisterBundlesFrame : Prop :=
  ∀ (c : Instr) (u : Site) (b : Bundle) (s : State), carried c = some (u, b) → s.Issues u b → (s.atIssue u b).Quiet u →
    b.ctl = none → b.mem = none → b.q = none → b.net = none → b.arr = none →
    (∀ k f, b.vec = some (.vec k f) → k ≠ .vld ∧ k ≠ .vlda ∧ k ≠ .vst ∧ k ≠ .vste ∧ k ≠ .vresc) →
    Yields c s (fun t =>
      let s0 := s.atIssue u b
      t.mem = s0.mem ∧ (∀ v, v ≠ u → t.tile v = s0.tile v) ∧
      (∃ beat pend loops, t.tile u = { s0.tile u with beat := beat, pend := pend, loops := loops, barSent := false }) ∧
      t.wing0 = s0.wing0 ∧ t.wing1 = s0.wing1 ∧ t.host = s0.host ∧ t.power = s0.power ∧ t.cocoon = s0.cocoon ∧
      t.board = s0.board ∧ t.job = s0.job ∧ t.freeTick = s0.freeTick ∧
      ∀ a, a ∉ [Reg.TC_PC.PC.on u 0, Reg.TC_WAIT_STATE.WAITING.on u 0, Reg.TC_BEAT_COUNT.BEATS.on u 0,
          Reg.TC_NUM_FLAGS.NV.on u 0, Reg.TC_SAT_COUNT.COUNT.on u 0, Reg.SP_ECC_STATUS.CORRECTED.on u 0, Reg.AU_TDC.PENDING.at u.wing 0,
          Reg.AU_TDC_TOTAL.TOTAL.at u.wing 0, Reg.AU_REPLAY.BROKEN.at u.wing 0] → t.reg a = s0.reg a)

/-! ### The CTL slot -/

/-- R93 to R95: when a `BRC` is taken; a `LOOP` with a count of 0 skips its body; any other count makes a loop record and goes
on. -/
def Obligations.BranchesAndLoops : Prop :=
  ∀ (u : Site) (co b : Bundle) (s : State), s.Issues u b →
    let s0 := s.atIssue u b
    let scalar (r : BitVec 6) := (s0.tile u).scalar r.toNat
    (∀ (cond : BitVec 4) (sa sb : BitVec 6) (target : BitVec 17),
      carried (.brc u cond sa sb target co) = some (u, b) →
      let x := scalar sa
      let y := scalar sb
      let taken := cond = 0 ∨ (cond = 1 ∧ x = y) ∨ (cond = 2 ∧ x ≠ y) ∨ (cond = 3 ∧ x.toInt < y.toInt) ∨
        (cond = 4 ∧ y.toInt ≤ x.toInt) ∨ (cond = 5 ∧ x < y) ∨ (cond = 6 ∧ y ≤ x) ∨
        (cond = 7 ∧ s0.tfld u Reg.TC_SAT_CTL.LIMIT < s0.tfld u Reg.TC_SAT_COUNT.COUNT)
      (taken → Yields (.brc u cond sa sb target co) s (fun t => t.pc u = target.toNat ∧
        (t.tile u).loops = loopsAfterBranch target.toNat (s0.tile u).loops)) ∧
      (¬ taken → Yields (.brc u cond sa sb target co) s (fun t => t.pc u = (s0.pc u + 1) % 2 ^ 17 ∧
        (t.tile u).loops = (s0.tile u).loops))) ∧
    (∀ (csrc : Bool) (sc : BitVec 6) (imm : BitVec 16) (last : BitVec 17),
      carried (.loop u csrc sc imm last co) = some (u, b) →
      let n := if csrc then (scalar sc).toNat % 2 ^ 32 else imm.toNat
      (n = 0 → Yields (.loop u csrc sc imm last co) s (fun t => t.pc u = (last.toNat + 1) % 2 ^ 17 ∧
        (t.tile u).loops = (s0.tile u).loops)) ∧
      (n ≠ 0 → Yields (.loop u csrc sc imm last co) s (fun t => t.pc u = (s0.pc u + 1) % 2 ^ 17 ∧
        (t.tile u).loops = { first := s0.pc u + 1, last := last.toNat, remaining := n - 1 } :: (s0.tile u).loops ∧
        (t.tile u).loops.length ≤ 4)))

/-- R79, R95, R97: every other bundle goes on to the next one, and at the END of a held loop, of the innermost one that ends
there, it returns to the body's first bundle while iterations remain, or removes the record. So a `NOP` outside every loop only goes on. Model's
choices: log entry 21. -/
def Obligations.SequentialBundles : Prop :=
  (∀ (u : Site) (s : State), s.Issues u {} → ((s.atIssue u {}).tile u).loops = [] →
    Yields (.nop u) s (fun t => t.pc u = ((s.atIssue u {}).pc u + 1) % 2 ^ 17 ∧ (t.tile u).loops = [])) ∧
  ∀ (c : Instr) (u : Site) (b : Bundle) (s : State), carried c = some (u, b) → s.Issues u b →
    (∀ cond sa sb target, b.ctl ≠ some (.brc cond sa sb target)) → (∀ csrc sc imm last, b.ctl ≠ some (.loop csrc sc imm last)) →
    let s0 := s.atIssue u b
    ((s0.tile u).loops.all (fun x => x.last != s0.pc u) = true →
      Yields c s (fun t => t.pc u = (s0.pc u + 1) % 2 ^ 17 ∧ (t.tile u).loops = (s0.tile u).loops)) ∧
    (∀ pre x r, (s0.tile u).loops = pre ++ x :: r → pre.all (fun y => y.last != s0.pc u) = true → x.last = s0.pc u →
      (x.remaining ≠ 0 → Yields c s (fun t =>
        t.pc u = x.first % 2 ^ 17 ∧ (t.tile u).loops = pre ++ { x with remaining := x.remaining - 1 } :: r)) ∧
      (x.remaining = 0 → r.all (fun y => y.last != s0.pc u) = true → Yields c s (fun t =>
        t.pc u = (s0.pc u + 1) % 2 ^ 17 ∧ (t.tile u).loops = pre ++ r)))

/-- R98, R173, R289: `STEP` BEGIN takes the step counter's value and clears the step's counts, of which its own beat is then
counted; END reports the tile to the wing, and empties the rows of its STEPCLR handles, a claimed row when its claim ends. -/
def Obligations.StepBundles : Prop :=
  ∀ (u : Site) (co : Bundle) (s : State),
    YieldsAlone (.stepBegin u co) co s (fun s0 u t =>
      t.tfld u Reg.TC_STEP_LOCAL.STEP = s0.fld Reg.TB_STEP.STEP u.wing ∧ t.tfld u Reg.TC_BEAT_COUNT.BEATS = 1 ∧
      t.tfld u Reg.TC_WIDE_RUNS.RUNS = 0 ∧ t.tfld u Reg.AY_SKIP_COUNT.SKIPPED = 0 ∧ t.tfld u Reg.AY_FED_COUNT.FED = 0 ∧
      (t.tile u).ended = false ∧ t.mem = s0.mem ∧ (∀ v, v ≠ u → t.tile v = s0.tile v)) ∧
    YieldsAlone (.stepEnd u co) co s (fun s0 u t =>
      (t.tile u).ended = true ∧ u.tile.toNat ∈ (t.wing u.wing).endedTiles ∧ t.mem = s0.mem ∧
      (∀ v, v ≠ u → t.tile v = s0.tile v) ∧
      ∀ h r, (s0.handle u h).valid = true → (s0.handle u h).stepclr = true → h < 256 → (s0.handle u h).base ≤ r →
        r < (s0.handle u h).base + (s0.handle u h).rows →
        ((s0.tile u).locked r = false → (s0.tile u).claimOf r = none → (t.tile u).isFull r = false) ∧
        ((s0.tile u).claimOf r ≠ none → (t.tile u).stepClear.contains r = true))

/-! ### The MEM slot, and granules of the VEC slot -/

/-- R81, R85, R100, R101: `LDW` reads a word of scratchpad, or a register of the tile's own block, into a scalar register or a
generator word; an `STW` to a configuration word of an address generator takes effect for the next bundle, clears the
generator's four counters, and prevails over an earlier result for the same word that is visible by then. -/
def Obligations.WordMoves : Prop :=
  (∀ (u : Site) (tkind : BitVec 2) (tgt : BitVec 6) (skind : BitVec 2) (src : BitVec 16) (woff : BitVec 6) (co b : Bundle)
    (s : State), carried (.ldw u tkind tgt skind src woff co) = some (u, b) → s.Issues u b →
    let s0 := s.atIssue u b
    let op := RowOp.ofBits src
    let n := s0.rowWord u op + woff.toNat
    let row := (s0.handle u op.handle.toNat).base + n / 64
    let v : Word := if skind = 0 then
        BitVec.ofNat 64 (leNat (s0.readRun u.wing (rowOffset u.tile.toNat row + 8 * (n % 64)) 8))
      else s0.reg (tileAddr u src.toNat)
    Yields (.ldw u tkind tgt skind src woff co) s (fun t =>
      s0.Brings t u (s0.lat u.wing 1)
        (if tkind = 0 then .scalar tgt.toNat v else .genWord (tgt.toNat / 4) (tgt.toNat % 4) v))) ∧
  (∀ (u : Site) (src : BitVec 6) (dst : BitVec 16) (woff : BitVec 6) (co : Bundle) (s : State),
    0x200 ≤ dst.toNat → dst.toNat < 0x300 →
    YieldsAlone (.stw u src 1 dst woff co) co s (fun s0 u t =>
      (t.tile u).counters ((dst.toNat - 0x200) / 0x20) = [0, 0, 0, 0] ∧
      (∀ r, Block.row? .tile dst.toNat = some r →
        t.reg (tileAddr u dst.toNat) = r.write (s0.reg (tileAddr u dst.toNat)) ((s0.tile u).scalar src.toNat)) ∧
      (∀ p ∈ (t.tile u).pend, p.isGen ((dst.toNat - 0x200) / 0x20) (dst.toNat % 0x20 / 8) = true →
        (s0.tile u).beat + 1 < p.due) ∧ t.mem = s0.mem))

/-- R101, R116, R175: narrow writes enter the gather buffer: the 8 bytes of `STW`, the granule of `VST` and the 64 bytes of E
that `VSTE` writes. No byte of memory changes until a row's entry completes. -/
def Obligations.NarrowWrites : Prop :=
  ∀ (u : Site) (co : Bundle) (s : State),
    (∀ (src : BitVec 6) (dst : BitVec 16) (woff : BitVec 6),
      YieldsAlone (.stw u src 0 dst woff co) co s (fun s0 u t =>
        let op := RowOp.ofBits dst
        let n := s0.rowWord u op + woff.toNat
        s0.Gathers t u ((s0.handle u op.handle.toNat).base + n / 64) (8 * (n % 64))
          (leBytes 8 ((s0.tile u).scalar src.toNat).toNat) ∧ t.mem = s0.mem)) ∧
    (∀ f : VForm,
      YieldsAlone (.vst u f co) co s (fun s0 u t =>
        let w := s0.rowWord u f.rowop
        s0.Gathers t u ((s0.handle u f.rowop.handle.toNat).base + w / 64) (storeOffset f.fmt.toNat w f.immB.toNat)
          (storeGranule f.fmt.toNat f.rmode.toNat f.immA.toNat ((s0.tile u).vector f.va.toNat)).1 ∧ t.mem = s0.mem) ∧
      YieldsAlone (.vste u f co) co s (fun s0 u t =>
        let w := s0.rowWord u f.rowop
        s0.Gathers t u ((s0.handle u f.rowop.handle.toNat).base + w / 64) (64 * ((w / 8 + f.immB.toNat) % 8))
          ((List.range 64).map (s0.tile u).expByte) ∧ t.mem = s0.mem))

/-! ### The Q slot -/

/-- R103, R104, R105, R167, R287: a `QLD` puts its ticket in flight with its HBM offset and target rows and claims the rows,
which become empty; a `QST` puts its ticket in flight with the bytes of its rows as they are at issue. With INC, s[ADDR]
increases by 512 for each row. -/
def Obligations.QueueTickets : Prop :=
  ∀ (u : Site) (ticket : BitVec 5) (nrows : BitVec 2) (rowop : RowOp) (addr : BitVec 6) (inc : Bool) (co : Bundle) (s : State),
    let n := nrows.toNat + 1
    let rows (s0 : State) := optRows (s0.operandRows u rowop n)
    let off (s0 : State) := ((s0.tile u).scalar addr.toNat).toNat % 2 ^ 39
    let moved (s0 t : State) := inc = true → s0.Brings t u (s0.lat u.wing 0)
      (.scalar addr.toNat ((s0.tile u).scalar addr.toNat + BitVec.ofNat 64 (512 * n)))
    YieldsAlone (.qld u ticket nrows rowop addr inc co) co s (fun s0 u t =>
      (t.tile u).load ticket.toNat = { state := .inFlight, off := off s0, nrows := n, rows := (rows s0).map (·.row),
                                       order := (s0.tile u).issued, beforeEnd := !(s0.tile u).ended } ∧
      (∀ x ∈ rows s0, (t.tile u).claimOf x.row = some (.load ticket.toNat) ∧ (t.tile u).isFull x.row = false) ∧
      moved s0 t ∧ s0.LeavesData t u) ∧
    YieldsAlone (.qst u ticket nrows rowop addr inc co) co s (fun s0 u t =>
      (t.tile u).store ticket.toNat = { state := .inFlight, off := off s0, nrows := n,
                                        data := (rows s0).flatMap (fun x => s0.readRow u x.row),
                                        order := (s0.tile u).issued, beforeEnd := !(s0.tile u).ended } ∧
      moved s0 t ∧ s0.LeavesData t u)

/-- R105, R106: a `QWAIT` that issues frees the completed tickets of its mask; a load that ended in status OK fills its
target rows and ends their claims. -/
def Obligations.QueueWait : Prop :=
  ∀ (u : Site) (queue : Bool) (mask : BitVec 32) (co : Bundle) (s : State) (k : Nat), bitsOf 32 mask.toNat = [k] →
    YieldsAlone (.qwait u queue mask co) co s (fun s0 u t =>
      (queue = true → ((s0.tile u).store k).state = .completed → ((s0.tile u).store k).status = stOk →
        ((t.tile u).store k).state = .free ∧ s0.LeavesData t u) ∧
      (queue = false → ((s0.tile u).load k).state = .completed → ((s0.tile u).load k).status = stOk →
        (∀ r ∈ ((s0.tile u).load k).rows, (s0.tile u).Stays r) →
        ((t.tile u).load k).state = .free ∧ (∀ r ∈ ((s0.tile u).load k).rows,
          (t.tile u).isFull r = true ∧ (t.tile u).claimOf r = none) ∧ s0.LeavesData t u))

/-! ### The NET slot -/

/-- R107, R27, R260, R266: a `SEND` puts one packet for each of its rows, in order, behind the packets that the tile has
already sent; one without an output is dropped, and one that names a place of this module outside scratchpad, or a tile number
that no tile has, is dropped and reported to the hawk cores. -/
def Obligations.SendPackets : Prop :=
  ∀ (u : Site) (rowop : RowOp) (nrows : BitVec 4) (dst : BitVec 6) (chan : BitVec 4) (flaglast mcast : Bool) (mgroup : BitVec 4)
    (co : Bundle) (s : State),
    YieldsAlone (.send u rowop nrows dst chan flaglast mcast mgroup co) co s (fun s0 u t =>
      let rows := optRows (s0.operandRows u rowop (nrows.toNat + 1))
      let pk (x : RowRef × Nat) := s0.sendPacket u (((s0.tile u).scalar dst.toNat).toNat + 512 * x.2) chan
        (flaglast && x.2 + 1 == rows.length) mcast mgroup.toNat (s0.readRow u x.1.row)
      let travels (p : Packet) : Bool := !(p.mcast && (outputsOf u p).isEmpty) &&
        (p.place == 2 || (match placeOf p.addr.toNat with | .scratch n _ => p.mcast || decide (n < 576) | _ => false))
      let lineless (p : Packet) : Bool := p.mcast && (outputsOf u p).isEmpty
      (t.tile u).queue .tile = (s0.tile u).queue .tile ++ (rows.zipIdx.map pk).filter travels ∧
      (t.wing u.wing).reports = (s0.wing u.wing).reports ++
        ((rows.zipIdx.map pk).filter (fun p => !travels p && !lineless p)).map (fun p => (stWindowViolation, p.addr.toNat)) ∧
      (∀ x ∈ rows.zipIdx, (pk x).kind = 0 ∧ (pk x).data = s0.readRow u x.1.row ∧
        (pk x).addr.toNat = (((s0.tile u).scalar dst.toNat).toNat + 512 * x.2) % 2 ^ 48) ∧ s0.LeavesData t u)

/-- R27, R108, R186, R236: a `POST` sends one packet of kind 1 for each of its rows, which names the destination's window and the
row's place in the sender's turn; toward a tile number of this module that no tile has, each is dropped and reported. R109, R181: a
`RDREM` claims its target rows, which become empty, and sends one read request for each row of a tile that it names; a row that it
asks for elsewhere in this module ends in WINDOW_VIOLATION, which stops the job. -/
def Obligations.PostsAndReads : Prop :=
  ∀ (u : Site) (rowop : RowOp) (nrows : BitVec 4) (r : BitVec 6) (chan : BitVec 4) (seq : BitVec 6) (merge : Bool)
    (co : Bundle) (s : State),
    YieldsAlone (.post u rowop nrows r chan seq co) co s (fun s0 u t =>
      let rows := optRows (s0.operandRows u rowop (nrows.toNat + 1))
      let d := ((s0.tile u).scalar r.toNat).toNat
      let rank := ((s0.tile u).scalar seq.toNat).toNat / 2 ^ 32 % 2 ^ 16
      let post := s0.packetTo u 1 (d / 2 ^ 48) (d / 2 ^ 24 % 1024)
      (post.place = 2 ∨ post.dstTile.toNat < 576 → (t.tile u).queue .tile = (s0.tile u).queue .tile ++ rows.zipIdx.map (fun x =>
        { post with
          chan := chan, win := BitVec.ofNat 4 d, arg := BitVec.ofNat 20 (rows.length * rank + x.2)
          data := s0.readRow u x.1.row })) ∧
      (post.place ≠ 2 → 576 ≤ post.dstTile.toNat → (t.tile u).queue .tile = (s0.tile u).queue .tile ∧
        (t.wing u.wing).reports = (s0.wing u.wing).reports ++
          rows.map (fun _ => (stWindowViolation, rowOffset (d / 2 ^ 24 % 1024) 0))) ∧ s0.LeavesData t u) ∧
    YieldsAlone (.rdrem u rowop nrows r merge co) co s (fun s0 u t =>
      let rows := optRows (s0.operandRows u rowop (nrows.toNat + 1))
      let a := ((s0.tile u).scalar r.toNat).toNat
      let pk (x : RowRef × Nat) : Packet :=
        let off := (a + 512 * x.2) % 2 ^ 48
        { s0.packetTo u 3 ((a + 512 * x.2) / 2 ^ 48) (off / 2 ^ 23 % 1024) with
          addr := BitVec.ofNat 48 off, rrow := BitVec.ofNat 14 x.1.row
          arg := BitVec.ofNat 20 (off / 512 % 2 ^ 14 + (if merge then 2 ^ 14 else 0)) }
      let reached (p : Packet) : Bool :=
        p.place == 2 || (match placeOf p.addr.toNat with | .scratch k _ => decide (k < 576) | _ => false)
      (t.tile u).queue .tile = (s0.tile u).queue .tile ++ (rows.zipIdx.map pk).filter reached ∧
      (∀ x ∈ rows, (t.tile u).isFull x.row = false) ∧
      (∀ x ∈ rows.zipIdx, (t.tile u).claimOf x.1.row = if reached (pk x) then some .remote else none) ∧
      ((∃ x ∈ rows.zipIdx, reached (pk x) = false) → t.tbit u Reg.TC_RUN.RUN = false) ∧ s0.LeavesData t u)

/-- R110, R267, R268: a `BAR` that does not wait brings the tile's own arrival: at a usable barrier with LOCAL it counts as
one arrival; otherwise it is dropped and counted. -/
def Obligations.BarrierArrival : Prop :=
  ∀ (u : Site) (bid : BitVec 4) (co : Bundle) (s : State),
    YieldsAlone (.bar u bid false co) co s (fun s0 u t =>
      let b := bid.toNat
      let ok := s0.tbit u Reg.MX_BAR_CFG.VALID b = true ∧ s0.tfld u Reg.MX_BAR_CFG.PARENT b ≠ 7 ∧
        s0.tbit u Reg.MX_BAR_CFG.LOCAL b = true
      (ok → s0.CountsArrival t u b) ∧
      (¬ ok → t.tfld u Reg.MX_ROUTER_STATUS.BAD_ARRIVALS = min 255 (s0.tfld u Reg.MX_ROUTER_STATUS.BAD_ARRIVALS + 1)) ∧
      s0.LeavesData t u)

/-- R111, R270: a flag update of the tile itself sets its flag word, or adds to it modulo 2^32, and leaves the other words;
a remote one sends one packet of kind 0xB that names the word and the operation, but toward a tile number of this module that no
tile has. -/
def Obligations.FlagUpdates : Prop :=
  ∀ (u : Site) (fid sv dst : BitVec 6) (chan : BitVec 4) (co : Bundle) (s : State),
    let v (s0 : State) := ((s0.tile u).scalar sv.toNat).toNat % 2 ^ 32
    let local_ (s0 t : State) (x : Nat) : Prop := t.flagWord u fid.toNat = x % 2 ^ 32 ∧
      (∀ g, g < 64 → g ≠ fid.toNat → t.flagWord u g = s0.flagWord u g) ∧ s0.LeavesData t u
    let remote (op : Nat) (s0 t : State) : Prop :=
      let d := ((s0.tile u).scalar dst.toNat).toNat
      let p : Packet := { s0.packetTo u 0xB (d / 2 ^ 48) (d / 2 ^ 24 % 1024) with
        chan := chan, arg := BitVec.ofNat 20 (fid.toNat + 64 * op), data := leBytes 4 (v s0) }
      (t.tile u).queue .tile = (s0.tile u).queue .tile ++ (if p.place = 2 ∨ p.dstTile.toNat < 576 then [p] else []) ∧
        s0.LeavesData t u
    YieldsAlone (.flagSet u fid sv dst false chan co) co s (fun s0 _ t => local_ s0 t (v s0)) ∧
    YieldsAlone (.flagAdd u fid sv dst false chan co) co s (fun s0 _ t => local_ s0 t (s0.flagWord u fid.toNat + v s0)) ∧
    YieldsAlone (.flagSet u fid sv dst true chan co) co s (fun s0 _ t => remote 0 s0 t) ∧
    YieldsAlone (.flagAdd u fid sv dst true chan co) co s (fun s0 _ t => remote 1 s0 t)

/-- R30, R97, R106, R111, R270: what a `TWAIT` of each kind, a `QWAIT` and the waiting forms of `FLAG` wait for; with the
condition met the bundle goes on, and otherwise it waits. -/
def Obligations.WaitForms : Prop :=
  ∀ (u : Site) (rowop : RowOp) (fid sv dst : BitVec 6) (chan : BitVec 4) (queue : Bool) (mask : BitVec 32) (co : Bundle)
    (s : State),
    let v (s1 : State) := ((s1.tile u).scalar sv.toNat).toNat % 2 ^ 32
    let row (s1 : State) (full : Bool) : Prop := ∀ x ∈ optRows (s1.operandRows u rowop 1), (s1.tile u).isFull x.row = full
    WaitsUntil (.twait u 0 rowop fid sv co) co s 1 (fun s1 => row s1 true) ∧
    WaitsUntil (.twait u 1 rowop fid sv co) co s 2 (fun s1 => row s1 false) ∧
    WaitsUntil (.twait u 2 rowop fid sv co) co s 5 (fun s1 => v s1 ≤ s1.flagWord u fid.toNat) ∧
    WaitsUntil (.twait u 3 rowop fid sv co) co s 5 (fun s1 => s1.flagWord u fid.toNat = v s1) ∧
    WaitsUntil (.twait u 4 rowop fid sv co) co s 5 (fun s1 => s1.barDone u fid.toNat = true) ∧
    WaitsUntil (.qwait u queue mask co) co s 4 (fun s1 => ∀ k, k < 32 → mask.toNat.testBit k = true →
      (if queue then (s1.tile u).store k else (s1.tile u).load k).state ≠ .inFlight) ∧
    WaitsUntil (.flagWaitAtLeast u fid sv dst false chan co) co s 5 (fun s1 => v s1 ≤ s1.flagWord u fid.toNat) ∧
    WaitsUntil (.flagWaitEqual u fid sv dst false chan co) co s 5 (fun s1 => s1.flagWord u fid.toNat = v s1)

/-! ### The ARR slot -/

/-- R133, R134, R136, R138: an `MLOAD` or `MSPARSE` reads its rows at issue into a fill of the shadow set, which holds no set
meanwhile. -/
def Obligations.WeightLoads : Prop :=
  ∀ (u : Site) (wfmt : BitVec 3) (rowop xrowop srowop : RowOp) (side : Bool) (co : Bundle) (s : State),
    let fills (sparse withSide : Bool) (sr : RowOp) (s0 : State) (u : Site) (t : State) : Prop :=
      ∀ l, s0.loadRows u wfmt.toNat sparse rowop xrowop sr withSide = some l →
        let bytes (xs : List RowRef) := xs.flatMap (fun x => s0.readRow u x.row)
        let nv := valueRows wfmt.toNat sparse
        (t.tile u).shadow = none ∧
        (t.tile u).fill = some {
          set := WeightSet.ofBytes wfmt.toNat sparse (bytes (l.vals.take nv)) (bytes (l.vals.drop nv)) (bytes l.xrow)
            (bytes l.srow) withSide
          rows := l.all.map (fun x => (x.handle, x.row)), beats := l.all.length } ∧
        (t.tile u).active = (s0.tile u).active ∧ (t.tile u).feeder = (s0.tile u).feeder ∧ s0.LeavesData t u
    YieldsAlone (.mload u wfmt rowop xrowop srowop side co) co s (fills false side srowop) ∧
    YieldsAlone (.msparse u wfmt rowop xrowop co) co s (fills true false rowop)

/-- R139, R140, R143: an `MSTREAM` queues its stream behind the one that feeds, with the vectors that its operand names; with
WALK, the operand's generator advances once for each vector. -/
def Obligations.StreamIssues : Prop :=
  ∀ (u : Site) (afmt : BitVec 3) (rowop : RowOp) (xhandle : BitVec 8) (acc : AccOp) (count : BitVec 20) (hrowop : RowOp)
    (swap walk inl : Bool) (co : Bundle) (s : State),
    YieldsAlone (.mstream u afmt rowop xhandle acc count hrowop swap walk inl co) co s (fun s0 u t =>
      let n := count.toNat + 1
      ∀ vs, s0.streamVecs u afmt.toNat rowop xhandle.toNat n walk = some vs →
        (∃ x : Stream, (t.tile u).feeder = (s0.tile u).feeder ++ [x] ∧ x.afmt = afmt.toNat ∧ x.region = acc.region.toNat ∧
          x.row0 = acc.row.toNat ∧ x.count = n ∧ x.next = 0 ∧ x.vecs = vs ∧ x.swap = swap ∧ x.inl = inl ∧ x.begun = false ∧
          x.iss = (s0.tile u).beat ∧ x.pc = s0.pc u) ∧
        (walk = true → (t.tile u).counters (rowGen rowop) =
          advanceBy (s0.gen u (rowGen rowop)).n n ((s0.tile u).counters (rowGen rowop))) ∧
        (t.tile u).active = (s0.tile u).active ∧ (t.tile u).shadow = (s0.tile u).shadow ∧ s0.LeavesData t u)

/-! ### Events at a tile -/

/-- R138, R143, R144, R148, R150, R163: the array's own events: the head stream begins to feed and exchanges the sets; it feeds or
skips its next vector; the oldest fed result is accumulated into its row; a weight fill completes. -/
def Obligations.ArrayEvents : Prop :=
  ∀ (u : Site) (s : State),
    let x0 := s.tile u
    (∀ x r, x0.feeder = x :: r → x.begun = false → Yields (.streamBeginFeed u) s (fun t =>
      (t.tile u).feeder = { x with begun := true } :: r ∧
      (t.tile u).active = (if x.swap then x0.shadow else x0.active) ∧
      (t.tile u).shadow = (if x.swap then x0.active else x0.shadow) ∧ s.LeavesData t u)) ∧
    (∀ x r set v vs found, x0.feeder = x :: r → x0.active = some set → x.begun = true → x.vecs = v :: vs → s.Quiet u →
      x0.vecUe v found = none →
      let bytes := s.vecBytes u x.afmt v
      let skips := x.afmt ≤ 2 ∧ ∀ b ∈ bytes, b = 0
      Yields (.vectorFeed u found) s (fun t =>
        (t.tile u).feeder = (if vs = [] then r else { x with vecs := vs, next := x.next + 1 } :: r) ∧
        t.tfld u Reg.SP_ECC_STATUS.CORRECTED =
          min (2 ^ 32 - 1) (s.tfld u Reg.SP_ECC_STATUS.CORRECTED + found.corrected.toNat) ∧
        (skips → (t.tile u).accWrites = x0.accWrites ∧ t.tfld u Reg.AY_FED_COUNT.FED = s.tfld u Reg.AY_FED_COUNT.FED ∧
          t.tfld u Reg.AY_SKIP_COUNT.SKIPPED = min (2 ^ 32 - 1) (s.tfld u Reg.AY_SKIP_COUNT.SKIPPED + 1)) ∧
        (¬ skips → (t.tile u).accWrites = x0.accWrites ++ (s.feedVector u set x v bytes).1 ∧
          t.tfld u Reg.AY_SKIP_COUNT.SKIPPED = s.tfld u Reg.AY_SKIP_COUNT.SKIPPED ∧
          t.tfld u Reg.AY_FED_COUNT.FED = min (2 ^ 48 - 1) (s.tfld u Reg.AY_FED_COUNT.FED + 1)) ∧ s.LeavesData t u)) ∧
    (∀ w r, x0.accWrites = w :: r → ((x0.accRow w.row).typ = 0 ∨ ∀ g ∈ w.groups, g.2.typ = (x0.accRow w.row).typ) →
      Yields (.accRowWrite u) s (fun t =>
        (t.tile u).accWrites = r ∧
        (w.sideRow ≠ some w.row → (t.tile u).accRow w.row = (accWriteRow (x0.accRow w.row) w.groups).1) ∧
        (∀ sr, w.sideRow = some sr → sr ≠ w.row → (t.tile u).accRow sr = (sideWriteRow (x0.accRow sr) w.outliers).1) ∧
        (∀ i, i ≠ w.row → w.sideRow ≠ some i → (t.tile u).accRow i = x0.accRow i) ∧ t.mem = s.mem ∧
        ∀ v, v ≠ u → t.tile v = s.tile v)) ∧
    (∀ f, x0.fill = some f → s.Quiet u → Yields (.weightFillComplete u) s (fun t =>
      (t.tile u).fill = none ∧ (t.tile u).shadow = some f.set ∧ (t.tile u).active = x0.active ∧ s.LeavesData t u))

/-- R90, R91, R188, R191: an expired timed wait, and an expired hold of an inbound row, record TIMEOUT in `TC_FAULT`, with
causes 9 and 15, unless it holds a fault, and stop the tile. R21, R199: the violation counter is cleared on request, and
nothing else; fuse loading answers, byte for byte as addressed, the register reads that waited for it alone. -/
def Obligations.TileTimeouts : Prop :=
  ∀ (u : Site) (tie : Bool) (s : State),
    let stopped (cause pc : Nat) (t : State) : Prop :=
      t.tbit u Reg.TC_FAULT.VALID = true ∧ t.tbit u Reg.TC_RUN.RUN = false ∧
      (s.tbit u Reg.TC_FAULT.VALID = false → t.tfld u Reg.TC_FAULT.STATUS = stTimeout ∧ t.tfld u Reg.TC_FAULT.CAUSE = cause ∧
        t.tfld u Reg.TC_FAULT.PC = pc) ∧ t.mem = s.mem ∧ t.tiles = s.tiles
    (s.Canonical → s.presents u = true → s.tbit u Reg.TC_WAIT_STATE.WAITING = true →
      s.tfld u Reg.TC_WAIT_STATE.CAUSE ≠ 6 →
      Yields (.waitTimeout u tie) s (stopped 9 (s.tfld u Reg.TC_WAIT_STATE.PC))) ∧
    (s.Canonical → (s.tile u).inbound ≠ none → Yields (.inboundHoldTimeout u tie) s (stopped 15 (s.pc u))) ∧
    (∀ v : Word, v.getLsbD 32 = true → s.up = true → Yields (.violCountClear u v) s (fun t =>
      t.tfld u Reg.SP_VIOL_COUNT.COUNT = 0 ∧ t.mem = s.mem ∧ t.tiles = s.tiles ∧
      ∀ a, a ≠ Reg.SP_VIOL_COUNT.COUNT.on u 0 → t.reg a = s.reg a)) ∧
    (∀ v : Word, v.getLsbD 32 = false ∨ s.up = false → Yields (.violCountClear u v) s (fun t => t = s)) ∧
    Yields .fuseLoadComplete s (fun t => t.board.fusesLoaded = true ∧
      (let b := s.setBoard { s.board with fusesLoaded := true }
       t.host.heldReads = s.host.heldReads.filter (fun h => (b.heldAnswer h).isNone) ∧
       (s.host.heldReads.filterMap b.heldAnswer ≠ [] → t.host.answer = some (s.host.heldReads.filterMap b.heldAnswer).flatten) ∧
       ∀ (w : Fin 2) (off n o : Nat) (k : Block) (r : RegRow), s.rowAt w (off / 8 * 8) = some (k, o, r) →
         b.heldAnswer (w, off, n) = (if (r.fields.all (fun f => f.tok != .cfg)) || s.board.cfgLoaded then
           some (((leBytes 8 (s.reg (readAddr w (off / 8 * 8) k)).toNat).drop (off % 8)).take n) else none)) ∧
      t.mem = s.mem ∧ t.tiles = s.tiles ∧ ∀ a, t.reg a = s.reg a)

/-- R163 to R165, R173, R184, R188, R189: a held row that may land is written and becomes full, or empty where its step has
ended; a scrub counts what it corrects, rewrites an empty row that it cannot correct, and records an uncorrectable codeword of a
full row, or a parity error; a read whose hold ends is answered from its full row. Model's choices: log entry 54. -/
def Obligations.RowEvents : Prop :=
  ∀ (u : Site) (s : State),
    let at_ (row i : Nat) := wingAddr u.wing (rowOffset u.tile.toNat row + i)
    (∀ h, (s.tile u).inbound = some h → s.canLand u h.row = true → (s.tile u).outsideEntry = none → s.Quiet u →
      (s.tile u).Stays h.row → Yields (.inboundRowLand u) s (fun t =>
        (t.tile u).inbound = none ∧ (t.tile u).isFull h.row = !h.clear ∧
        (∀ i, i < 512 → memRead t.mem (at_ h.row i) = h.data.getD i 0) ∧
        (∀ a, (∀ i, i < 512 → a ≠ at_ h.row i) → memRead t.mem a = memRead s.mem a) ∧ ∀ v, v ≠ u → t.tile v = s.tile v)) ∧
    (∀ (row : BitVec 14) (found : RowErr), s.tfld u Reg.SP_SCRUB_CTL.PERIOD_MS ≠ 0 → s.rowDown u row.toNat = false →
      s.tileLive u.wing u.tile.toNat = true →
      (found.parity = true → s.Canonical → s.tbit u Reg.SP_ECC_STATUS.UE_VALID = false → Yields (.spScrub u row found) s (fun t =>
        t.tbit u Reg.SP_ECC_STATUS.UE_VALID = true ∧ t.tbit u Reg.SP_ECC_STATUS.UE_PARITY = true ∧
        t.tbit u Reg.TC_RUN.RUN = false ∧ t.mem = s.mem ∧ t.tiles = s.tiles)) ∧
      (found.parity = false →
        (found.bad = none → Yields (.spScrub u row found) s (fun t =>
          t.tfld u Reg.SP_ECC_STATUS.CORRECTED = min (2 ^ 32 - 1) (s.tfld u Reg.SP_ECC_STATUS.CORRECTED + found.corrected.toNat) ∧
          t.mem = s.mem ∧ t.tiles = s.tiles)) ∧
        (∀ c, found.bad = some c → (s.tile u).isFull row.toNat = false → Yields (.spScrub u row found) s (fun t =>
          (∀ i, i < 512 → memRead t.mem (at_ row.toNat i) = 0) ∧
          (∀ a, (∀ i, i < 512 → a ≠ at_ row.toNat i) → memRead t.mem a = memRead s.mem a))) ∧
        (∀ c, found.bad = some c → (s.tile u).isFull row.toNat = true → s.Canonical →
          s.tbit u Reg.SP_ECC_STATUS.UE_VALID = false → Yields (.spScrub u row found) s (fun t =>
            t.tbit u Reg.SP_ECC_STATUS.UE_VALID = true ∧ t.tfld u Reg.SP_ECC_STATUS.UE_ROW = row.toNat ∧
            t.tfld u Reg.SP_ECC_STATUS.UE_CODEWORD = c.toNat ∧ t.tbit u Reg.SP_ECC_STATUS.UE_SCRUB = true ∧
            t.tbit u Reg.SP_ECC_STATUS.UE_PARITY = false ∧ t.tbit u Reg.TC_RUN.RUN = false ∧ t.mem = s.mem)))) ∧
    (∀ (row : BitVec 14) (x : PortRead), (s.tile u).readPort = [x] → x.hold = true → x.row = row.toNat →
      (s.tile u).heldWords = [] → (s.tile u).Filled → (s.tile u).isFull x.row = true → (s.tile u).rowUe x.row x.p.found = none →
      Yields (.mergeHoldExpiry u row) s (fun t =>
        (t.tile u).readPort = [] ∧
        (t.tile u).queue .tile = (s.tile u).queue .tile ++ [{ s.replyTo u x.p 4 with data := s.readRow u x.row }] ∧
        t.tfld u Reg.SP_ECC_STATUS.CORRECTED =
          min (2 ^ 32 - 1) (s.tfld u Reg.SP_ECC_STATUS.CORRECTED + x.p.found.corrected.toNat) ∧
        t.mem = s.mem ∧ ∀ v, v ≠ u → t.tile v = s.tile v))

/-- R9, R60, R73, R122, R124, R127, R174, R177, R178, R182, R183, R192 to R195: writes of the registers of a stopped tile's TC_ block
from outside its program: `TC_RUN` starts it at ENTRY under a profile in force, or stops it; `TC_SAT_CTL` sets the limit and clears
the count; `TC_WIN_CTL` opens and closes a window; `TC_TAG_EMPTY` empties rows; `TC_GATHER_SEAL` completes an open entry, whose row
is full at once, since no bundle stands before it. -/
def Obligations.TileRegisterWrites : Prop :=
  ∀ (u : Site) (src : Src) (s : State), src ≠ .program → s.Quiet u → s.up = true → s.tileLive u.wing u.tile.toNat = true →
    (∀ v : Word, s.tbit u Reg.TC_RUN.RUN = false → v.getLsbD 0 = true →
      (s.fld Reg.CF_PROFILE.PROFILE u.wing = 1 ∨ s.fld Reg.CF_PROFILE.PROFILE u.wing = 2) →
      Yields (.tcRun u src v) s (fun t => t.tbit u Reg.TC_RUN.RUN = true ∧ t.pc u = getBits v 17 17 ∧
        t.tfld u Reg.TC_RUN.ENTRY = getBits v 17 17 ∧ t.reg (Reg.TC_WAIT_STATE.WAITING.on u 0) = 0 ∧ s.LeavesData t u)) ∧
    (∀ v : Word, v.getLsbD 0 = false → Yields (.tcRun u src v) s (fun t =>
      t.tbit u Reg.TC_RUN.RUN = false ∧ t.pc u = s.pc u ∧ t.reg (Reg.TC_WAIT_STATE.WAITING.on u 0) = 0 ∧ s.LeavesData t u)) ∧
    (s.tbit u Reg.TC_RUN.RUN = false →
      (∀ v : Word, v.getLsbD 32 = true → Yields (.satClear u src v) s (fun t =>
        t.tfld u Reg.TC_SAT_COUNT.COUNT = 0 ∧ t.tbit u Reg.TC_SAT_COUNT.OVER = false ∧
        t.tfld u Reg.TC_SAT_CTL.LIMIT = getBits v 0 32 ∧ s.LeavesData t u)) ∧
      (∀ (w : BitVec 4) (notify : Bool) (fid : BitVec 6) (tie : Bool),
        (((s.tile u).window w.toNat).state = .closed ∨ ((s.tile u).window w.toNat).state = .opened) →
        Yields (.winOpen u src w notify fid tie) s (fun t =>
          (t.tile u).window w.toNat = { state := .opened, notify := notify, fid := fid } ∧
          t.tfld u Reg.SP_WIN1.ADMITTED w.toNat = 0 ∧ t.tfld u Reg.SP_WIN1.LANDED w.toNat = 0 ∧ s.LeavesData t u)) ∧
      (∀ (w : BitVec 4) (tie : Bool), ((s.tile u).window w.toNat).state = .opened →
        (s.tfld u Reg.SP_WIN1.ADMITTED w.toNat = s.tfld u Reg.SP_WIN1.LANDED w.toNat →
          Yields (.winClose u src w tie) s (fun t => ((t.tile u).window w.toNat).state = .closed ∧
            (((s.tile u).window w.toNat).notify = true → t.flagWord u ((s.tile u).window w.toNat).fid.toNat =
              (s.flagWord u ((s.tile u).window w.toNat).fid.toNat + 1) % 2 ^ 32) ∧ s.LeavesData t u)) ∧
        (s.tfld u Reg.SP_WIN1.ADMITTED w.toNat ≠ s.tfld u Reg.SP_WIN1.LANDED w.toNat →
          Yields (.winClose u src w tie) s (fun t => ((t.tile u).window w.toNat).state = .closing ∧ s.LeavesData t u))) ∧
      (∀ v : Word, s.tcWriteFault u 0x48 v = none → Yields (.tcTagEmpty u src v) s (fun t =>
        (∀ x ∈ optRows (s.tagEmptyRows u v), (s.tile u).locked x.row = false → (s.tile u).claimOf x.row = none →
          (t.tile u).isFull x.row = false ∧ (t.tile u).programEntry x.row = none) ∧ s.LeavesData t u)) ∧
      (∀ (v : Word) (x : RowRef) (g : Gather), s.sealRow u v = some [x] → (s.tile u).programEntry x.row = some g →
        (s.tile u).Stays x.row →
        Yields (.tcGatherSeal u src v) s (fun t =>
          let at_ (i : Nat) := wingAddr u.wing (rowOffset u.tile.toNat x.row + i)
          g ∉ (t.tile u).gathers ∧ (t.tile u).isFull x.row = true ∧ (t.tile u).claimOf x.row = none ∧
          (∀ i, i < 512 → memRead t.mem (at_ i) = g.row512.getD i 0) ∧
          (∀ a, (∀ i, i < 512 → a ≠ at_ i) → memRead t.mem a = memRead s.mem a) ∧ ∀ v, v ≠ u → t.tile v = s.tile v)))

/-- R122: while a tile runs, a write from any source but its own program to a TC_ register other than `TC_RUN` changes nothing:
through the register region, and through the commands that are such writes (a contested choice is still counted). -/
def Obligations.RunningTilesKeepTheirRegisters : Prop :=
  ∀ (u : Site) (src : Src) (s : State), src ≠ .program → s.tbit u Reg.TC_RUN.RUN = true →
    (∀ (w : Fin 2) (off : BitVec 25) (o : Nat) (r : RegRow) (v : Word), s.rowAt w off.toNat = some (.tile, o, r) →
      tileOf w off.toNat = u → off.toNat % 8 = 0 → o < 0x400 → o ≠ 8 →
      Yields (.registerWrite w src off 8 false v) s (fun t => t = s)) ∧
    (∀ v : Word, ∀ c ∈ [Instr.satClear u src v, .tcTagEmpty u src v, .tcGatherSeal u src v], Yields c s (fun t => t = s)) ∧
    (∀ (w : BitVec 4) (notify : Bool) (fid : BitVec 6), ∀ c ∈ [fun tie => Instr.winOpen u src w notify fid tie,
        fun tie => .winClose u src w tie],
      Yields (c false) s (fun t => t = s) ∧
      Yields (c true) s (fun t => s.WritesOnly t [Reg.AU_TDC.PENDING.at u.wing 0, Reg.AU_TDC_TOTAL.TOTAL.at u.wing 0]))

/-! ### The silk mesh -/

/-- R175, R185, R186, R188, R199, R200, R257, R261, R266, R270, R271, R355: a packet that cannot go on at once joins its input's
queue; one with a reserved PLACE stops the job; at a live tile a row, posted row or word that the checks refuse is dropped, counted
and reported, one that arrives when the job has stopped is dropped as late, an admitted row lands full or is held, an admitted word
goes into the outside entry, and a flag packet updates its word; a multicast row goes on along its line. -/
def Obligations.MeshArrivals : Prop :=
  ∀ (u : Site) (dir : Dir) (p : Packet) (tie : Bool) (s : State),
    let q := (s.tile u).queue dir
    let pk (k : BitVec 4) : Packet := { p with kind := k }
    -- The packet goes on at once by the given outputs.
    let goes (k : BitVec 4) (outs : List Dir) : Prop := p.place ≠ 3 ∧ arrivalOuts u (pk k) = outs ∧ s.passes u dir outs (pk k) = true
    let joins (c : Instr) (k : BitVec 4) : Prop := s.passes u dir (arrivalOuts u (pk k)) (pk k) = false → p.place ≠ 3 →
      Yields c s (fun t =>
        (t.tile u).queue dir = q ++ [pk k] ∧ (∀ d, d ≠ dir → (t.tile u).queue d = (s.tile u).queue d) ∧
        (∀ a, t.reg a = s.reg a) ∧ s.LeavesData t u)
    let bad (c : Instr) : Prop := p.place = 3 → s.Canonical → Yields c s (fun t =>
      t.tbit u Reg.MX_ROUTER_STATUS.UE_VALID = true ∧ t.tbit u Reg.TC_RUN.RUN = false ∧
      (s.tbit u Reg.MX_ROUTER_STATUS.UE_VALID = false → t.tfld u Reg.MX_ROUTER_STATUS.UE_DIR = dirCode dir ∧
        t.tfld u Reg.MX_ROUTER_STATUS.UE_KIND = 1) ∧ t.mem = s.mem ∧ t.tiles = s.tiles)
    let x := s.countTdc u.wing tie
    let kind := p.srcKind.toNat
    let chip := p.srcChip.toNat
    let stopped := s.jobStopped u.wing
    let refused (row : Nat) (t : State) : Prop :=
      t.tfld u Reg.SP_VIOL_COUNT.COUNT = min (2 ^ 32 - 1) (s.tfld u Reg.SP_VIOL_COUNT.COUNT + 1) ∧
      t.tbit u Reg.SP_VIOL_FIRST.VALID = true ∧
      (s.tbit u Reg.SP_VIOL_FIRST.VALID = true →
        t.reg (Reg.SP_VIOL_FIRST.VALID.on u 0) = s.reg (Reg.SP_VIOL_FIRST.VALID.on u 0)) ∧
      (t.wing u.wing).reports = (s.wing u.wing).reports ++ [(stWindowViolation, rowOffset u.tile.toNat row)] ∧ s.OnlyServes t u
    let late (c : Instr) : Prop := stopped = true → Yields c s (fun t =>
      t.fld Reg.FB_DROP_COUNT.LATE u.wing = min (2 ^ 32 - 1) (s.fld Reg.FB_DROP_COUNT.LATE u.wing + 1) ∧ s.OnlyServes t u)
    let at_ (row i : Nat) := wingAddr u.wing (rowOffset u.tile.toNat row + i)
    let rows (c : Instr) (row : Nat) (named : Option Nat) (aligned : Bool) (src : Option (Nat × Nat × Nat)) (k : BitVec 4) : Prop :=
      late c ∧ (stopped = false →
        (∀ r, x.admission u row kind chip named aligned = .error r → Yields c s (refused row)) ∧
        (∀ w, x.admission u row kind chip named aligned = .ok w →
          (s.canLand u row = true → (s.tile u).outsideEntry = none → (s.tile u).Stays row →
            Yields c s (fun t => (t.tile u).inbound = none ∧ (t.tile u).isFull row = true ∧
              (∀ i, i < 512 → memRead t.mem (at_ row i) = (padTo 512 p.data).getD i 0) ∧
              (∀ a, (∀ i, i < 512 → a ≠ at_ row i) → memRead t.mem a = memRead s.mem a) ∧ ∀ v, v ≠ u → t.tile v = s.tile v)) ∧
          (s.canLand u row = false → Yields c s (fun t =>
            (t.tile u).inbound = some { win := w, row := row, data := padTo 512 p.data, src := src, verdict := packetVerdict (pk k) } ∧
            s.LeavesData t u))))
    (let all : List (Instr × BitVec 4) := [(.rowWrite u dir p tie, 0), (.rowPost u dir p tie, 1), (.wordWrite u dir p tie, 2),
       (.readReq u dir p tie, 3), (.readData u dir p tie, 4), (.readMerged u dir p tie, 5), (.readStatus u dir p tie, 6),
       (.wordRead u dir p tie, 7), (.barArrive u dir p tie, 9), (.barRelease u dir p tie, 0xA), (.flagOp u dir p tie, 0xB)]
     ∀ e ∈ all, joins e.1 e.2 ∧ bad e.1) ∧
    (s.tileLive u.wing u.tile.toNat = true → s.Quiet u →
      (goes 0 [.tile] → rows (.rowWrite u dir p tie) (p.arg.toNat % 2 ^ 14) none (p.addr.toNat % 512 == 0)
        (if p.mcast then none else some (sourceOf (pk 0))) 0) ∧
      (goes 1 [.tile] → rows (.rowPost u dir p tie) (x.postRow u p) (some p.win.toNat) true (some (sourceOf (pk 1))) 1) ∧
      (goes 2 [.tile] →
        let row := p.arg.toNat / 64 % 2 ^ 14
        let off := 8 * (p.arg.toNat % 64)
        late (.wordWrite u dir p tie) ∧ (stopped = false →
          (∀ r, x.admission u row kind chip none (wordAligned (pk 2)) = .error r → Yields (.wordWrite u dir p tie) s (refused row)) ∧
          (∀ w, x.admission u row kind chip none (wordAligned (pk 2)) = .ok w →
            (∀ g, (s.tile u).outsideEntry = some g → g.bytes.length + 8 < 512) →
            Yields (.wordWrite u dir p tie) s (fun t => ∃ g, (t.tile u).outsideEntry = some g ∧ g.row = row ∧
              (t.tile u).claimOf row = some (.gather 3) ∧ s.LeavesData t u ∧
              ∀ i, sget (fun _ => 0) g.bytes i =
                if off ≤ i ∧ i < off + 8 then (padTo 8 p.data).getD (i - off) 0
                else match (s.tile u).outsideEntry with
                  | some h => sget (fun _ => 0) h.bytes i
                  | none => 0)))) ∧
      (goes 0xB [.tile] → Yields (.flagOp u dir p tie) s (fun t =>
        let f := p.arg.toNat % 64
        let v := leNat (p.data.take 4)
        t.flagWord u f = (if p.arg.toNat / 64 % 16 = 0 then v else s.flagWord u f + v) % 2 ^ 32 ∧
        (∀ g, g < 64 → g ≠ f → t.flagWord u g = s.flagWord u g) ∧ s.OnlyServes t u))) ∧
    (∀ d, d ≠ .tile → d ≠ .bridge → p.mcast = true → goes 0 [d] → Yields (.rowWrite u dir p tie) s (fun t =>
      let n := neighbour u d
      (t.tile n).queue (opposite d) = (s.tile n).queue (opposite d) ++ [pk 0] ∧ t.mem = s.mem ∧
      ∀ v, v ≠ u → v ≠ n → t.tile v = s.tile v))

/-- R109, R159, R163, R181, R189, R256, R257, R262, R331: reads over the mesh: a request is refused with WINDOW_VIOLATION, waits at
the read port or is answered from its full row; data lands in the target row; an error status stops the job; a word read is
answered whatever the row's tag; a merged reply forks; and a router forwards the packet that an output serves next. -/
def Obligations.MeshReads : Prop :=
  ∀ (u : Site) (dir : Dir) (p : Packet) (tie : Bool) (s : State),
    let own (s : State) := (s.tile u).queue .tile
    let goes (k : BitVec 4) : Prop := p.place ≠ 3 ∧ arrivalOuts u { p with kind := k } = [.tile] ∧
      s.passes u dir [.tile] { p with kind := k } = true
    (s.tileLive u.wing u.tile.toNat = true → s.Quiet u →
      (goes 3 →
       let row := p.arg.toNat % 2 ^ 14
       let bad : Prop := s.rowDown u row = true ∨ p.addr.toNat % 512 ≠ 0 ∨ s.handleOf u row = none ∨
         ∃ h, s.handleOf u row = some h ∧ (s.handle u h).mode = 2
       (bad → Yields (.readReq u dir p tie) s (fun t => ∃ r : Packet, own t = own s ++ [r] ∧ r.kind = 6 ∧
          r.status = 4 ∧ r.dstTile = p.srcTile ∧ r.dstChip = p.srcChip ∧ r.rrow = p.rrow ∧ s.LeavesData t u)) ∧
       (¬ bad → (p.arg.toNat.testBit 14 = false ∨ s.tfld u Reg.SP_MERGE_CTL.HOLD = 0) →
        ((s.tile u).isFull row = false → Yields (.readReq u dir p tie) s (fun t =>
          (∃ y, (t.tile u).readPort = [y] ∧ y.row = row ∧ y.hold = false ∧ y.p = { p with kind := 3 }) ∧
          own t = own s ∧ s.LeavesData t u)) ∧
        ((s.tile u).isFull row = true → (s.tile u).rowUe row p.found = none →
          Yields (.readReq u dir p tie) s (fun t => (t.tile u).readPort = [] ∧
            (∃ r : Packet, own t = own s ++ [r] ∧ r.kind = 4 ∧ r.data = s.readRow u row ∧ r.dstTile = p.srcTile ∧
              r.dstChip = p.srcChip ∧ r.rrow = p.rrow) ∧
            t.tfld u Reg.SP_ECC_STATUS.CORRECTED =
              min (2 ^ 32 - 1) (s.tfld u Reg.SP_ECC_STATUS.CORRECTED + p.found.corrected.toNat) ∧ s.LeavesData t u)))) ∧
      (let row := p.rrow.toNat
       let at_ (i : Nat) := wingAddr u.wing (rowOffset u.tile.toNat row + i)
       let lands (c : Instr) : Prop := s.jobStopped u.wing = false → (s.tile u).Stays row →
         Yields c s (fun t =>
           (t.tile u).isFull row = true ∧ (t.tile u).claimOf row = none ∧
           (∀ i, i < 512 → memRead t.mem (at_ i) = (padTo 512 p.data).getD i 0) ∧
           (∀ a, (∀ i, i < 512 → a ≠ at_ i) → memRead t.mem a = memRead s.mem a) ∧ ∀ v, v ≠ u → t.tile v = s.tile v)
       (goes 4 → lands (.readData u dir p tie)) ∧
       (p.reqs = [⟨u.tile, u.wing, p.rrow⟩] → goes 5 → lands (.readMerged u dir p tie)) ∧
       (goes 6 → s.Canonical → Yields (.readStatus u dir p tie) s (fun t =>
         t.tbit u Reg.TC_RUN.RUN = false ∧ (t.tile u).claimOf row = none ∧ s.LeavesData t u))) ∧
      (goes 7 →
       let row := p.arg.toNat / 64 % 2 ^ 14
       let served : Prop := s.rowDown u row = false ∧ wordAligned p = true
       (¬ served → Yields (.wordRead u dir p tie) s (fun t => ∃ r : Packet, own t = own s ++ [r] ∧ r.kind = 6 ∧ r.status = 4 ∧
         (p.srcKind ≠ 0 → r.place = 2) ∧ s.LeavesData t u)) ∧
       (served → (s.tile u).rowUe row p.found = none → Yields (.wordRead u dir p tie) s (fun t => ∃ r : Packet,
         own t = own s ++ [r] ∧ r.place = 2 ∧ r.kind = 8 ∧ r.data = s.readWord u row (p.arg.toNat % 64) ∧ s.LeavesData t u)))) ∧
    (p.place ≠ 3 →
      (s.passes u dir [.rowPort] { p with kind := 8 } = true → Yields (.wordData u dir p tie) s (fun t =>
        (t.wing u.wing).toHawk = (s.wing u.wing).toHawk ++ [toFabric { p with kind := 8 }] ∧ s.OnlyServes t u)) ∧
      (s.passes u dir [.rowPort] { p with kind := 8 } = false → Yields (.wordData u dir p tie) s (fun t =>
        (t.tile u).queue dir = (s.tile u).queue dir ++ [{ p with kind := 8, place := 2 }] ∧ s.LeavesData t u))) ∧
    (∀ (e : LinkErr), hasLink u dir = true → u.tile.toNat < 576 →
      (s.nextInput u dir = none → Yields (.meshForward u dir e tie) s (fun t => t = s)) ∧
      (∀ input y r, s.nextInput u dir = some input → (s.tile u).queue input = y :: r → reservedPacket y = false →
        outputsOf u y = [dir] → dir ≠ .tile → dir ≠ .rowPort → e.bad = false →
        (dir = .bridge → s.bridgeOk u.wing (tileRow u.tile.toNat) = true) →
        let n := neighbour u dir
        Yields (.meshForward u dir e tie) s (fun t => (t.tile u).queue input = r ∧
          (t.tile n).queue (opposite dir) = (s.tile n).queue (opposite dir) ++ [copyFor u dir y] ∧
          sget (fun _ => 0) (t.tile u).served (dirCode dir) = (dirCode input + 1) % 7 ∧ t.mem = s.mem ∧
          ∀ v, v ≠ u → v ≠ n → t.tile v = s.tile v)))

/-! ### The links of a wing -/

/-- R322 to R329, R359, R375 to R380, R392, R402: what a frame, an ACK, a NAK and a POISON record do at a trained port where nothing waits to
be sent; how a port goes down and trains; and the HELLO records. Model's choices: log entries 25, 26, 29 and 62. -/
def Obligations.LinkLayer : Prop :=
  ∀ (w : Fin 2) (p : Fin 8) (s : State),
    let q := (s.wing w).port p.val
    let port (t : State) := (t.wing w).port p.val
    let ready : Prop := s.trained w p.val = true ∧ q.control = [] ∧ q.out = [] ∧ q.replay.length < 256
    let sends (t : State) (l : List SentFrame) (c : Control) : Prop :=
      ∃ f : SentFrame, (port t).replay = l ++ [f] ∧ f.frame.seq = q.txSeq ∧
        f.frame.ctrl = some (controlBytes c q.txSeq) ∧ (port t).txSeq = q.txSeq + 1
    let frame (t : State) (l : List Nat) : Prop := s.WritesOnly t l ∧ t.wing (otherWing w) = s.wing (otherWing w)
    -- R329: one more POISON record, of which fewer than 16 fall within one millisecond.
    let late := withinMs (s.timeOf w) q.poisons
    let few : Prop := late.length < 15
    let counts (t : State) : Prop := (port t).poisons = late ++ [s.timeOf w]
    let inJob : Prop := s.inRoutes w p.val = true ∨ s.fld Reg.TB_TREE.PARENT w = p.val
    (∀ (f : Frame) (chk : FrameCheck),
      (s.trained w p.val = false → Yields (.frameReceive w p f chk) s (fun t => t = s)) ∧
      (ready →
        (chk.crcOk = false → (q.nakOpen = true → f.seq = q.rxSeq) → Yields (.frameReceive w p f chk) s (fun t =>
          sends t q.replay (.nak q.rxSeq) ∧ (port t).nakOpen = true ∧ (port t).rxSeq = q.rxSeq ∧
          frame t [Reg.FB_PORT_ERR.CORRECTED.at w p.val])) ∧
        (chk.crcOk = true → f.seq ≠ q.rxSeq → Yields (.frameReceive w p f chk) s (fun t =>
          port t = q ∧ frame t [Reg.FB_PORT_ERR.CORRECTED.at w p.val])) ∧
        (∀ b, chk.crcOk = true → f.seq = q.rxSeq → f.ctrl = some b → controlOf b = .idle → Yields (.frameReceive w p f chk) s (fun t =>
          (port t).rxSeq = q.rxSeq + 1 ∧ (port t).nakOpen = false ∧ (port t).replay = q.replay ∧
          (port t).credit f.crVc.toNat = q.credit f.crVc.toNat + 2 * f.crCount.toNat ∧
          frame t [Reg.FB_PORT_ERR.CORRECTED.at w p.val])) ∧
        (∀ h, chk.crcOk = true → f.seq = q.rxSeq → f.ctrl = none → f.head = some h → f.tail = false →
          q.discard.contains f.vc.toNat = false → Yields (.frameReceive w p f chk) s (fun t =>
            (port t).rxSeq = q.rxSeq + 1 ∧ sends t q.replay (.ack f.seq) ∧
            (port t).partialOf f.vc.toNat = some (h, h.poison || f.poison) ∧ frame t [Reg.FB_PORT_ERR.CORRECTED.at w p.val])))) ∧
    (∀ (seq : BitVec 8), ready →
      (∀ xs f ys, q.replay = xs ++ f :: ys → f.frame.seq = seq → (∀ x ∈ xs, x.frame.seq ≠ seq) →
        Yields (.ack w p seq) s (fun t => (port t).replay = ys ∧ frame t []) ∧
        (f.resent ≠ 3 → (∀ x ∈ ys, x.frame.seq ≠ seq) → Yields (.nak w p seq) s (fun t =>
          (port t).replay = xs ++ { f with resent := f.resent + 1 } :: ys ∧
          t.fld Reg.FB_PORT_ERR.RETRIES w p.val = min (2 ^ 16 - 1) (s.fld Reg.FB_PORT_ERR.RETRIES w p.val + (ys.length + 1)) ∧
          frame t [Reg.FB_PORT_ERR.RETRIES.at w p.val])) ∧
        (f.resent = 3 → (∀ x ∈ ys, x.frame.seq ≠ seq) → few → Yields (.nak w p seq) s (fun t =>
          (port t).replay = xs ++ ⟨poisonFor f.frame, 0⟩ :: ys ∧ counts t ∧
          frame t [Reg.FB_PORT_ERR.RETRIES.at w p.val, Reg.FB_PORT_ERR.POISONED.at w p.val]))) ∧
      ((∀ x ∈ q.replay, x.frame.seq ≠ seq) → Yields (.ack w p seq) s (fun t => port t = q ∧ frame t []) ∧
        Yields (.nak w p seq) s (fun t => t = s))) ∧
    (∀ (seq : BitVec 8) (vc : BitVec 2) (tail : Bool),
      (s.trained w p.val = true → seq = q.rxSeq → few →
        let said (t : State) : Prop := (port t).rxSeq = q.rxSeq + 1 ∧ counts t
        let leaves (t : State) : Prop := (port t).owes vc.toNat = q.owes vc.toNat + 1
        (q.discard.contains vc.toNat = true → Yields (.poison w p seq vc tail) s (fun t => said t ∧ leaves t ∧
          (port t).discard = (if tail then ndel vc.toNat q.discard else q.discard) ∧
          frame t [Reg.FB_PORT_ERR.POISONED.at w p.val])) ∧
        (q.discard.contains vc.toNat = false → q.partialOf vc.toNat = none → Yields (.poison w p seq vc tail) s (fun t =>
          said t ∧ leaves t ∧ (port t).discard = (if tail then q.discard else nins vc.toNat q.discard) ∧
          t.fld Reg.FB_DROP_COUNT.DISCARDED w = min (2 ^ 32 - 1) (s.fld Reg.FB_DROP_COUNT.DISCARDED w + 1) ∧
          frame t [Reg.FB_PORT_ERR.POISONED.at w p.val, Reg.FB_DROP_COUNT.DISCARDED.at w 0])) ∧
        (∀ y, q.discard.contains vc.toNat = false → q.partialOf vc.toNat = some y → tail = false →
          Yields (.poison w p seq vc tail) s (fun t => said t ∧ (port t).partialOf vc.toNat = some (y.1, true) ∧
            frame t [Reg.FB_PORT_ERR.POISONED.at w p.val]))) ∧
      (seq ≠ q.rxSeq → Yields (.poison w p seq vc tail) s (fun t => t = s))) ∧
    (∀ (lane : Fin 4), s.Canonical → Yields (.laneLockLoss w p lane) s (fun t =>
      (t.fld Reg.FB_PORT_STATUS.LANES_OK w p.val).testBit lane.val = false ∧ t.mem = s.mem ∧ t.tiles = s.tiles ∧
      (s.fld Reg.FB_PORT_STATUS.STATE w p.val = 2 → t.fld Reg.FB_PORT_STATUS.STATE w p.val = 0 ∧
        t.bit Reg.FB_PORT_STATUS.DOWN_EVENT w p.val = true ∧
        (s.loaded w = true → inJob → t.loaded w = false ∧
          ∀ u : Site, u.wing = w → t.tbit u Reg.TC_RUN.RUN = false)) ∧
      (s.fld Reg.FB_PORT_STATUS.STATE w p.val ≠ 2 → s.WritesOnly t [Reg.FB_PORT_STATUS.LANES_OK.at w p.val]))) ∧
    (∀ (rtt : BitVec 12),
      (s.roleOf w p.val = 3 ∨ s.up = false → Yields (.portTrained w p rtt) s (fun t => t = s)) ∧
      (s.roleOf w p.val ≠ 3 → s.up = true → q.out = [] → Yields (.portTrained w p rtt) s (fun t =>
        t.fld Reg.FB_PORT_STATUS.LANES_OK w p.val = 15 ∧ t.fld Reg.FB_PORT_STATUS.RTT_NS w p.val = rtt.toNat ∧
        t.fld Reg.FB_PORT_STATUS.STATE w p.val = verdictState true 1 (s.verdictOf w p.val) ∧
        (port t).rxSeq = 0 ∧ (port t).txSeq = 1 ∧ (∀ v, v < 4 → (port t).credit v = 64) ∧
        (port t).controlOnly = s.loaded w ∧
        (∃ f, (port t).replay = [f] ∧ f.frame.seq = 0 ∧ f.frame.ctrl = some (controlBytes (.hello (s.ownHello w p.val)) 0)) ∧
        frame t [Reg.FB_PORT_STATUS.STATE.at w p.val, Reg.FB_NBR0.SERIAL.at w p.val, Reg.FB_NBR1.CHIP.at w p.val]))) ∧
    (∀ (h : Hello), s.trained w p.val = true → let key := (h.serial, h.wing, h.port)
      (q.firstHello.getD key = key → Yields (.hello w p h) s (fun t =>
        (port t).firstHello = some key ∧ (port t).nbrPlan = h.plan ∧ t.reg (Reg.FB_NBR0.SERIAL.at w p.val) = h.serial ∧
        t.fld Reg.FB_NBR1.CHIP w p.val = h.chip.toNat ∧ t.fld Reg.FB_NBR1.PORT w p.val = h.port.toNat ∧
        t.fld Reg.FB_NBR1.GRADE w p.val = h.grade.toNat ∧ t.bit Reg.FB_NBR1.VALID w p.val = true ∧
        t.bit Reg.FB_NBR1.PLAN_MATCH w p.val = decide (h.plan = s.reg (Reg.FB_PLAN_ID.PLAN.at w 0)) ∧
        frame t [Reg.FB_NBR0.SERIAL.at w p.val, Reg.FB_NBR1.CHIP.at w p.val])) ∧
      (q.firstHello.getD key ≠ key → s.Canonical → Yields (.hello w p h) s (fun t =>
        t.bit Reg.FB_NBR1.CHANGED w p.val = true ∧ t.fld Reg.FB_PORT_STATUS.STATE w p.val = 0 ∧
        t.bit Reg.FB_PORT_STATUS.DOWN_EVENT w p.val = true ∧ t.mem = s.mem ∧ t.tiles = s.tiles))) ∧
    (s.up = false → Yields (.helloTimer w p) s (fun t => t = s)) ∧
    (s.up = true → ready → Yields (.helloTimer w p) s (fun t => sends t q.replay (.hello (s.ownHello w p.val)) ∧ frame t [])) ∧
    (s.up = true → s.trained w p.val = false →
      let at_ := s.fld Reg.FB_PORT_STATUS.STATE w p.val
      Yields (.helloTimer w p) s (fun t => frame t [Reg.FB_PORT_STATUS.STATE.at w p.val] ∧
        t.fld Reg.FB_PORT_STATUS.STATE w p.val =
          if s.roleOf w p.val = 3 then 5 else if at_ = 5 ∨ at_ = 0 then 1 else at_))

/-! ### Stops -/

/-- R597, R599, R600, R617: the commands that stop a wing: a unit of it that meets a status that stops a job, a STOP record
of the job from a live chip, the other wing's stop, and a write of the command register that asks for one. Model's choices:
log entry 10. -/
def Obligations.Stops : Prop :=
  ∀ (w : Fin 2) (s : State), s.Canonical →
    (∀ (status : BitVec 8) (source : BitVec 4) (locus : BitVec 16),
      (stopsJob status.toNat = true → source.toNat < 7 → Yields (.jobStop w status source locus) s (fun t =>
        s.Stops t w status.toNat source.toNat locus.toNat (s.chip w))) ∧
      (stopsJob status.toNat = false → Yields (.jobStop w status source locus) s (fun t => t = s))) ∧
    (∀ (p : Fin 8) (epoch status : BitVec 8) (chip : BitVec 16),
      let taken : Prop := s.loaded w = true ∧ s.fld Reg.FB_JOB.EPOCH w = epoch.toNat ∧
        (s.route w (s.fld Reg.FB_NBR1.CHIP w p.val)).2.1 = true
      (taken → Yields (.stop w p epoch status chip) s (fun t => s.Stops t w status.toNat 9 0 chip.toNat)) ∧
      (¬ taken → Yields (.stop w p epoch status chip) s (fun t => t = s))) ∧
    (s.bit Reg.CF_STOP_RECORD0.VALID (otherWing w) = true → Yields (.otherWingStop w) s (fun t =>
      s.Stops t w (s.fld Reg.CF_STOP_RECORD0.STATUS (otherWing w)) 8 0 (s.chip (otherWing w)))) ∧
    (s.bit Reg.CF_STOP_RECORD0.VALID (otherWing w) = false → Yields (.otherWingStop w) s (fun t => t = s)) ∧
    (∀ v : Word, s.up = true → v.getLsbD 0 = true → s.loaded w = true → Yields (.cfJobStop w v) s (fun t =>
      s.Stops t w (if stopsJob (getBits v 1 8) then getBits v 1 8 else stTimeout) 7 0 (s.chip w))) ∧
    (∀ v : Word, s.up = false ∨ v.getLsbD 0 = false ∨ s.loaded w = false → Yields (.cfJobStop w v) s (fun t => t = s))

/-! ### The fabric router -/

/-- R26, R27, R332, R333, R337, R342 to R347, R374, R382: packets at a wing's fabric router. One of another epoch is dropped as late;
one with a bad header, or for a dead route, is discarded; one for the wing is handed to the mesh, the hawk cores or the HBM switch, in
the order of its strict stream or as its flag message allows, but a write that names no scratchpad is dropped and reported; one of
the wing's own is numbered and leaves; a COMPLETE frees its stream; and a verdict counts toward its message. A wing that has no chip
number carries no packet. Model's choices: log entries 23, 24 and 61. -/
def Obligations.FabricArrivals : Prop :=
  ∀ (w : Fin 2) (p : FPacket) (s : State),
    let chip := p.srcChip.toNat
    let chan := p.chan.toNat
    let inJob : Prop := s.chip w ≠ 0xFFFF ∧ s.loaded w = true ∧ p.epoch.toNat = s.fld Reg.FB_JOB.EPOCH w
    let up (f : Fld) (t : State) : Prop := t.fld f w = min (2 ^ f.width - 1) (s.fld f w + 1)
    let still (t : State) : Prop := t.mem = s.mem ∧ t.tiles = s.tiles
    (∀ (port : Fin 10),
      (port.val < 8 ∧ s.carries w port.val = true) ∨
        (port.val = 8 ∧ (s.wing (otherWing w)).crossing.contains p = true) →
      (s.chip w ≠ 0xFFFF → ¬ inJob → Yields (.fabricPacketReceive w port p) s (fun t =>
        up Reg.FB_DROP_COUNT.LATE t ∧ still t)) ∧
      (inJob → (port.val < 8 → s.roleOf w port.val = 0) → p.kind ≠ 0xE → (s.wing w).heldIn = [] →
        let q := { p with viaPair := false }
        (p.dstChip.toNat = s.chip w → (s.route w (s.chip w)).2.1 = true →
          (badHeader p = true → Yields (.fabricPacketReceive w port p) s (fun t =>
            up Reg.FB_DROP_COUNT.DISCARDED t ∧ still t)) ∧
          (badHeader p = false → p.kind ≠ 9 → p.kind ≠ 0xA → p.kind ≠ 0xD →
            (inStream p.order p.kind = false →
              (p.dstKind = 0 → noPlace p = false → Yields (.fabricPacketReceive w port p) s (fun t =>
                let v := siteAt w (tileRow p.dstTile.toNat) (portCol w)
                (t.tile v).queue .rowPort = (s.tile v).queue .rowPort ++ [toMesh p] ∧ t.mem = s.mem ∧
                ∀ u, u ≠ v → t.tile u = s.tile u)) ∧
              (p.dstKind = 1 → Yields (.fabricPacketReceive w port p) s (fun t =>
                (t.wing w).toHawk = (s.wing w).toHawk ++ [q] ∧ still t)) ∧
              (p.dstKind = 2 → Yields (.fabricPacketReceive w port p) s (fun t =>
                (t.wing w).toHbm = (s.wing w).toHbm ++ [q] ∧ still t))) ∧
            (inStream p.order p.kind = true → p.order = false → p.dstKind = 0 → noPlace p = true → p.kind ≠ 3 → p.kind ≠ 7 →
              p.pseq = ((s.wing w).strictOf chip chan).nextRx → ((s.wing w).strictOf chip chan).early = [] →
              ((s.wing w).strictOf chip chan).owedAck < 7 → Yields (.fabricPacketReceive w port p) s (fun t =>
                (t.wing w).reports = (s.wing w).reports ++ [(stWindowViolation, p.addr.toNat)] ∧ still t)) ∧
            (inStream p.order p.kind = true → p.order = false → p.dstKind = 1 →
              let c := (s.wing w).strictOf chip chan
              (p.pseq = c.nextRx → c.early = [] → c.owedAck < 7 → Yields (.fabricPacketReceive w port p) s (fun t =>
                (t.wing w).toHawk = (s.wing w).toHawk ++ [q] ∧
                (t.wing w).strictOf chip chan = { c with nextRx := c.nextRx + 1, owedAck := c.owedAck + 1 } ∧ still t)) ∧
              (p.pseq ≠ c.nextRx → (s.wing w).reorderFlits + flitsOf p ≤ 16384 →
                Yields (.fabricPacketReceive w port p) s (fun t =>
                  (t.wing w).strictOf chip chan = { c with early := c.early ++ [q] } ∧
                  (t.wing w).toHawk = (s.wing w).toHawk ∧ still t))) ∧
            (inStream p.order p.kind = true → p.order = true → p.dstKind = 1 → (s.wing w).flagRx = [] →
              (p.flag = false → Yields (.fabricPacketReceive w port p) s (fun t =>
                (t.wing w).toHawk = (s.wing w).toHawk ++ [q] ∧
                (∃ m, (t.wing w).flagRx = [m] ∧ m.holds p = true ∧ m.handed = 1 ∧ m.held = none) ∧ still t)) ∧
              (p.flag = true → 1 < p.mcount.toNat → Yields (.fabricPacketReceive w port p) s (fun t =>
                (t.wing w).toHawk = (s.wing w).toHawk ∧
                (∃ m, (t.wing w).flagRx = [m] ∧ m.holds p = true ∧ m.held = some q ∧ m.mcount = some p.mcount.toNat) ∧
                still t))))) ∧
        (p.dstChip.toNat ≠ s.chip w → ¬ (p.vclass = true ∧ p.vleg = false ∧ p.midChip.toNat = s.chip w) →
          (s.route w (legTarget p)).2.1 = false → Yields (.fabricPacketReceive w port p) s (fun t =>
            up Reg.FB_DROP_COUNT.DISCARDED t ∧ still t)))) ∧
    (s.chip w = 0xFFFF → ∀ c ∈ [Instr.fabricPacketReceive w 9 p, .complete w p, .fbBarChildArrive w p, .fbBarParentRelease w p],
      Yields c s (fun t => t = s)) ∧
    (s.chip w ≠ 0xFFFF → p.kind ≠ 0xE → (s.wing w).heldIn = [] →
      (s.loaded w = false → Yields (.fabricPacketReceive w 9 p) s (fun t => up Reg.FB_DROP_COUNT.LATE t ∧ still t)) ∧
      (s.loaded w = true → p.dstChip.toNat < 0x1100 → (s.wing w).fabricWait = [] → p.dstChip.toNat = s.chip w →
        (s.route w (s.chip w)).2.1 = true → inStream (s.flagChan w chan) p.kind = false → p.kind ≠ 9 → p.kind ≠ 0xA →
        p.kind ≠ 0xD → p.dstKind = 1 → badHeader (s.stamp w p) = false → Yields (.fabricPacketReceive w 9 p) s (fun t =>
          (t.wing w).toHawk = (s.wing w).toHawk ++ [s.stamp w p] ∧ still t)) ∧
      (s.loaded w = true → p.dstChip.toNat < 0x1100 → p.dstChip.toNat ≠ s.chip w → inStream false p.kind = true →
        s.flagChan w chan = false → (s.wing w).fabricWait = [] →
        let c := (s.wing w).strictOf p.dstChip.toNat chan
        let out := { s.stamp w p with pseq := c.nextTx }
        (c.unacked < 32 → Yields (.fabricPacketReceive w 9 p) s (fun t =>
          (t.wing w).strictOf p.dstChip.toNat chan = { c with nextTx := c.nextTx + 1, unacked := c.unacked + 1 } ∧
          (out.vclass = false → (s.route w p.dstChip.toNat).2.1 = true → s.portFor w out = some 8 →
            (t.wing w).crossing = (s.wing w).crossing ++ [out]) ∧ still t)) ∧
        (32 ≤ c.unacked → Yields (.fabricPacketReceive w 9 p) s (fun t =>
          (t.wing w).fabricWait = [p] ∧ (t.wing w).strictOf p.dstChip.toNat chan = c ∧ still t)))) ∧
    (s.chip w ≠ 0xFFFF →
      (s.lateAt w p = true → Yields (.complete w p) s (fun t => up Reg.FB_DROP_COUNT.LATE t ∧ still t)) ∧
      (s.lateAt w p = false → badHeader { p with kind := 0xD } = true → Yields (.complete w p) s (fun t =>
        up Reg.FB_DROP_COUNT.DISCARDED t ∧ still t))) ∧
    (inJob → badHeader { p with kind := 0xD } = false → (s.wing w).heldIn = [] → s.flagChan w chan = false →
      (s.wing w).fabricWait = [] →
      let c := (s.wing w).strictOf chip chan
      let done := (BitVec.ofNat 16 p.arg.toNat + 1 - (c.nextTx - BitVec.ofNat 16 c.unacked)).toNat
      (done ≤ c.unacked → Yields (.complete w p) s (fun t =>
        (t.wing w).strictOf chip chan =
          { c with unacked := c.unacked - done, ackedTo := BitVec.ofNat 16 p.arg.toNat } ∧ still t)) ∧
      (c.unacked < done → Yields (.complete w p) s (fun t =>
        (t.wing w).strictOf chip chan = c ∧ (∀ a, t.reg a = s.reg a) ∧ still t))) ∧
    (∀ f, inJob → badHeader { p with kind := 0xD } = false → (s.wing w).heldIn = [] → s.flagChan w chan = true →
      (s.wing w).fabricWait = [] → (s.wing w).flagTx = [f] → f.chip = p.srcChip →
      f.chan = p.chan → f.dstKind = 0 → p.srcKind = 0 → f.dstTile = p.srcTile →
      (∃ m ∈ f.openMsgs, m.1 = BitVec.ofNat 8 p.arg.toNat) → Yields (.complete w p) s (fun t =>
        (t.wing w).flagTx = [{ f with openMsgs := f.openMsgs.filter (fun m => m.1 != BitVec.ofNat 8 p.arg.toNat) }] ∧ still t)) ∧
    (∀ (m : FlagRx) (taken : Bool),
      let v : Verdict := { chip := m.chip, chan := m.chan, dstKind := m.dstKind, dstTile := m.dstTile, msg := m.msg, taken := taken }
      (s.wing w).flagRx = [m] → (s.wing w).heldIn = [] → (s.wing w).verdicts.contains v = true →
      (m.mcount = none ∨ taken = false) →
        Yields (.verdict w m.chip m.chan m.dstKind m.dstTile m.msg taken) s (fun t =>
          (t.wing w).verdicts = (s.wing w).verdicts.erase v ∧
          (t.wing w).flagRx = [if taken then { m with taken := m.taken + 1 } else { m with dropped := true }] ∧ still t)) ∧
    (∀ (chip : BitVec 16) (chan : BitVec 4) (dstKind : BitVec 2) (dstTile : BitVec 10) (msg : BitVec 8) (taken : Bool),
      (s.wing w).verdicts.contains ⟨chip, chan, dstKind, dstTile, msg, taken⟩ = false →
      Yields (.verdict w chip chan dstKind dstTile msg taken) s (fun t => t = s))

/-- R343, R349, R354, R374, R385, R386: the timers of the fabric router: an owed acknowledgement of a strict stream is sent, a flag
packet held too long stops the job, a SWEEP gathers records along its way and leaves only by an output that has room for it, and an
output's occupancy is sampled. -/
def Obligations.FabricTimers : Prop :=
  ∀ (w : Fin 2) (s : State),
    let up (f : Fld) (i : Nat) (t : State) : Prop := t.fld f w i = min (2 ^ f.width - 1) (s.fld f w i + 1)
    let still (t : State) : Prop := t.mem = s.mem ∧ t.tiles = s.tiles
    (∀ (chip : BitVec 16) (chan : BitVec 4),
      let c := (s.wing w).strictOf chip.toNat chan.toNat
      (c.owedAck = 0 → Yields (.strictAckTimer w chip chan) s (fun t => t = s)) ∧
      (c.owedAck ≠ 0 → s.chip w ≠ 0xFFFF → Yields (.strictAckTimer w chip chan) s (fun t =>
        (t.wing w).strictOf chip.toNat chan.toNat = { c with owedAck := 0 } ∧
        (s.loaded w = false → up Reg.FB_DROP_COUNT.LATE 0 t) ∧ still t))) ∧
    (∀ (chip : BitVec 16) (chan : BitVec 4) (dstKind : BitVec 2) (dstTile : BitVec 10) (msg : BitVec 8) (tie : Bool),
      let found := (s.wing w).flagRx.find? (·.isOf chip chan dstKind dstTile msg)
      (∀ m, found = some m → m.held ≠ none → s.Canonical →
        Yields (.flagHoldTimeout w chip chan dstKind dstTile msg tie) s (fun t =>
          (s.countTdc w tie).Stops t w stTimeout 5 0 (s.chip w))) ∧
      ((found = none ∨ ∃ m, found = some m ∧ m.held = none ∧ (m.mcount = none ∨ tie = false)) →
        Yields (.flagHoldTimeout w chip chan dstKind dstTile msg tie) s (fun t => t = s)) ∧
      (∀ m, found = some m → m.held = none → m.mcount ≠ none → tie = true →
        Yields (.flagHoldTimeout w chip chan dstKind dstTile msg tie) s (fun t => t = s.countTdc w true))) ∧
    (∀ p : FPacket,
      let own := { p with kind := 0xE, epoch := BitVec.ofNat 8 (s.fld Reg.FB_JOB.EPOCH w) }
      let nib (n : Nat) := p.arg.toNat / 16 ^ (n - 1) % 16
      let out := nib p.nflits.toNat
      (s.chip w = 0xFFFF → ∀ port, Yields (.sweep w port p) s (fun t => t = s)) ∧
      (s.chip w ≠ 0xFFFF →
        (out = 15 → Yields (.sweep w 9 p) s (fun t => (t.wing w).toHawk = (s.wing w).toHawk ++ [own] ∧ still t)) ∧
        (out ≠ 15 → p.nflits.toNat < 8 → (8 < out ∨ s.sweepRoom w own out = false) → Yields (.sweep w 9 p) s (fun t =>
          up Reg.FB_DROP_COUNT.DISCARDED 0 t ∧ still t)) ∧
        (out = 8 → p.nflits.toNat < 8 → s.sweepRoom w own 8 = true → Yields (.sweep w 9 p) s (fun t =>
          (t.wing w).crossing = (s.wing w).crossing ++ [own] ∧ still t)) ∧
        (∀ port : Fin 10, port.val < 8 → s.carries w port.val = true →
          (p.epoch.toNat ≠ s.fld Reg.FB_JOB.EPOCH w ∨ s.loaded w = false → Yields (.sweep w port p) s (fun t =>
            up Reg.FB_DROP_COUNT.LATE 0 t ∧ still t)) ∧
          (p.epoch.toNat = s.fld Reg.FB_JOB.EPOCH w → s.loaded w = true →
            ((p.poison = true ∨ p.pcrcOk = false) → Yields (.sweep w port p) s (fun t =>
              up Reg.FB_DROP_COUNT.DISCARDED 0 t ∧ still t)) ∧
            (p.poison = false → p.pcrcOk = true → nib (p.nflits + 1).toNat = 15 →
              Yields (.sweep w port p) s (fun t => (t.wing w).toHawk = (s.wing w).toHawk ++
                [{ p with kind := 0xE, nflits := p.nflits + 1, data := p.data ++ s.sweepRecord w }] ∧
                (t.wing w).sweepBins = [] ∧ still t)))))) ∧
    (∀ (out : Fin 9),
      let b := occBin ((s.wing w).waitingFlits out.val)
      Yields (.occSample w out) s (fun t =>
        up (if b % 2 = 0 then Reg.FB_OCC_HIST.BIN_EVEN else Reg.FB_OCC_HIST.BIN_ODD) (4 * out.val + b / 2) t ∧
        (t.wing w).sweepBin out.val b = (s.wing w).sweepBin out.val b + 1 ∧
        s.WritesOnly t [Reg.FB_OCC_HIST.BIN_EVEN.at w (4 * out.val + b / 2)]))

/-- R267, R268, R332, R333, R337, R352: barriers in the mesh and across the fabric: an arrival counts, pends or is the last one
expected; a release completes the barrier; an arrival of the local router goes to the parent chip, as the routes of the fabric lead;
what finds no entry, or comes from a place that is not its child or parent, is discarded and counted, and so is a bad packet; and one
of another epoch is dropped as late. Model's choices: log entry 24. -/
def Obligations.Barriers : Prop :=
  ∀ (s : State),
    (∀ (u : Site) (dir : Dir) (p : Packet) (tie : Bool), p.place ≠ 3 → p.mcast = false →
      let goes (k : BitVec 4) : Prop := s.passes u dir [.tile] { p with kind := k } = true
      let b := p.arg.toNat % 16
      let arrives : Prop := s.barUsable u b = true ∧ s.barChild u b dir = true
      let releases : Prop := s.barUsable u b = true ∧ s.tfld u Reg.MX_BAR_CFG.PARENT b = dirCode dir ∧ dir ≠ .tile
      let dropped (t : State) : Prop :=
        t.tfld u Reg.MX_ROUTER_STATUS.BAD_ARRIVALS = min 255 (s.tfld u Reg.MX_ROUTER_STATUS.BAD_ARRIVALS + 1) ∧
        s.OnlyServes t u
      (goes 9 → arrives → Yields (.barArrive u dir p tie) s (fun t => s.CountsArrival t u b ∧ s.LeavesData t u)) ∧
      (goes 9 → ¬ arrives → Yields (.barArrive u dir p tie) s dropped) ∧
      (goes 0xA → releases → ((s.tile u).bar b).queue = [] → Yields (.barRelease u dir p tie) s (fun t =>
        t.tfld u Reg.MX_BAR_STATE.ARRIVED b = 0 ∧ t.tfld u Reg.MX_BAR_STATE.WAITREL b = 0 ∧
        t.tfld u Reg.MX_BAR_STATE.PENDING b = 0 ∧
        t.tfld u Reg.MX_BAR_STATE.GEN b = (s.tfld u Reg.MX_BAR_STATE.GEN b + 1) % 2 ^ 16 ∧ s.LeavesData t u)) ∧
      (goes 0xA → ¬ releases → Yields (.barRelease u dir p tie) s dropped)) ∧
    (∀ (w : Fin 2) (tile : BitVec 10) (bid : BitVec 4) (p : FPacket),
      let lost (t : State) : Prop := t.fld Reg.FB_DROP_COUNT.DISCARDED w =
        min (2 ^ 32 - 1) (s.fld Reg.FB_DROP_COUNT.DISCARDED w + 1) ∧ s.WritesOnly t [Reg.FB_DROP_COUNT.DISCARDED.at w 0]
      let child (n : Nat) : Prop := (s.fbChildren w n).contains (p.srcChip.toNat, p.srcTile.toNat) = true
      let parent (n : Nat) : Prop := (s.fbBar w n).hasParent = true ∧
        s.fld Reg.FB_BAR1.PARENT_CHIP w n = p.srcChip.toNat ∧ s.fld Reg.FB_BAR1.PARENT_TILE w n = p.srcTile.toNat
      let late (t : State) : Prop := t.fld Reg.FB_DROP_COUNT.LATE w =
        min (2 ^ 32 - 1) (s.fld Reg.FB_DROP_COUNT.LATE w + 1) ∧ s.WritesOnly t [Reg.FB_DROP_COUNT.LATE.at w 0]
      let bad : Prop := badHeader { p with kind := 9 } = true
      let sound : Prop := s.chip w ≠ 0xFFFF ∧ s.lateAt w p = false ∧ ¬ bad
      (s.chip w ≠ 0xFFFF →
        (s.lateAt w p = true → Yields (.fbBarChildArrive w p) s late ∧ Yields (.fbBarParentRelease w p) s late) ∧
        (s.lateAt w p = false → bad → Yields (.fbBarChildArrive w p) s lost ∧ Yields (.fbBarParentRelease w p) s lost)) ∧
      (s.fbEntry w tile.toNat bid.toNat = none → Yields (.fbBarLocalArrive w tile bid) s lost ∧
        Yields (.fbBarLocalRelease w tile bid) s lost) ∧
      (sound → s.fbEntry w p.dstTile.toNat (p.arg.toNat % 16) = none → Yields (.fbBarChildArrive w p) s lost ∧
        Yields (.fbBarParentRelease w p) s lost) ∧
      (∀ n, s.fbEntry w tile.toNat bid.toNat = some n →
        ((s.fbBar w n).hasParent = false → Yields (.fbBarLocalArrive w tile bid) s (fun t => t = s)) ∧
        ((s.fbBar w n).hasParent = true → s.chip w ≠ 0xFFFF → s.loaded w = false → (s.wing w).heldIn = [] →
          Yields (.fbBarLocalArrive w tile bid) s late) ∧
        ((s.fbBar w n).hasParent = true → s.chip w ≠ 0xFFFF → s.loaded w = true → (s.wing w).heldIn = [] →
          s.fld Reg.FB_BAR1.PARENT_CHIP w n < 0x1100 → s.fld Reg.FB_BAR1.PARENT_CHIP w n ≠ s.chip w →
          Yields (.fbBarLocalArrive w tile bid) s (fun t => ∃ q : FPacket,
            q.kind = 9 ∧ q.dstChip.toNat = s.fld Reg.FB_BAR1.PARENT_CHIP w n ∧
            q.dstTile.toNat = s.fld Reg.FB_BAR1.PARENT_TILE w n ∧ q.srcTile = tile ∧ q.srcChip.toNat = s.chip w ∧
            q.arg = BitVec.ofNat 32 bid.toNat ∧ q.vclass = true ∧ q.epoch.toNat = s.fld Reg.FB_JOB.EPOCH w ∧ q.hops = 0 ∧
            t.mem = s.mem ∧ t.tiles = s.tiles ∧
            ((s.route w (legTarget q)).2.1 = false → t.fld Reg.FB_DROP_COUNT.DISCARDED w =
              min (2 ^ 32 - 1) (s.fld Reg.FB_DROP_COUNT.DISCARDED w + 1)) ∧
            ((s.route w (legTarget q)).2.1 = true → s.portFor w q = some 8 →
              (t.wing w).crossing = (s.wing w).crossing ++ [q]) ∧
            (∀ port, (s.route w (legTarget q)).2.1 = true → s.portFor w q = some port → port < 8 → s.roleOf w port ≠ 1 →
              s.trained w port = false →
              ((t.wing w).port port).out = ((s.wing w).port port).out ++ [(ownInput q, { q with hops := 1 })]))) ∧
        (s.fbChildren w n = [] → s.fld Reg.FB_BAR1.PENDING w n = 0 → (s.wing w).heldIn = [] →
          Yields (.fbBarLocalRelease w tile bid) s (fun t =>
            t.fld Reg.FB_BAR1.ARRIVED w n = 0 ∧ t.fld Reg.FB_BAR1.WAITREL w n = 0 ∧
            t.fld Reg.FB_BAR1.GEN w n = (s.fld Reg.FB_BAR1.GEN w n + 1) % 2 ^ Reg.FB_BAR1.GEN.width ∧
            t.fld Reg.FB_BAR1.PENDING w n = 0 ∧ t.mem = s.mem ∧ t.tiles = s.tiles))) ∧
      (∀ n, sound → s.fbEntry w p.dstTile.toNat (p.arg.toNat % 16) = some n →
        let v : Site := ⟨w, BitVec.ofNat 10 (s.fbBar w n).tile⟩
        (¬ child n → Yields (.fbBarChildArrive w p) s lost) ∧
        (child n → s.bit Reg.FB_BAR1.WAITREL w n = true → s.fld Reg.FB_BAR1.PENDING w n < 7 →
          Yields (.fbBarChildArrive w p) s (fun t =>
            t.fld Reg.FB_BAR1.PENDING w n = s.fld Reg.FB_BAR1.PENDING w n + 1 ∧ s.WritesOnly t [Reg.FB_BAR1.PENDING.at w n])) ∧
        (child n → s.bit Reg.FB_BAR1.WAITREL w n = true → s.fld Reg.FB_BAR1.PENDING w n = 7 →
          Yields (.fbBarChildArrive w p) s (fun t =>
            (t.wing w).heldIn = (s.wing w).heldIn ++ [(9, { p with kind := 9 })] ∧ s.WritesOnly t [])) ∧
        (child n → s.bit Reg.FB_BAR1.WAITREL w n = false →
          (s.fld Reg.FB_BAR1.ARRIVED w n + 1 < (s.fbBar w n).nchild → Yields (.fbBarChildArrive w p) s (fun t =>
            t.fld Reg.FB_BAR1.ARRIVED w n = s.fld Reg.FB_BAR1.ARRIVED w n + 1 ∧
            s.WritesOnly t [Reg.FB_BAR1.ARRIVED.at w n])) ∧
          (s.fld Reg.FB_BAR1.ARRIVED w n + 1 = (s.fbBar w n).nchild → Yields (.fbBarChildArrive w p) s (fun t =>
            t.bit Reg.FB_BAR1.WAITREL w n = true ∧
            (∃ y : Packet, (t.tile v).queue .rowPort = (s.tile v).queue .rowPort ++ [y] ∧ y.kind = 9 ∧ y.dstTile = v.tile ∧
              y.arg = BitVec.ofNat 20 (s.fbBar w n).bid) ∧ t.mem = s.mem ∧ ∀ u, u ≠ v → t.tile u = s.tile u))) ∧
        (parent n → Yields (.fbBarParentRelease w p) s (fun t =>
          (∃ y : Packet, (t.tile v).queue .rowPort = (s.tile v).queue .rowPort ++ [y] ∧ y.kind = 0xA ∧ y.dstTile = v.tile ∧
            y.arg = BitVec.ofNat 20 (s.fbBar w n).bid) ∧ t.mem = s.mem ∧ (∀ a, t.reg a = s.reg a) ∧
          ∀ u, u ≠ v → t.tile u = s.tile u)) ∧
        (¬ parent n → Yields (.fbBarParentRelease w p) s lost)))

/-! ### Machine time and the step counter -/

/-- R387, R389, R390, R406: the records that keep machine time, and what an exchange makes of them. Model's choices: log
entry 33. -/
def Obligations.MachineTime : Prop :=
  ∀ (w : Fin 2) (port : Fin 9) (s : State),
    let x := (s.wing w).time
    let now := s.reg (Reg.TB_TIME.TIME.at w 0)
    let regs := [Reg.TB_TIME.TIME.at w 0, Reg.TB_STATUS.OFFSET.at w 0]
    (s.up = false ∨ (s.childPorts w = [] ∧ s.parentPort w = none) → Yields (.timesyncTimer w) s (fun t => t = s)) ∧
    (s.up = true → s.childPorts w = [] → s.parentPort w = some port.val → Yields (.timesyncTimer w) s (fun t =>
      s.SendsControl t w port.val (.delayReq now) ∧ s.WritesOnly t [])) ∧
    (∀ e, s.up = true → s.childPorts w = [port.val] → s.parentPort w = none → x.echo.find? (fun e => e.1 == port.val) = some e →
      Yields (.timesyncTimer w) s (fun t =>
        s.SendsControl t w port.val (.sync now (BitVec.ofNat 64 e.2.2) (BitVec.ofNat 64 e.2.1)) ∧ s.WritesOnly t [])) ∧
    (∀ t1 : BitVec 64,
      (s.nakWindow w port.val = true → Yields (.delayReq w port t1) s (fun t => t = s)) ∧
      (s.nakWindow w port.val = false → port.val ∈ s.childPorts w → Yields (.delayReq w port t1) s (fun t =>
        (t.wing w).time.echo.find? (fun e => e.1 == port.val) = some (port.val, t1.toNat, now.toNat) ∧ s.WritesOnly t [])) ∧
      (s.nakWindow w port.val = false → port.val ∉ s.childPorts w → Yields (.delayReq w port t1) s (fun t =>
        t = s.takeCrossing w port.val (.delayReq t1)))) ∧
    (∀ (t3 t2 t1 : BitVec 64),
      let delay := (exchange t1 t2 t3 now).1
      let offset := (exchange t1 t2 t3 now).2
      let good : Prop := -2 ≤ offset ∧ offset ≤ 2
      (s.nakWindow w port.val = true → Yields (.sync w port t3 t2 t1) s (fun t => t = s)) ∧
      (s.nakWindow w port.val = false → s.parentPort w ≠ some port.val → Yields (.sync w port t3 t2 t1) s (fun t =>
        t = s.takeCrossing w port.val (.sync t3 t2 t1))) ∧
      (s.nakWindow w port.val = false → s.parentPort w = some port.val →
        Yields (.sync w port t3 t2 t1) s (fun t =>
          t.fld Reg.TB_STATUS.OFFSET w = (BitVec.ofInt 32 offset).toNat ∧
          t.fld Reg.TB_STATUS.DELAY w = (BitVec.ofInt 16 delay).toNat ∧ t.fld Reg.TB_STATUS.HOLDOVER w = 0 ∧
          (t.bit Reg.TB_STATUS.LOCKED w = true ↔ good ∧ 15 ≤ x.inBound) ∧
          (s.loaded w = false → t.reg (Reg.TB_TIME.TIME.at w 0) = now + BitVec.ofInt 64 offset ∧
            (t.wing w).time.slew = 0 ∧ s.WritesOnly t regs) ∧
          (s.loaded w = true → t.reg (Reg.TB_TIME.TIME.at w 0) = now ∧ (t.wing w).time.slew = offset ∧
            (-16 ≤ offset → offset ≤ 16 → s.WritesOnly t regs) ∧
            (offset < -16 ∨ 16 < offset → t.bit Reg.TB_STATUS.OUT_OF_BOUND w = true ∧
              s.Posts t (s.eventEntry 7 stOk (leBytes 2 (s.chip w))) ∧ s.KeepsData t))))) ∧
    (∀ v : Word, let root : Prop := s.up = true ∧ s.fld Reg.TB_TREE.PARENT w = 15 ∧ s.loaded w = false
      (root → Yields (.tbTimeWrite w v) s (fun t =>
        t.reg (Reg.TB_TIME.TIME.at w 0) = v ∧ s.WritesOnly t [Reg.TB_TIME.TIME.at w 0])) ∧
      (¬ root → Yields (.tbTimeWrite w v) s (fun t => t = s)))

/-- R393, R394: the step counter: a report counts only for the present step; when the wing and its children are done, the
root sets the moment of the next step and every other wing reports to its parent; STEP_GO arms the next step or, when its
moment has passed, advances at once; and the counter advances when the timebase reaches the moment. Model's choices: log
entry 34. -/
def Obligations.StepCounter : Prop :=
  ∀ (w : Fin 2) (port : Fin 9) (s : State),
    let x := (s.wing w).time
    let step := s.stepOf w
    let go := (s.timeOf w + 16 * max 100 (s.fld Reg.TB_STEP_LEAD.LEAD_NS w)) % 2 ^ 64
    let advanced (t : State) (n : Nat) : Prop := t.stepOf w = n ∧ (t.wing w).time.go = none ∧ (t.wing w).endedTiles = [] ∧
      (t.wing w).batch = (s.wing w).nextBatch ∧ (t.wing w).nextBatch = [] ∧ s.KeepsData t
    let done (c : Instr) : Prop :=
      (s.loaded w = true → s.allEnded w = true → s.fld Reg.TB_TREE.PARENT w = 15 → Yields c s (fun t =>
        (t.wing w).time.go = some (step + 1, go) ∧ (t.wing w).time.reported = none ∧ s.KeepsData t ∧ t.stepOf w = step ∧
        (s.childPorts w = [port.val] → s.SendsControl t w port.val (.stepGo (BitVec.ofNat 64 (step + 1)) (BitVec.ofNat 64 go))))) ∧
      (∀ p, s.loaded w = true → s.allEnded w = true → s.parentPort w = some p → Yields c s (fun t =>
        (t.wing w).time.reported = none ∧ s.SendsControl t w p (.stepDone (BitVec.ofNat 64 step)) ∧ s.WritesOnly t []))
    (∀ v : Word,
      (s.up = false ∨ v.toNat ≠ step → Yields (.tbStepDoneWrite w v) s (fun t => t = s)) ∧
      (s.up = true → v.toNat = step → s.allEnded w = false → Yields (.tbStepDoneWrite w v) s (fun t =>
        (t.wing w).time.reported = some step ∧ s.WritesOnly t [])) ∧
      (s.up = true → v.toNat = step → (∀ p ∈ s.childPorts w, sget (fun _ => 0) x.doneFrom p = step) → done (.tbStepDoneWrite w v))) ∧
    (∀ n : BitVec 64,
      (port.val ∉ s.childPorts w → Yields (.stepDone w port n) s (fun t => t = s.takeCrossing w port.val (.stepDone n))) ∧
      (port.val ∈ s.childPorts w → x.reported = none → Yields (.stepDone w port n) s (fun t =>
        sget (fun _ => 0) (t.wing w).time.doneFrom port.val = n.toNat ∧ s.WritesOnly t [])) ∧
      (port.val ∈ s.childPorts w → x.reported = some step → n.toNat = step →
        (∀ p ∈ s.childPorts w, p ≠ port.val → sget (fun _ => 0) x.doneFrom p = step) → done (.stepDone w port n))) ∧
    (∀ n at_ : BitVec 64,
      (s.loaded w = false ∨ s.parentPort w ≠ some port.val → Yields (.stepGo w port n at_) s (fun t =>
        t = s.takeCrossing w port.val (.stepGo n at_))) ∧
      (s.loaded w = true → s.parentPort w = some port.val →
        (s.timeOf w ≤ at_.toNat → Yields (.stepGo w port n at_) s (fun t =>
          (t.wing w).time.go = some (n.toNat, at_.toNat) ∧ s.WritesOnly t [] ∧
          (∀ p, s.childPorts w = [p] → s.SendsControl t w p (.stepGo n at_)))) ∧
        (at_.toNat < s.timeOf w → Yields (.stepGo w port n at_) s (fun t => advanced t n.toNat ∧
          t.fld Reg.TB_STATUS.LATE_GO w = min (2 ^ Reg.TB_STATUS.LATE_GO.width - 1) (s.fld Reg.TB_STATUS.LATE_GO w + 1))))) ∧
    (∀ n at_, x.go = some (n, at_) →
      (s.loaded w = true → at_ ≤ s.timeOf w → Yields (.stepAdvance w) s (fun t => advanced t (n % 2 ^ 64))) ∧
      (s.loaded w = false ∨ s.timeOf w < at_ → Yields (.stepAdvance w) s (fun t => t = s))) ∧
    (x.go = none → Yields (.stepAdvance w) s (fun t => t = s))

/-! ### Registers that command -/

/-- R246, R251, R299, R300, R315, R316, R362, R384, R400, R401: writes of the registers that arm a routing bank, clear the
occupancy bins, load or end a job on the fabric, set or clear a cancel bit, arm a span bank, and arm or cancel a publication;
an accepted arm takes the version from the table's shadow copy (R226, R248). A module without power, or held in reset, takes
none of them (R23, R637). Model's choices: log entry 35. -/
def Obligations.RegisterCommands : Prop :=
  ∀ (w : Fin 2) (v : Word) (s : State),
    let other (c : Instr) : Prop := Yields c s (fun t => t = s)
    (s.up = false → other (.routeArm w v) ∧ other (.occClear w v) ∧ other (.fbJobWrite w v) ∧
      (∀ slot tie, other (.cmCancelSet w slot tie)) ∧ (∀ slot, other (.cmCancelClr w slot)) ∧
      (∀ tie, other (.spanArm w v tie)) ∧ (∀ set tie, other (.pubArm w set tie)) ∧
      ∀ set tie, other (.pubCancel w set tie)) ∧
    (s.up = true →
    let routeCtl := Reg.FB_ROUTE_CTL.ACTIVE.at w 0
    let bins (i : Nat) := Reg.FB_OCC_HIST.BIN_EVEN.at w i
    let tdc := [Reg.AU_TDC.PENDING.at w 0, Reg.AU_TDC_TOTAL.TOTAL.at w 0]
    (s.loaded w = true → Yields (.routeArm w v) s (fun t => t = s)) ∧
    (s.loaded w = false → Yields (.routeArm w v) s (fun t =>
      t.fld Reg.FB_ROUTE_CTL.VAL_COUNT w = getBits v 3 9 ∧ s.WritesOnly t [routeCtl] ∧
      t.fld Reg.FB_ROUTE_CTL.ACTIVE w = s.fld Reg.FB_ROUTE_CTL.ACTIVE w ∧
      t.fld Reg.FB_ROUTE_CTL.ARMED w = if v.getLsbD 1 then 1 else s.fld Reg.FB_ROUTE_CTL.ARMED w)) ∧
    Yields (.occClear w v) s (fun t =>
      t.fld Reg.FB_OCC_CTL.SAMPLE_NS w = getBits v 0 10 ∧
      (∀ i, i < 36 → t.reg (bins i) = if v.getLsbD 10 then 0 else s.reg (bins i)) ∧
      s.WritesOnly t (Reg.FB_OCC_CTL.SAMPLE_NS.at w 0 :: (List.range 36).map bins)) ∧
    (let epoch (t : State) : Prop := t.fld Reg.FB_JOB.EPOCH w = getBits v 0 8
     let flips : Prop := getBits v 0 8 ≠ s.fld Reg.FB_JOB.EPOCH w ∧ s.bit Reg.FB_ROUTE_CTL.ARMED w = true
     (v.getLsbD 8 = true → Yields (.fbJobWrite w v) s (fun t => epoch t ∧
       (t.loaded w = true ↔ s.chip w ≠ 0xFFFF) ∧ s.WritesOnly t [Reg.FB_JOB.EPOCH.at w 0, routeCtl, Reg.FB_ORDER_STATUS.OPEN_MSGS.at w 0] ∧
       (flips → t.fld Reg.FB_ROUTE_CTL.ACTIVE w = 1 - s.fld Reg.FB_ROUTE_CTL.ACTIVE w ∧
         t.fld Reg.FB_ROUTE_CTL.ARMED w = 0) ∧
       (¬ flips → t.reg routeCtl = s.reg routeCtl))) ∧
     (v.getLsbD 8 = false → Yields (.fbJobWrite w v) s (fun t => epoch t ∧ t.loaded w = false ∧ t.tiles = s.tiles))) ∧
    (∀ (slot : BitVec 14) (tie : Bool),
      Yields (.cmCancelSet w slot tie) s (fun t =>
        (∀ n, n < 16384 → t.cancelBit w n = (decide (n = slot.toNat) || s.cancelBit w n)) ∧
        s.WritesOnly t (tdc ++ [Reg.CM_CANCEL_MAP.MAP.at w (slot.toNat / 64)])) ∧
      Yields (.cmCancelClr w slot) s (fun t =>
        (∀ n, n < 16384 → t.cancelBit w n = (!decide (n = slot.toNat) && s.cancelBit w n)) ∧
        s.WritesOnly t [Reg.CM_CANCEL_MAP.MAP.at w (slot.toNat / 64)])) ∧
    (∀ (tie : Bool), let ctl := tdc ++ [Reg.CM_SPAN_CTL.ACTIVE.at w 0]
      let early : Prop := s.fld Reg.TB_STEP.STEP w < s.fld Reg.CM_SPAN_STEP.STEP w
      (v.getLsbD 0 = false ∨ early → Yields (.spanArm w v tie) s (fun t => s.WritesOnly t ctl ∧
        t.fld Reg.CM_SPAN_CTL.ACTIVE w = s.fld Reg.CM_SPAN_CTL.ACTIVE w ∧
        t.fld Reg.CM_SPAN_CTL.ARMED w = (if v.getLsbD 0 then 1 else s.fld Reg.CM_SPAN_CTL.ARMED w) ∧
        t.fld Reg.CM_SPAN_CTL.REFUSED w = (if v.getLsbD 3 then 0 else s.fld Reg.CM_SPAN_CTL.REFUSED w) ∧
        t.fld Reg.CM_SPAN_CTL.COUNT0 w =
          (if s.bit Reg.CM_SPAN_CTL.ACTIVE w then getBits v 4 16 else s.fld Reg.CM_SPAN_CTL.COUNT0 w) ∧
        t.fld Reg.CM_SPAN_CTL.COUNT1 w =
          (if s.bit Reg.CM_SPAN_CTL.ACTIVE w then s.fld Reg.CM_SPAN_CTL.COUNT1 w else getBits v 20 16))) ∧
      (v.getLsbD 0 = true → ¬ early → s.Canonical → Yields (.spanArm w v tie) s (fun t =>
        t.bit Reg.CM_SPAN_CTL.REFUSED w = true ∧
        ∃ x : State, s.WritesOnly x ctl ∧ x.Stops t w stPlanMismatch 6 2 (s.chip w)))) ∧
    (∀ (set : BitVec 3) (tie : Bool), let n := set.toNat
      let pub := tdc ++ [Reg.SV_TABLE_PUB1.STATE.at w n]
      let below : Prop := s.stepOf w < s.fld Reg.SV_TABLE_PUB0.SWAP_STEP w n
      let table := (s.tablesOf n).find? (fun x => x.site.wing == w)
      let keeps (t : State) : Prop := t.tiles = s.tiles ∧ ∀ a, a ∉ pub → t.reg a = s.reg a
      (below → Yields (.pubArm w set tie) s (fun t => keeps t ∧
        t.fld Reg.SV_TABLE_PUB1.GEN w n = (s.fld Reg.SV_TABLE_PUB1.GEN w n + 1) % 16 ∧
        t.fld Reg.SV_TABLE_PUB1.STATE w n = 1 ∧ (table = none → t.mem = s.mem) ∧
        ∀ x, table = some x → x.layer.isSome = true →
          sget (fun _ => 0) (t.wing w).tablePend n = (tableHead (s.shadowData x)).version)) ∧
      (¬ below → s.Canonical → Yields (.pubArm w set tie) s (fun t =>
        t.bit Reg.SV_TABLE_PUB1.REFUSED w n = true ∧
        ∃ x : State, s.WritesOnly x pub ∧ x.Stops t w stPlanMismatch 6 1 (s.chip w))) ∧
      Yields (.pubCancel w set tie) s (fun t => keeps t ∧
        t.fld Reg.SV_TABLE_PUB1.GEN w n = s.fld Reg.SV_TABLE_PUB1.GEN w n ∧
        (s.fld Reg.SV_TABLE_PUB1.STATE w n = 1 ∧ below → t.fld Reg.SV_TABLE_PUB1.STATE w n = 0) ∧
        (¬ (s.fld Reg.SV_TABLE_PUB1.STATE w n = 1 ∧ below) → t.mem = s.mem ∧ t.reg (Reg.SV_TABLE_PUB1.STATE.at w n) =
          s.reg (Reg.SV_TABLE_PUB1.STATE.at w n)))))

/-! ### The serving engine -/

/-- R226, R230, R245, R415 to R417, R431 to R433, R516, R517: what the engine does with the commands of the host: it admits or
refuses a request, resolves a cancel, which may have to wait for the commit, checks a table, writes it into the shadow copies and
arms it or keeps it until its rows have landed, and reloads a granule. In a replay run it takes none (R469). Model's choices: log
entries 14, 40, 41 and 55. -/
def Obligations.Requests : Prop :=
  ∀ (vector : BitVec 8) (tag : BitVec 64) (s : State),
    let answers (op st : Nat) (pl : List Byte) (t : State) : Prop := s.Posts t (cmdEntry vector.toNat op tag st pl)
    let refused (c : Instr) (op st : Nat) : Prop := Yields c s (fun t => answers op st [] t ∧ s.KeepsData t)
    (s.replayRun = true → (∀ a, Yields (.submit vector tag a) s (fun t => t = s)) ∧
      (∀ r late, Yields (.cancel vector tag r late) s (fun t => t = s)) ∧ (∀ a, Yields (.publishTable vector tag a) s (fun t => t = s)) ∧
      ∀ a, Yields (.repairReload vector tag a) s (fun t => t = s)) ∧
    (s.replayRun = false →
      (∀ a : SubmitArgs,
        let good : Prop := s.submitMalformed a = false ∧ s.bit Reg.SV_JOB_CFG.INTAKE 0 = true ∧
          s.fld Reg.SV_JOB_CFG.POOL 0 ≠ 2 ∧ s.submitLimits a = true
        let groups := s.takeGroups (groupsFor (a.promptLen.toNat + a.maxNew.toNat + a.dReq.toNat))
        (∀ n x, s.slotOfReq a.reqId = some (n, x) →
          (x.promptHold = true → s.submitMalformed a = false → Yields (.submit vector tag a) s (fun t =>
            s.Decides t n (fun y => y = { x with promptHold := false }) ∧ t.tiles = s.tiles ∧ answers 1 stOk [] t)) ∧
          (x.promptHold = false ∨ s.submitMalformed a = true → refused (.submit vector tag a) 1 stPlanMismatch)) ∧
        (s.slotOfReq a.reqId = none →
          (¬ good → refused (.submit vector tag a) 1 stPlanMismatch) ∧
          (good → s.freeSlot = none ∨ groups = none → refused (.submit vector tag a) 1 stBudgetRefused) ∧
          (∀ n g, good → s.freeSlot = some n → groups = some g → Yields (.submit vector tag a) s (fun t =>
            s.Decides t n (fun y => y.reqId = a.reqId ∧ y.state = slQueued ∧ y.kind = a.kind.toNat ∧
              y.promptLen = a.promptLen.toNat ∧ y.promptDone = 0 ∧ y.maxNew = a.maxNew.toNat ∧ y.dReq = a.dReq.toNat ∧
              y.dCur = a.dReq.toNat ∧ y.seed = a.seed ∧ y.stopToken = a.stopToken ∧ y.seq = (s.wing 0).nextSeq ∧
              y.groups = g ∧ y.cancel = false) ∧
            (t.wing 0).nextSeq = (s.wing 0).nextSeq + 1 ∧ t.host = s.host ∧ t.tiles = s.tiles)))) ∧
      (∀ (reqId : BitVec 64) (late : Bool),
        let cancel : Instr := .cancel vector tag reqId late
        (s.bit Reg.SV_JOB_CFG.INTAKE 0 = false → refused cancel 2 stPlanMismatch) ∧
        (s.bit Reg.SV_JOB_CFG.INTAKE 0 = true → s.slotOfReq reqId = none → refused cancel 2 stAlreadyComplete) ∧
        (∀ n x, s.bit Reg.SV_JOB_CFG.INTAKE 0 = true → s.slotOfReq reqId = some (n, x) →
          let running : Prop := slotEntries (s.wing 0).batch n ≠ [] ∧ s.loaded 0 = true
          let contends : Prop := running ∧ (s.wing 0).bnd.committed = false ∧ ∃ w, (s.wing w).endedTiles ≠ []
          let filtered (t : State) : Prop := t.host = s.host ∧ t.tiles = s.tiles ∧
            (running → n < 16384 → t.cancelBit 0 n = true ∧ t.cancelBit 1 n = true ∧
              (t.wing 0).engineOut = (s.wing 0).engineOut ++ [.cancel n]) ∧
            (¬ running → (t.wing 0).engineOut = (s.wing 0).engineOut) ∧
            t.fld Reg.AU_TDC_TOTAL.TOTAL 0 = (s.countTdc 0 (decide contends)).fld Reg.AU_TDC_TOTAL.TOTAL 0
          (¬ contends ∨ late = false → Yields cancel s (fun t => filtered t ∧
            s.Decides t n (fun y => y = cancelSlot x) ∧
            ∃ c ∈ (t.wing 0).cancels, c.tag = tag ∧ c.slot = n ∧
              c.status = if x.state = slFinished then stAlreadyComplete else stCancelled)) ∧
          (contends → late = true → Yields cancel s (fun t => filtered t ∧
            (t.wing 0).lateCancels = (s.wing 0).lateCancels ++ [(vector.toNat, tag, reqId)] ∧
            (t.wing 0).cancels = (s.wing 0).cancels ∧ ∀ w, (t.wing w).slots = (s.wing w).slots)))) ∧
      (∀ a : PublishArgs,
        let n := a.set.toNat
        let tables := s.tablesOf n
        let p : Publication := { vector := vector.toNat, tag := tag, set := n, version := a.version, minStep := a.minStep.toNat
                                 data := padTo a.length.toNat a.data }
        let bad : Prop := 8 ≤ n ∨ a.length.toNat % 512 ≠ 0 ∨ s.bit Reg.SV_JOB_CFG.INTAKE 0 = false ∨
          s.fld Reg.SV_JOB_CFG.QINDEX 0 ≠ 0 ∨ (∃ w, s.fld Reg.SV_TABLE_PUB1.STATE w n = 1) ∨
          (∃ q ∈ (s.wing 0).pubs, q.set = n) ∨ ∃ x ∈ tables, tableOk x p.data = false ∨ s.shadowAdmits x = false
        let x := tables.foldl (fun s t => s.writeShadow t (p.content t)) s
        let landed : Prop := ∀ y ∈ tables, x.shadowLanded y = true
        let quiet : Prop := ∀ y ∈ tables, x.shadowQuiet y = true
        let swap := max a.minStep.toNat (x.fld Reg.SV_COMMITTED.STEP 0 + 3)
        let sent (t : State) : Prop := t.tiles = x.tiles ∧ (t.wing 0).engineOut = (x.wing 0).engineOut ++ [.table n p.data]
        (bad → refused (.publishTable vector tag a) 3 stPlanMismatch) ∧
        (¬ bad → ¬ landed → quiet → Yields (.publishTable vector tag a) s (fun t =>
          x.Posts t (cmdEntry vector.toNat 3 tag stPlanMismatch []) ∧ t.mem = x.mem ∧ sent t)) ∧
        (¬ bad → ¬ landed → ¬ quiet → Yields (.publishTable vector tag a) s (fun t =>
          (t.wing 0).pubs = (x.wing 0).pubs ++ [p] ∧ t.host = x.host ∧ t.mem = x.mem ∧ sent t)) ∧
        (¬ bad → landed → (∀ w, x.stepOf w < swap) → swap < 2 ^ 64 →
          Yields (.publishTable vector tag a) s (fun t =>
            (∀ w, t.fld Reg.SV_TABLE_PUB0.SWAP_STEP w n = swap ∧ t.fld Reg.SV_TABLE_PUB1.STATE w n = 1 ∧
              t.fld Reg.SV_TABLE_PUB1.GEN w n = (x.fld Reg.SV_TABLE_PUB1.GEN w n + 1) % 16) ∧
            (t.wing 0).engineOut = (x.wing 0).engineOut ++ [.table n p.data, .arm n swap a.version.toNat] ∧
            x.Posts t (cmdEntry vector.toNat 3 tag stOk (leBytes 8 swap)) ∧ t.tiles = x.tiles))) ∧
      (∀ a : RepairArgs,
        let w : Fin 2 := if a.wing = 0 then 0 else 1
        let aligned : Prop := a.wing.toNat ≤ 1 ∧ a.offset.toNat % 2048 = 0
        let kind5 : Prop := ∃ r, s.regionAt w a.offset.toNat = some r ∧ r.kind = 5
        let enciphered : Prop := ∃ i, s.job.img = some i ∧ i.enc = true
        (¬ aligned → refused (.repairReload vector tag a) 4 stPlanMismatch) ∧
        (aligned → ¬ kind5 → refused (.repairReload vector tag a) 4 stWindowViolation) ∧
        (aligned → kind5 → enciphered → a.tagOk = false → refused (.repairReload vector tag a) 4 stAuthFailed) ∧
        let failed : Prop := s.stackFailed w (hbmStack a.offset.toNat) = true
        (aligned → kind5 → (enciphered → a.tagOk = true) → failed → refused (.repairReload vector tag a) 4 stLinkLost) ∧
        (aligned → kind5 → (enciphered → a.tagOk = true) → ¬ failed → Yields (.repairReload vector tag a) s (fun t =>
          s.Stores t w a.offset.toNat (padTo 2048 a.data) ∧ a.offset.toNat / 2048 ∉ (t.wing w).poison ∧
          t.tiles = s.tiles ∧ answers 4 stOk [] t))))

/-- R512, R514, R520, R522, R523, R529, R530: the rings: a poll takes entries up to the first whose phase does not match and
says how far it came; the heartbeat; the oldest waiting event is lost; a coalesced or unmasked vector sends; and enabling the
rings starts the completion ring anew. Model's choices: log entries 42 and 43. -/
def Obligations.Rings : Prop :=
  ∀ (s : State),
    let enabled : Prop := s.bit Reg.HI_RING_CTL.ENABLE 0 = true
    let page := s.fld Reg.HI_CTRL_PAGE.ADDR 0 / 4096 * 4096
    let head := s.fld Reg.HI_RING_STATUS.CMD_HEAD 0
    let phase : Bool := ringPhase head (2 ^ s.fld Reg.HI_RING_CTL.CMD_LOG2 0) == 1
    (∀ (entries : List RingEntry) (cplHead : BitVec 32),
      (¬ enabled → Yields (.commandPoll entries cplHead) s (fun t => t = s)) ∧
      (enabled → s.host.waiting = [] → s.host.releasing = none → s.loaded 0 = false → (s.wing 0).pubs = [] →
        ((∀ e r, entries = e :: r → e.phase ≠ phase) → Yields (.commandPoll entries cplHead) s (fun t =>
          t.host = (s.readCplHead cplHead.toNat).host ∧ t.fld Reg.HI_RING_STATUS.CMD_HEAD 0 = head ∧
          s.WritesOnly t [Reg.HI_RING_CTL.CPL_FULL.at 0 0])) ∧
        (∀ e op, entries = [e] → e.phase = phase → e.cmd = .reserved op → Yields (.commandPoll entries cplHead) s (fun t =>
          (s.readCplHead cplHead.toNat).Posts t (cmdEntry e.vector.toNat op.toNat e.tag stPlanMismatch []) ∧
          t.fld Reg.HI_RING_STATUS.CMD_HEAD 0 = (head + 1) % 2 ^ 32 ∧ s.KeepsData t ∧
          ∀ i, i < 4 → memRead t.host.hostMem (page + i) = (leBytes 4 ((head + 1) % 2 ^ 32)).getD i 0)))) ∧
    (¬ enabled → Yields .heartbeat s (fun t => t = s)) ∧
    (enabled → Yields .heartbeat s (fun t =>
      (∀ i, i < 8 → memRead t.host.hostMem (page + 16 + i) = (leBytes 8 (s.timeOf 0)).getD i 0) ∧
      (∀ a, (∀ i, i < 8 → a ≠ page + 16 + i) → memRead t.host.hostMem a = memRead s.host.hostMem a) ∧ s.WritesOnly t [])) ∧
    ((∀ c ∈ s.host.waiting, c.typ ≠ 2) → Yields .eventDrop s (fun t => t = s)) ∧
    (∀ xs c ys, s.host.waiting = xs ++ c :: ys → (∀ x ∈ xs, x.typ ≠ 2) → c.typ = 2 → Yields .eventDrop s (fun t =>
      t.host.waiting = xs ++ ys ∧ s.WritesOnly t [Reg.HI_RING_CTL.EVT_LOST.at 0 0] ∧
      t.fld Reg.HI_RING_CTL.EVT_LOST 0 =
        min (2 ^ Reg.HI_RING_CTL.EVT_LOST.width - 1) (s.fld Reg.HI_RING_CTL.EVT_LOST 0 + 1))) ∧
    (∀ v : BitVec 6, let x := s.host.vector v.toNat
      let sends (c : Instr) (y : MsixVector) : Prop := Yields c s (fun t => t.host.vector v.toNat = y ∧
        (∀ n, n ≠ v.toNat → t.host.vector n = s.host.vector n) ∧ s.WritesOnly t [])
      (2 ≤ v.toNat → x.count ≠ 0 → x.masked = false →
        sends (.msixCoalesceTimer v) { x with sent := x.sent + 1, count := 0 }) ∧
      (2 ≤ v.toNat → x.count ≠ 0 → x.masked = true →
        sends (.msixCoalesceTimer v) { x with pending := true, count := 0 }) ∧
      (v.toNat < 2 ∨ x.count = 0 → Yields (.msixCoalesceTimer v) s (fun t => t = s)) ∧
      (x.pending = true → sends (.msixUnmask v) { x with masked := false, pending := false, sent := x.sent + 1 }) ∧
      (x.pending = false → sends (.msixUnmask v) { x with masked := false, pending := false })) ∧
    (∀ v : Word,
      let on (t : State) : Prop := t.bit Reg.HI_RING_CTL.ENABLE 0 = v.getLsbD 0 ∧
        t.bit Reg.HI_RING_CTL.RUNNING 0 = v.getLsbD 0 ∧ s.KeepsData t
      (s.up = false → Yields (.ringEnable v) s (fun t => t = s)) ∧
      (s.up = true → enabled ∨ v.getLsbD 0 = false → Yields (.ringEnable v) s (fun t => on t ∧ t.host = s.host ∧
        (enabled → t.fld Reg.HI_RING_CTL.CMD_LOG2 0 = s.fld Reg.HI_RING_CTL.CMD_LOG2 0 ∧
          t.fld Reg.HI_RING_CTL.CPL_LOG2 0 = s.fld Reg.HI_RING_CTL.CPL_LOG2 0))) ∧
      (s.up = true → ¬ enabled → v.getLsbD 0 = true → s.host.written = [] → s.host.waiting = [] → s.host.releasing = none →
        s.loaded 0 = false → Yields (.ringEnable v) s (fun t => on t ∧ t.fld Reg.HI_RING_STATUS.CPL_TAIL 0 = 0 ∧
          t.host.cplHead = 0 ∧ t.fld Reg.HI_RING_CTL.CMD_LOG2 0 = getBits v 1 5 ∧
          t.fld Reg.HI_RING_CTL.CPL_LOG2 0 = getBits v 6 5 ∧
          t.fld Reg.HI_RING_STATUS.CMD_HEAD 0 = head)))

/-! ### The context memory -/

/-- R281 to R284, R287, R288, R292, R293, R300, R304 to R306, R314: accesses of the hawk cores and the fabric, the completion
of load and store tickets, the scrubber, refresh, and the state of the stacks. Model's choices: log entries 27 and 28. -/
def Obligations.ContextMemory : Prop :=
  ∀ (s : State),
    let sound (w : Fin 2) (off n : Nat) (o : HbmOut) : Prop := o.fails ≠ 3 ∧
      ∀ g ∈ granulesOf off n, s.stackFailed w (g % 10) = false
    let clean (w : Fin 2) (off n : Nat) (o : HbmOut) : Prop := sound w off n o ∧ o.bad = none ∧
      ∀ g ∈ granulesOf off n, g ∉ (s.wing w).poison
    let violates (t : State) (w : Fin 2) (reason kind : Nat) : Prop :=
      t.fld Reg.CM_VIOL.COUNT w = min (2 ^ 14 - 1) (s.fld Reg.CM_VIOL.COUNT w + 1) ∧ t.bit Reg.CM_VIOL.VALID w = true ∧
      (s.bit Reg.CM_VIOL.VALID w = false → t.fld Reg.CM_VIOL.REASON w = reason ∧ t.fld Reg.CM_VIOL.SRC_KIND w = kind) ∧
      (s.bit Reg.CM_VIOL.VALID w = true → t.fld Reg.CM_VIOL.REASON w = s.fld Reg.CM_VIOL.REASON w) ∧ t.mem = s.mem
    (∀ (w : Fin 2) (stack : Fin 10),
      (∀ (bank : BitVec 8) (ends : Bool), let b := 256 * stack.val + bank.toNat
        Yields (.hbmRefresh w stack bank ends) s (fun t => (b ∈ (t.wing w).refreshing ↔ ends = false) ∧
          (∀ c, c ≠ b → (c ∈ (t.wing w).refreshing ↔
            c ∈ (s.wing w).refreshing ∧ (ends = true ∨ c / 256 ≠ stack.val))) ∧ s.WritesOnly t [])) ∧
      Yields (.hbmStackTrained w stack) s (fun t => ∀ i, (t.fld Reg.CM_STATUS.TRAINED w).testBit i =
        (decide (i = stack.val) || (s.fld Reg.CM_STATUS.TRAINED w).testBit i) ∧ s.WritesOnly t [Reg.CM_STATUS.HOT.at w 0]) ∧
      ∀ hot : Bool, Yields (.hbmStackHot w stack hot) s (fun t => (t.fld Reg.CM_STATUS.HOT w).testBit stack.val = hot ∧
        t.fld Reg.CM_STATUS.FAILED w = s.fld Reg.CM_STATUS.FAILED w ∧ s.WritesOnly t [Reg.CM_STATUS.HOT.at w 0])) ∧
    (∀ (w : Fin 2) (granule : BitVec 28) (o : HbmOut),
      let off := 2048 * granule.toNat
      let idle : Prop := s.fld Reg.CM_SCRUB_CTL.PERIOD_H w = 0 ∨ s.regionAt w off = none ∨
        s.stackFailed w (granule.toNat % 10) = true
      let counts (t : State) : Prop := t.fld Reg.CM_ECC_STATUS.CORRECTED w =
        min (2 ^ 32 - 1) (s.fld Reg.CM_ECC_STATUS.CORRECTED w + o.corrected.toNat)
      (idle → Yields (.cmScrub w granule o) s (fun t => t = s)) ∧
      (¬ idle → o.fails = 3 → Yields (.cmScrub w granule o) s (fun t =>
        t.stackFailed w (granule.toNat % 10) = true ∧ (t.wing w).poison = (s.wing w).poison ∧ s.KeepsData t)) ∧
      (¬ idle → o.fails ≠ 3 → o.bad = none → Yields (.cmScrub w granule o) s (fun t => counts t ∧
        s.WritesOnly t [Reg.CM_ECC_STATUS.CORRECTED.at w 0, Reg.CM_TIMING_COUNT.RETRIES.at w 0])) ∧
      (∀ b r, ¬ idle → o.fails ≠ 3 → o.bad = some b → s.regionAt w off = some r → Yields (.cmScrub w granule o) s (fun t => counts t ∧
        granule.toNat ∈ (t.wing w).poison ∧ t.bit Reg.CM_ECC_UE.VALID w = true ∧
        (s.bit Reg.CM_ECC_UE.VALID w = false → t.fld Reg.CM_ECC_UE.GRANULE w = granule.toNat ∧
          t.fld Reg.CM_ECC_UE.BLOCK w = b.toNat ∧ t.fld Reg.CM_ECC_UE.SOURCE w = 2) ∧
        s.Posts t (s.eventEntry 6 stEcc (leBytes 8 granule.toNat ++ leBytes 1 w.val ++ leBytes 1 r.kind)) ∧
        s.KeepsData t))) ∧
    (∀ (w : Fin 2) (addr : BitVec 48) (len : Nat) (data : List Byte) (outs : List HbmOut) (tie : Bool),
      let off := addr.toNat
      let read : Instr := .hawkHbmAccess w false addr len data outs tie
      let write : Instr := .hawkHbmAccess w true addr len data outs tie
      let answers (t : State) (st : Nat) (bs : List Byte) : Prop := (t.wing w).hawkStatus = st ∧ (t.wing w).hawkData = bs
      let allSound (n : Nat) : Prop := (∀ o ∈ outs, o.fails ≠ 3) ∧ ∀ g ∈ granulesOf off n, s.stackFailed w (g % 10) = false
      (∀ r, s.hbmRefusal w .hawkRead (s.chip w) off = some r → Yields read s (fun t =>
        answers t stWindowViolation [] ∧ violates t w r 1)) ∧
      (∀ r, s.hbmRefusal w .hawkWrite (s.chip w) off = some r → Yields write s (fun t =>
        answers t stWindowViolation [] ∧ violates t w r 1)) ∧
      (s.hbmRefusal w .hawkRead (s.chip w) off = none → allSound len →
        ((∀ o ∈ outs, o.bad = none) → (∀ g ∈ granulesOf off len, g ∉ (s.wing w).poison) → Yields read s (fun t =>
          answers t stOk (memRun s.mem (wingAddr w off) len) ∧ s.KeepsData t)) ∧
        (0 < len → (∃ g ∈ granulesOf off len, g ∈ (s.wing w).poison) →
          Yields read s (fun t => answers t stEcc [] ∧ s.KeepsData t))) ∧
      (s.hbmRefusal w .hawkWrite (s.chip w) off = none →
        (allSound data.length → Yields write s (fun t =>
          answers t stOk [] ∧ s.Stores t w off data ∧ t.tiles = s.tiles ∧
          ∀ g, off ≤ 2048 * g → 2048 * g + 2048 ≤ off + data.length → g ∉ (t.wing w).poison)) ∧
        (∀ o rest, outs = o :: rest → o.fails = 3 → data ≠ [] → off % 2048 + data.length ≤ 2048 →
          s.stackFailed w (hbmStack off) = false → Yields write s (fun t => answers t stLinkLost [] ∧
            t.stackFailed w (hbmStack off) = true ∧ s.KeepsData t)))) ∧
    (∀ (u : Site) (ticket : BitVec 5) (o : HbmOut),
      let x := (s.tile u).load ticket.toNat
      let waits : Prop := x.state ≠ .inFlight ∨ (s.tile u).sentTicket (s.tile u).loads x = false
      let ends (t : State) (st : Nat) : Prop := (t.tile u).load ticket.toNat = { x with state := .completed, status := st } ∧
        (t.tile u).full = (s.tile u).full ∧ ∀ v, v ≠ u → t.tile v = s.tile v
      let rowAddr (row i : Nat) := wingAddr u.wing (rowOffset u.tile.toNat row + i)
      (waits → Yields (.qldComplete u ticket o) s (fun t => t = s)) ∧
      (∀ r, ¬ waits → s.hbmRefusal u.wing .load 0 x.off = some r → Yields (.qldComplete u ticket o) s (fun t =>
        ends t stWindowViolation ∧ violates t u.wing r 0)) ∧
      (¬ waits → s.hbmRefusal u.wing .load 0 x.off = none →
        (clean u.wing x.off (512 * x.nrows) o → x.rows.Nodup → x.off + 512 * x.rows.length ≤ 0x8000000000 →
          Yields (.qldComplete u ticket o) s (fun t => ends t stOk ∧
            (∀ j row, x.rows[j]? = some row → ∀ i, i < 512 →
              memRead t.mem (rowAddr row i) = memRead s.mem (wingAddr u.wing (x.off + 512 * j + i))) ∧
            ∀ a, (∀ row i, row ∈ x.rows → i < 512 → a ≠ rowAddr row i) → memRead t.mem a = memRead s.mem a)) ∧
        (sound u.wing x.off (512 * x.nrows) o → (∃ g ∈ granulesOf x.off (512 * x.nrows), g ∈ (s.wing u.wing).poison) →
          Yields (.qldComplete u ticket o) s (fun t => ends t stEcc ∧ t.mem = s.mem)))) ∧
    (∀ (u : Site) (ticket : BitVec 5) (o : HbmOut) (tie : Bool),
      let x := (s.tile u).store ticket.toNat
      let waits : Prop := x.state ≠ .inFlight ∨ (s.tile u).sentTicket (s.tile u).stores x = false
      let ends (t : State) (st : Nat) : Prop :=
        (t.tile u).store ticket.toNat = { x with state := .completed, status := st, data := [] } ∧
        ∀ v, v ≠ u → t.tile v = s.tile v
      (waits → Yields (.qstComplete u ticket o tie) s (fun t =>
        s.WritesOnly t [Reg.AU_TDC.PENDING.at u.wing 0, Reg.AU_TDC_TOTAL.TOTAL.at u.wing 0])) ∧
      (∀ r, ¬ waits → s.hbmRefusal u.wing .store 0 x.off = some r → Yields (.qstComplete u ticket o tie) s (fun t =>
        ends t stWindowViolation ∧ violates t u.wing r 0)) ∧
      (¬ waits → s.hbmRefusal u.wing .store 0 x.off = none →
        (s.filtered u.wing x.off = true → Yields (.qstComplete u ticket o tie) s (fun t => ends t stOk ∧ t.mem = s.mem ∧
          t.fld Reg.CM_FILTER_COUNT.FILTERED u.wing = min (2 ^ 32 - 1) (s.fld Reg.CM_FILTER_COUNT.FILTERED u.wing + 1))) ∧
        (s.filtered u.wing x.off = false → sound u.wing x.off (512 * x.nrows) o →
          Yields (.qstComplete u ticket o tie) s (fun t => ends t stOk ∧ s.Stores t u.wing x.off x.data)))) ∧
    (∀ (w : Fin 2) (p : FPacket) (o : HbmOut) (tie : Bool),
      let src := s.switchSrc w p
      let chip := p.srcChip.toNat
      let verdict (t : State) (taken : Bool) : Prop :=
        (t.wing w).verdicts = (s.wing w).verdicts ++ (fabricVerdict p taken).toList
      let took (t : State) : Prop := (t.wing w).toHbm = (s.wing w).toHbm.erase p ∧ t.tiles = s.tiles
      ((s.wing w).switchAhead p = true → Yields (.hbmWrite w p o tie) s (fun t => p ∈ (t.wing w).toHbm ∧ s.WritesOnly t [])) ∧
      ((s.wing w).switchAhead p = false →
        (∀ r, s.hbmRefusal w src chip p.addr.toNat = some r → Yields (.hbmWrite w p o tie) s (fun t =>
          took t ∧ violates t w r 3 ∧ verdict t false)) ∧
        (s.hbmRefusal w src chip p.addr.toNat = none → sound w p.addr.toNat 512 o →
          Yields (.hbmWrite w p o tie) s (fun t =>
            took t ∧ s.Stores t w p.addr.toNat (padTo 512 p.data) ∧ verdict t true)) ∧
        (s.hbmRefusal w src chip p.addr.toNat = none → o.fails = 3 →
          (∀ g ∈ granulesOf p.addr.toNat 512, s.stackFailed w (g % 10) = false) → Yields (.hbmWrite w p o tie) s (fun t =>
            took t ∧ t.stackFailed w (hbmStack p.addr.toNat) = true ∧ t.mem = s.mem ∧ verdict t false))))

/-! ### Step boundaries and the serving engine's exchanges -/

/-- R35, R289, R418, R427, R431, R434, R443, R466, R469, R601: the boundary after a step: when it begins; a store that failed,
what the engine cannot read and an output that differs stop the job; a ledger without room holds it back; the commit with its
mirror; the parts of the coming batch, and of the scripted one of a replay run; the acknowledgement, the reclaimed slots and the
release, which awaits both wings; the wait that lasts too long; and a cancel forwarded from another module. After a boundary the
engine looks after the publications that wait (R245). Model's choices: log entries 31, 34, 35 and 36. -/
def Obligations.StepBoundaries : Prop :=
  ∀ (w : Fin 2) (s : State),
    let step := s.stepOf w
    let x := s.wing w
    let map := Reg.CM_CANCEL_MAP.MAP
    let ready : Prop := s.loaded w = true ∧ s.allEnded w = true ∧ s.storesOpen w = false ∧ x.bnd.committed = false
    let ends (P : State → Prop) : Prop := Yields (.stepBoundary w) s (fun t => ∃ y : State, P y ∧ t = y.settlePublications)
    (¬ ready → ends (fun y => y = s)) ∧
    (∀ e, ready → s.storeError w = some e → s.Canonical → ends (fun y => s.Stops y w e.1 3 e.2 (s.chip w))) ∧
    (ready → s.storeError w = none →
      (∀ e, s.commitBad w = some e → s.Canonical → ends (fun y => s.Stops y w e.1 3 e.2 (s.chip w))) ∧
      (s.commitBad w = none →
        (s.isAhead w = true → digestBytes (s.outputDigest w) ≠ s.recordedOutput w step → s.Canonical →
          ends (fun y => s.Stops y w stPlanMismatch 6 3 (s.chip w))) ∧
        (s.isAhead w = false → s.recordWaits w = true → ends (fun y => y.bit Reg.AU_LEDGER_STATUS.FULL w = true ∧
          s.WritesOnly y [Reg.AU_LEDGER_STATUS.FULL.at w 0])) ∧
        (s.isAhead w = false → s.recordWaits w = false → (∀ v, (s.wing v).poison = []) →
          (∀ v i, i < 10 → s.stackFailed v i = false) → x.bnd.frozen = false →
          x.parts.length + 1 < s.fld Reg.SV_JOB_CFG.QCOUNT w → ends (fun y =>
            y.reg (Reg.SV_COMMITTED.STEP.at w 0) = BitVec.ofNat 64 step ∧ y.fld Reg.AU_TDC.PENDING w = 0 ∧
            (y.wing w).bnd.committed = true ∧ (y.wing w).bnd.frozen = false ∧ (y.wing w).bnd.mirrorSent = true ∧
            y.tiles = s.tiles)))) ∧
    (∀ xs ys : List (BitVec 32), acceptedCount xs ys ≤ ys.length ∧
      (∀ i, i < acceptedCount xs ys → ys[i]? = xs[i]?) ∧
      (acceptedCount xs ys < min xs.length ys.length →
        ys[acceptedCount xs ys]? ≠ xs[acceptedCount xs ys]?)) ∧
    (∀ (q : BitVec 11) (n : BitVec 64) (part : List (BitVec 15 × Entry)) (clear : List (BitVec 14))
        (pages : List (BitVec 14 × List (BitVec 32))),
      let u := s.unitTokens w
      let takes : Prop := s.loaded w = true ∧ n.toNat = step + 1 ∧ q.toNat < s.fld Reg.SV_JOB_CFG.QCOUNT w ∧ q.toNat ∉ x.parts
      let scripted : Prop := s.scriptFirst w q.toNat n.toNat = true
      let places (b : Sparse Entry) : Prop :=
        ((part.map (·.1)).Nodup → ∀ e ∈ part, e.1.toNat < u → entryAt b (q.toNat * u + e.1.toNat) = e.2) ∧
        ∀ i, (∀ e ∈ part, i ≠ q.toNat * u + e.1.toNat) → entryAt b i = entryAt x.nextBatch i
      (scripted → x.parts.length + 1 < s.fld Reg.SV_JOB_CFG.QCOUNT w →
        Yields (.batchPart w q n part clear pages) s (fun t => (∀ p, p ∈ (t.wing w).parts ↔ p = q.toNat ∨ p ∈ x.parts) ∧
          places (t.wing w).nextBatch ∧ (t.wing w).batch = x.batch ∧ s.WritesOnly t [])) ∧
      (scripted → s.fld Reg.SV_JOB_CFG.QCOUNT w ≤ x.parts.length + 1 →
        Yields (.batchPart w q n part clear pages) s (fun t => (t.wing w).parts = [] ∧ (t.wing w).nextBatch = [] ∧
          places (t.wing w).batch ∧ t.tiles = s.tiles)) ∧
      (¬ scripted → ¬ takes → Yields (.batchPart w q n part clear pages) s (fun t => t = s)) ∧
      (takes → x.parts.length + 1 < s.fld Reg.SV_JOB_CFG.QCOUNT w → x.bnd.frozen = false →
        Yields (.batchPart w q n part clear pages) s (fun t =>
          (∀ p, p ∈ (t.wing w).parts ↔ p = q.toNat ∨ p ∈ x.parts) ∧ (t.wing w).bnd = x.bnd ∧
          places (t.wing w).nextBatch ∧
          (∀ i, i < 16384 → t.cancelBit w i = (s.cancelBit w i && !decide (∃ c ∈ clear, c.toNat = i))) ∧
          t.tiles = s.tiles))) ∧
    (let acks : Prop := s.loaded w = true ∧ x.bnd.mirrorSent = true ∧ x.bnd.ackIn = false ∧ s.mirrorOpen w = false
     let engine := s.wing 0
     let other := s.fld Reg.SV_MIRRORED.STEP (otherWing w)
     (¬ acks → Yields (.mirrorAck w) s (fun t => t = s)) ∧
     (acks → x.bnd.frozen = false ∨ x.bnd.acked = true → Yields (.mirrorAck w) s (fun t =>
       (t.wing w).bnd = { x.bnd with ackIn := true } ∧ (t.wing w).slots = x.slots ∧ t.host = s.host ∧ s.WritesOnly t [])) ∧
     (acks → x.bnd.frozen = true → x.bnd.acked = false → step % 65536 ≠ 65535 → Yields (.mirrorAck w) s (fun t =>
       t.reg (Reg.SV_MIRRORED.STEP.at w 0) = BitVec.ofNat 64 step ∧ (t.wing w).bnd.acked = true ∧
       (∀ e ∈ s.ownSlots w, e.2.reclaim = true → (t.wing w).slot e.1 = {}) ∧
       (∀ n, (∀ e ∈ s.ownSlots w, e.2.reclaim = true → e.1 ≠ n) → (t.wing w).slot n = x.slot n) ∧ t.tiles = s.tiles ∧
       (other < step → t.host = s.host) ∧
       (step ≤ other → s.fld Reg.SV_RELEASED.STEP 0 < step →
         (s.cplRoom = false → (∃ c ∈ engine.stepCompl, c.release = step) →
           t.host.releasing = some step ∧ (t.wing 0).stepCompl = [] ∧
           (∀ v, t.fld Reg.SV_RELEASED.STEP v = s.fld Reg.SV_RELEASED.STEP v) ∧
           ∃ l, t.host.waiting = s.host.waiting ++ engine.stepCompl ++ l ∧
             l.map (·.id) = (engine.cancels.filter (·.carried)).map (·.tag)) ∧
         (engine.stepCompl = [] → engine.cancels = [] → s.host.waiting = [] →
           t.host.releasing = none ∧ ∀ v, t.fld Reg.SV_RELEASED.STEP v = step))))) ∧
    (let late : Prop := s.loaded w = true ∧ x.bnd.committed = true ∧ (x.bnd.acked = false ∨ x.bnd.frozen = false)
     (late → s.Canonical → Yields (.ackTimeout w) s (fun t => s.Stops t w stTimeout 6 4 (s.chip w))) ∧
     (¬ late → Yields (.ackTimeout w) s (fun t => t = s))) ∧
    (∀ slot : BitVec 14, Yields (.cancelForward w slot) s (fun t =>
      (∀ n, n < 16384 → t.cancelBit w n = (decide (n = slot.toNat) || s.cancelBit w n)) ∧
      s.WritesOnly t [map.at w (slot.toNat / 64)]))

/-- R436, R437, R465, R466, R477: hand-offs between pools, and blocks of the ledger: a decode engine that has a slot and page
groups takes the request, and refuses it otherwise; a refused offer is noted for the next boundary, and a cancelled one ends;
the prefill engine copies the pages of a taken slot, and SHIP_DONE ends the hand-off on both sides; a closed block is signed, of an
earlier job too; and the exported block is noted, after which a step that waited for it goes on. Model's choices: log entries 36,
37 and 38. -/
def Obligations.HandoffsAndLedger : Prop :=
  ∀ (s : State),
    let x := s.wing 0
    let decodes : Prop := s.bit Reg.SV_JOB_CFG.INTAKE 0 = true ∧ s.fld Reg.SV_JOB_CFG.POOL 0 = 2
    (∀ a : HandoffArgs,
      let groups := s.takeGroups (groupsFor (a.promptLen.toNat + a.maxNew.toNat + a.dReq.toNat))
      (¬ decodes → Yields (.handoff a) s (fun t => t = s)) ∧
      (decodes → s.freeSlot = none ∨ groups = none → Yields (.handoff a) s (fun t =>
        (t.wing 0).engineOut = x.engineOut ++ [.handoffReply a.reqId stBudgetRefused (s.chip 0) 0 []] ∧
        (t.wing 0).slots = x.slots ∧ s.WritesOnly t [])) ∧
      (∀ n g, decodes → s.freeSlot = some n → groups = some g → Yields (.handoff a) s (fun t =>
        (t.wing 0).engineOut = x.engineOut ++ [.handoffReply a.reqId stOk (s.chip 0) n g] ∧
        t.tiles = s.tiles ∧ t.host = s.host ∧ s.Decides t n (fun y => y.reqId = a.reqId ∧ y.state = slAwaitPages ∧
          y.groups = g ∧ y.promptLen = a.promptLen.toNat ∧ y.maxNew = a.maxNew.toNat ∧ y.seed = a.seed ∧
          y.stopToken = a.stopToken ∧ y.lastToken = a.firstToken ∧ y.homeChip = a.homeChip.toNat)))) ∧
    (∀ (reqId : BitVec 64) (st : BitVec 8) (chip : BitVec 16) (slot : BitVec 14) (groups : List (BitVec 32)),
      let c : Instr := .handoffReply reqId st chip slot groups
      let found := x.handoffs.find? (fun h => h.reqId == reqId && h.reply.isNone && !h.refused)
      let theirs := groups.map (·.toNat)
      (found = none → Yields c s (fun t => t = s)) ∧
      (∀ h, found = some h →
        (st.toNat ≠ stOk → Yields c s (fun t => s.WritesOnly t [] ∧ (t.wing 0).engineOut = x.engineOut ∧
          (t.wing 0).handoffs = if h.cancelled then x.handoffs.erase h
            else x.handoffs.map (fun g => if g = h then { h with refused := true } else g))) ∧
        (st.toNat = stOk → Yields c s (fun t => t.mem = s.mem ∧ t.tiles = s.tiles ∧ (t.wing 0).engineOut = x.engineOut ∧
          (∃ g ∈ (t.wing 0).handoffs, g.slot = h.slot ∧ g.reply = some (chip, slot, theirs) ∧ g.cancelled = h.cancelled) ∧
          ∃ y : State, s.WritesOnly y [] ∧ y.wing 1 = s.wing 1 ∧ (h.cancelled = true → t = y) ∧
            (h.cancelled = false →
              t = (s.pageCopies (x.slot h.slot).groups chip.toNat theirs).foldl State.shipPage y))))) ∧
    (∀ (slot : BitVec 14) (cancelled : Bool),
      let n := slot.toNat
      let c : Instr := .shipDone slot cancelled
      let found := x.handoffs.find? (fun h => h.slot == n && h.reply.isSome)
      let waits : Prop := s.ownsSlot n = true ∧ ((x.slot n).state = slAwaitPages ∨ (x.slot n).awaitShip = true)
      (∀ h r, found = some h → h.reply = some r → s.shipped r.1.toNat = false → Yields c s (fun t => t = s)) ∧
      (∀ h r, found = some h → h.reply = some r → s.shipped r.1.toNat = true → Yields c s (fun t =>
        (t.wing 0).handoffs = x.handoffs.erase h ∧
        (t.wing 0).engineOut = x.engineOut ++ [.shipDone n r.1.toNat r.2.1.toNat h.cancelled] ∧
        (h.cancelled = true → s.WritesOnly t []) ∧
        (h.cancelled = false → t.tiles = s.tiles ∧ s.Decides t n (fun y =>
          y = { x.slot n with state := slFinished, reason := 4, takenBy := (r.1.toNat, r.2.1.toNat) })))) ∧
      (found = none → ¬ waits → Yields c s (fun t => t = s)) ∧
      (found = none → waits → cancelled = true → Yields c s (fun t => t.tiles = s.tiles ∧
        s.Decides t n (fun y => y.state = slCancelled ∧ y.reqId = (x.slot n).reqId ∧ y.awaitShip = false))) ∧
      (found = none → s.ownsSlot n = true → (x.slot n).state = slAwaitPages → cancelled = false → Yields c s (fun t =>
        t.tiles = s.tiles ∧ s.Decides t n (fun y =>
          y = { x.slot n with state := slDecode, len := (x.slot n).promptLen + 1, new := 1 })))) ∧
    (∀ (w : Fin 2) (block : BitVec 48),
      let n := block.toNat
      let queued : Prop := s.cocoonUp = true ∧ (w.val, n) ∈ s.cocoon.signQueue
      let payload := leBytes 8 n ++ leBytes 1 w.val
      let served (t : State) : Prop := t.cocoon.signQueue = s.cocoon.signQueue.erase (w.val, n) ∧
        t.fld Reg.AU_LEDGER_STATUS.SIGN_PENDING w = min 15 ((s.cocoon.signQueue.erase (w.val, n)).countP (fun e => e.1 == w.val)) ∧
        t.tiles = s.tiles
      (¬ queued → Yields (.ledgerSignComplete w block) s (fun t => t = s)) ∧
      let old := (s.wing w).oldBlocks.find? (fun b => b.number == n)
      (∀ b, queued → old = some b →
        (s.slotGood b.keySlot = true ∧ s.entropyOk = true → Yields (.ledgerSignComplete w block) s (fun t => served t ∧
          (t.wing w).oldBlocks = (s.wing w).oldBlocks.erase b ∧ s.Posts t (s.eventEntry 3 stOk payload) ∧
          (s.readRun w b.place 232 ≠ b.head → t.mem = s.mem) ∧
          (s.readRun w b.place 232 = b.head → (∀ i, s.stackFailed w i = false) → ∃ g, s.Stores t w b.place (b.signed g)))) ∧
        (¬ (s.slotGood b.keySlot = true ∧ s.entropyOk = true) → Yields (.ledgerSignComplete w block) s (fun t => served t ∧
          t.bit Reg.AU_LEDGER_STATUS.SIGN_FAIL w = true ∧ t.mem = s.mem ∧
          s.Posts t (s.eventEntry 3 stAuthFailed payload)))) ∧
      (∀ b, queued → old = none → (s.wing w).block n = some b →
        (s.slotGood b.keySlot = true ∧ s.entropyOk = true → Yields (.ledgerSignComplete w block) s (fun t => served t ∧
          (∃ g, (t.wing w).block n = some { b with state := 2, signature := g }) ∧ s.Posts t (s.eventEntry 3 stOk payload))) ∧
        (¬ (s.slotGood b.keySlot = true ∧ s.entropyOk = true) → Yields (.ledgerSignComplete w block) s (fun t => served t ∧
          t.bit Reg.AU_LEDGER_STATUS.SIGN_FAIL w = true ∧ (t.wing w).block n = some b ∧
          s.Posts t (s.eventEntry 3 stAuthFailed payload))))) ∧
    (∀ (w : Fin 2) (v : Word), let b := (s.wing w).bnd
      let e := s.setFld Reg.AU_LEDGER_EXPORT.BLOCK w (getBits v 0 48)
      let full := s.bit Reg.AU_LEDGER_STATUS.FULL w
      let waits : Prop := s.loaded w = true ∧ b.acked = true ∧ b.frozen = true ∧ b.reported = false
      (s.up = false → Yields (.auLedgerExport w v) s (fun t => t = s)) ∧
      (s.up = true → full = true → b.committed = false → Yields (.auLedgerExport w v) s (fun t => ∃ y : State,
        y.fld Reg.AU_LEDGER_EXPORT.BLOCK w = getBits v 0 48 ∧ y.bit Reg.AU_LEDGER_STATUS.FULL w = false ∧
        s.WritesOnly y [Reg.AU_LEDGER_EXPORT.BLOCK.at w 0, Reg.AU_LEDGER_STATUS.FULL.at w 0] ∧ t = y.boundary w)) ∧
      (s.up = true → full = false ∨ b.committed = true →
        (¬ waits → Yields (.auLedgerExport w v) s (fun t => t.fld Reg.AU_LEDGER_EXPORT.BLOCK w = getBits v 0 48 ∧
          s.WritesOnly t [Reg.AU_LEDGER_EXPORT.BLOCK.at w 0])) ∧
        (waits → e.ledgerHolds w (s.stepOf w) = true → w = 1 → Yields (.auLedgerExport w v) s (fun t =>
          t.fld Reg.AU_LEDGER_EXPORT.BLOCK w = getBits v 0 48 ∧ t.bit Reg.AU_LEDGER_STATUS.FULL w = true ∧
          (t.wing w).bnd.reported = false ∧ s.KeepsData t)) ∧
        (waits → e.ledgerHolds w (s.stepOf w) = false → w = 1 → Yields (.auLedgerExport w v) s (fun t =>
          t.fld Reg.AU_LEDGER_EXPORT.BLOCK w = getBits v 0 48 ∧ t.bit Reg.AU_LEDGER_STATUS.FULL w = false ∧
          (t.wing w).bnd.reported = true ∧ s.KeepsData t))))

/-! ### Power, speed and ageing -/

/-- R540 to R542, R544 to R546, R548, R549, R551: the budget, whose refused settings change nothing, and the reductions that
a lower pool brings; requests, releases and reductions in an epoch of the arbiter; and tiers powered down and up. Model's
choices: log entries 3 and 45. -/
def Obligations.PowerAndTiers : Prop :=
  ∀ (s : State),
    let p := s.power
    let request (d : Nat) := sget (fun _ => 0) p.requests d
    let reduction (d : Nat) := sget (fun _ => none) p.reductions d
    (∀ v : Word,
      let b := getBits v 0 11
      let h := getBits v 11 9
      let ok : Prop := 800 ≤ b ∧ b ≤ 1800 ∧ 200 ≤ h ∧ h ≤ 480 ∧ 230 + h + 328 ≤ b
      (s.up = false → Yields (.pwBudgetWrite v) s (fun t => t = s)) ∧
      (s.up = true → ¬ ok → Yields (.pwBudgetWrite v) s (fun t => t.bit Reg.PW_BUDGET.REFUSED 0 = true ∧ t.power = p ∧
        t.fld Reg.PW_BUDGET.BUDGET_W 0 = s.fld Reg.PW_BUDGET.BUDGET_W 0 ∧
        t.fld Reg.PW_BUDGET.HBM_CAP_W 0 = s.fld Reg.PW_BUDGET.HBM_CAP_W 0 ∧ s.WritesOnly t [Reg.PW_BUDGET.BUDGET_W.at 0 0])) ∧
      (s.up = true → ok → Yields (.pwBudgetWrite v) s (fun t =>
        let planned (d : Nat) := (sget (fun _ => none) t.power.reductions d).getD (s.ceil d)
        t.fld Reg.PW_BUDGET.BUDGET_W 0 = b ∧ t.fld Reg.PW_BUDGET.HBM_CAP_W 0 = h ∧
        t.fld Reg.PW_BUDGET.REFUSED 0 = (if v.getLsbD 20 then 0 else s.fld Reg.PW_BUDGET.REFUSED 0) ∧
        t.pool = b - 230 - h ∧ (∀ d, d < 32 → t.ceil d = s.ceil d ∧
          min (s.ceil d) (s.floorOf d) ≤ planned d ∧ planned d ≤ s.ceil d) ∧
        (p.rising = [] → ((List.range 32).map s.ceil).sum ≤ b - 230 - h → t.power.reductions = []) ∧
        (p.rising = [] → b - 230 - h ≤ ((List.range 32).map s.ceil).sum →
          ((List.range 32).map (fun d => min (s.ceil d) (s.floorOf d))).sum ≤ b - 230 - h →
          ((List.range 32).map planned).sum = b - 230 - h) ∧
        (t.bit Reg.PW_STATUS.LOWERING 0 = true ↔ t.power.reductions ≠ []) ∧ s.KeepsData t))) ∧
    (s.board.booted = false → Yields .arbiterEpoch s (fun t => t = s)) ∧
    (∀ d : Fin 50, s.board.booted = true → p.releases = [] → p.acked = [] → d.val < 32 → request d.val ≠ 0 →
      (∀ e, e ≠ d.val → request e = 0) →
      (s.freePower = 0 → Yields .arbiterEpoch s (fun t => t.bit Reg.PW_DOMAIN.REFUSED 0 d.val = true ∧
        t.fld Reg.PW_STATUS.REFUSALS 0 = min (2 ^ 32 - 1) (s.fld Reg.PW_STATUS.REFUSALS 0 + 1) ∧
        (∀ e, e < 50 → t.ceil e = s.ceil e) ∧ t.power.request d.val = 0 ∧ t.power.lastServed = d.val ∧ s.KeepsData t)) ∧
      (s.freePower ≠ 0 → Yields .arbiterEpoch s (fun t =>
        t.ceil d.val = s.ceil d.val + min (request d.val) s.freePower ∧ (∀ e, e < 50 → e ≠ d.val → t.ceil e = s.ceil e) ∧
        t.power.request d.val = request d.val - min (request d.val) s.freePower ∧ t.power.lastServed = d.val ∧
        s.KeepsData t))) ∧
    (∀ (d : Fin 50) (c : Nat), s.board.booted = true → (∀ e, request e = 0) →
      (p.releases = [(d.val, c)] → p.acked = [] → Yields .arbiterEpoch s (fun t =>
        t.ceil d.val = min (s.ceil d.val) c ∧ (∀ e, e < 50 → e ≠ d.val → t.ceil e = s.ceil e) ∧ t.power.releases = [] ∧
        s.KeepsData t)) ∧
      (p.releases = [] → p.acked = [d.val] → reduction d.val = some c → Yields .arbiterEpoch s (fun t =>
        t.ceil d.val = min (s.ceil d.val) c ∧ (∀ e, e < 50 → e ≠ d.val → t.ceil e = s.ceil e) ∧
        (∀ e, sget (fun _ => none) t.power.reductions e = if e = d.val then none else reduction e) ∧ s.KeepsData t))) ∧
    (∀ (d : Fin 50) (n : BitVec 11),
      (let may : Prop := d.val < 32 ∧ s.domainOn d.val = true ∧ request d.val = 0
       (may → Yields (.powerRequest d n) s (fun t => s.WritesOnly t [] ∧
         ∀ e, t.power.request e = if e = d.val then n.toNat else request e)) ∧
       (¬ may → Yields (.powerRequest d n) s (fun t => t = s))) ∧
      (let may : Prop := d.val < 32 ∧ s.domainOn d.val = true ∧ n.toNat + 3 ≤ s.ceil d.val
       (may → Yields (.powerRelease d n) s (fun t => s.WritesOnly t [] ∧
         sget (fun _ => 0) t.power.releases d.val = max (s.floorOf d.val) (n.toNat + 1))) ∧
       (¬ may → Yields (.powerRelease d n) s (fun t => t = s))) ∧
      (reduction d.val = none → Yields (.reductionAck d) s (fun t => t = s)) ∧
      (∀ c, reduction d.val = some c → Yields (.reductionAck d) s (fun t => s.WritesOnly t [] ∧
        ∀ e, e ∈ t.power.acked ↔ e = d.val ∨ e ∈ p.acked))) ∧
    (∀ (k : Fin 8),
      let i := k.val % 4
      let w := tierWing k
      let d := 24 + k.val
      let on (t : State) (f : Fld) : Bool := t.tierBit f k.val
      let down := Reg.PW_TIER_CTL.DOWN
      let off := Reg.PW_TIER_CTL.OFF
      let pending := Reg.PW_TIER_CTL.PENDING
      let held : Prop := s.loaded w = true ∧ s.tierHeld w i = true
      let ctl := [Reg.PW_TIER_CTL.DOWN.at 0 0]
      let quiet : Prop := ∀ u ∈ s.wingTiles w, s.tierQuiet i u = true
      let gated : Prop := k.val ∈ p.gated
      let rising : Prop := k.val ∈ p.rising
      (rising → Yields (.tierDown k) s (fun t => k.val ∉ t.power.rising ∧ on t down = true ∧ s.WritesOnly t ctl)) ∧
      (¬ rising → on s off = true ∨ gated ∨ on s pending = true → Yields (.tierDown k) s (fun t => t = s)) ∧
      (¬ rising → on s off = false → ¬ gated → on s pending = false →
        (held → Yields (.tierDown k) s (fun t => on t down = false ∧ on t pending = false ∧ s.WritesOnly t ctl)) ∧
        (¬ held → Yields (.tierDown k) s (fun t => on t down = true ∧ on t pending = true ∧
          t.ceil d = min (s.ceil d) (s.floorOf d) ∧ t.power = p ∧ t.mem = s.mem))) ∧
      (on s pending = true → quiet → Yields (.tierGateShut k) s (fun t => on t pending = false ∧
        (∀ j, j ∈ t.power.gated ↔ j = k.val ∨ j ∈ p.gated) ∧ on t down = on s down ∧ s.WritesOnly t ctl)) ∧
      (on s pending = false ∨ ¬ quiet → Yields (.tierGateShut k) s (fun t => t = s)) ∧
      (gated → on s off = false → ¬ rising → Yields (.tierPowerOff k) s (fun t => on t off = true ∧
        t.domainOn d = false ∧ t.ceil d = 0 ∧ t.volt d = 0 ∧ t.power.request d = 0 ∧
        (∀ e, e < 50 → e ≠ d → t.ceil e = s.ceil e) ∧ s.KeepsData t)) ∧
      (¬ gated ∨ on s off = true ∨ rising → Yields (.tierPowerOff k) s (fun t => t = s)) ∧
      (on s pending = true → Yields (.tierUp k) s (fun t => on t pending = false ∧ on t down = false ∧ t.power = p ∧
        s.WritesOnly t ctl)) ∧
      (on s pending = false → on s off = true ∨ gated → Yields (.tierUp k) s (fun t => k.val ∈ t.power.rising ∧
        on t down = false ∧ on t off = on s off ∧ t.power.gated = p.gated ∧ s.KeepsData t)) ∧
      (on s pending = false → on s off = false → ¬ gated → Yields (.tierUp k) s (fun t => on t down = false ∧ t.power = p ∧
        s.WritesOnly t ctl)) ∧
      (rising → s.leverSum ≤ s.pool → s.Canonical → Yields (.tierPowerUpDone k) s (fun t => on t off = false ∧ t.domainOn d = true ∧
        t.ceil d = max (s.ceil d) (s.floorOf d) ∧ k.val ∉ t.power.rising ∧ k.val ∉ t.power.gated ∧
        (∀ a, memRead t.mem a = if tierKey w i a then 0 else memRead s.mem a) ∧
        ∀ u : Site, u.wing = w → ∀ r, r ∈ (t.tile u).full ↔ r ∈ (s.tile u).full ∧ r / 4096 ≠ i)) ∧
      (¬ rising ∨ s.pool < s.leverSum → Yields (.tierPowerUpDone k) s (fun t => t = s)))

/-- R543, R547, R552, R553, R556, R561, R564: the voltage of a band is the lowest step that meets the target, as far as the
ceiling allows, and never raised in a clamp; a tier follows the bands of its wing; heat clamps a band; and a re-plan raises
the codes by what the slack lacks, up to their limit. Model's choices: log entry 46. -/
def Obligations.VoltageAndWear : Prop :=
  ∀ (s : State),
    (∀ (dom : Fin 50) (beats draws : List (BitVec 11)) (draw : BitVec 11),
      let d := dom.val
      let c : Instr := .bandVoltageControl dom beats draws draw
      let drew (t : State) : Prop := t.fld Reg.PW_DOMAIN.DRAW_W 0 d = draw.toNat ∧ s.WritesOnly t [Reg.PW_DOMAIN.CEIL_W.at 0 d] ∧
        t.ceil d = s.ceil d
      let meets (k : Nat) : Prop := (beats.getD k 0).toNat ≤ s.targetBeat
      let fits (k : Nat) : Prop := (draws.getD k 0).toNat ≤ s.ceil d
      (s.domainOn d = false ∨ 32 ≤ d → Yields c s (fun t => drew t ∧ t.volt d = s.volt d)) ∧
      (s.domainOn d = true → d < 24 → Yields c s (fun t => drew t ∧ ∃ want k, k ≤ want ∧ want ≤ s.topStep ∧
        (∀ j, j < want → ¬ meets j) ∧ (meets want ∨ want = s.topStep) ∧
        (∀ j, k < j → j ≤ want → ¬ fits j) ∧ (fits k ∨ k = 0) ∧
        t.volt d = (if s.bit Reg.PW_DOMAIN.HOT 0 d then min (s.volt d) (550 + 5 * k) else 550 + 5 * k) ∧
        (t.bit Reg.PW_DOMAIN.HELD 0 d = true ↔ k < want))) ∧
      (s.domainOn d = true → 24 ≤ d → d < 32 → Yields c s (fun t => drew t ∧
        let bands := runOf ((d - 24) / 4 * 12) 12
        600 ≤ t.volt d ∧ (∀ b ∈ bands, s.volt b ≤ t.volt d) ∧ (t.volt d = 600 ∨ ∃ b ∈ bands, t.volt d = s.volt b)))) ∧
    (∀ (dom : Fin 50) (celsius : BitVec 8),
      let d := dom.val
      let n := celsius.toNat
      let reg := [Reg.PW_DOMAIN.HOT.at 0 d]
      let hot (t : State) : Bool := t.bit Reg.PW_DOMAIN.HOT 0 d
      (24 ≤ d → Yields (.bandHot dom celsius) s (fun t => t = s)) ∧
      (d < 24 → n < 105 → Yields (.bandHot dom celsius) s (fun t => s.WritesOnly t [])) ∧
      (d < 24 → 105 ≤ n → n < 115 → Yields (.bandHot dom celsius) s (fun t => hot t = true ∧ t.volt d = s.volt d ∧
        s.WritesOnly t reg)) ∧
      (d < 24 → 115 ≤ n → s.domainOn d = true → Yields (.bandHot dom celsius) s (fun t => hot t = true ∧ t.volt d = 550 ∧
        s.WritesOnly t reg)) ∧
      (hot s = false → Yields (.thermalClampStep dom celsius) s (fun t => t = s)) ∧
      (hot s = true → n < 100 → Yields (.thermalClampStep dom celsius) s (fun t => hot t = false ∧ t.volt d = s.volt d ∧
        s.WritesOnly t reg)) ∧
      (hot s = true → 100 ≤ n → n < 115 → 560 ≤ s.volt d → Yields (.thermalClampStep dom celsius) s (fun t => hot t = true ∧
        t.volt d = s.volt d - 10 ∧ s.WritesOnly t reg)) ∧
      (hot s = true → 115 ≤ n → 550 ≤ s.volt d → Yields (.thermalClampStep dom celsius) s (fun t => hot t = true ∧
        t.volt d = 550 ∧ s.WritesOnly t reg))) ∧
    (∀ (w : Fin 2),
      let code (t : State) (b : Nat) := t.fld Reg.WW_BAND.CODE w b
      let limit (b : Nat) := s.fld Reg.WW_BAND.CODE_LIMIT w b
      let guard : Int := s.fld Reg.WW_CTL.GUARD w
      let replans (t : State) (slack : Nat → Int) (cause : Nat) : Prop :=
        let next (b : Nat) := code s b + (guard - slack b).toNat
        (∀ b, b < 12 → code t b = min (limit b) (next b) ∧ t.fld Reg.WW_BAND.DRIFT w b = 0) ∧
        (t.bit Reg.WW_STATUS.WORN w = true ↔ s.bit Reg.WW_STATUS.WORN w = true ∨ ∃ b, b < 12 ∧ limit b < next b) ∧
        t.fld Reg.WW_STATUS.REPLANS w = min (2 ^ 32 - 1) (s.fld Reg.WW_STATUS.REPLANS w + 1) ∧
        t.fld Reg.WW_STATUS.LAST_CAUSE w = cause ∧ s.KeepsData t
      let now (b : Nat) : Int := signedOf 8 (s.fld Reg.WW_BAND.SLACK w b)
      (∀ slacks : List (BitVec 8), slacks.length = 12 →
        let found (b : Nat) : Int := signedOf 8 (slacks.getD b 0).toNat
        Yields (.wwReplan w slacks) s (fun t => replans t found 3) ∧
        (s.loaded w = true → Yields (.wwPeriodExpiry w slacks) s (fun t => replans t found 1)) ∧
        (s.loaded w = false → Yields (.wwPeriodExpiry w slacks) s (fun t => t = s))) ∧
      (∀ (band : Fin 12) (slack drift : BitVec 8) (beat : BitVec 10),
        let trigger := max 1 (s.fld Reg.WW_CTL.DRIFT_THR w)
        (drift.toNat < trigger → Yields (.wingwearMeasure w band slack drift beat) s (fun t =>
          t.fld Reg.WW_BAND.SLACK w band.val = slack.toNat ∧ t.fld Reg.WW_BAND.DRIFT w band.val = drift.toNat ∧
          t.fld Reg.WW_BAND.BEAT_PS w band.val = beat.toNat ∧ code t band.val = code s band.val ∧
          s.WritesOnly t [Reg.WW_BAND.CODE.at w band.val])) ∧
        (trigger ≤ drift.toNat → Yields (.wingwearMeasure w band slack drift beat) s (fun t =>
          replans t (fun b => if b = band.val then signedOf 8 slack.toNat else now b) 2 ∧
          t.fld Reg.WW_BAND.BEAT_PS w band.val = beat.toNat))))

/-! ### The host port -/

/-- R15, R21, R23, R307, R502, R503, R505 to R507, R509, R521, R528, R571, R582: accesses of the host, the hawk cores and the debug
port: a read of a register, which is held until its fuse and cfg fields have loaded; the accesses that change nothing and are
counted; BAR2 at the HBM tier and at a scratchpad word; and configuration requests. A module without power, or held in reset,
answers none. Model's choices: log entries 6 and 51. -/
def Obligations.HostAccess : Prop :=
  ∀ (s : State),
    let count := Reg.HI_BAD_ACCESS_COUNT.COUNT.at 0 0
    let counted (t : State) (bar reason : Nat) : Prop :=
      t.fld Reg.HI_BAD_ACCESS_COUNT.COUNT 0 = min (2 ^ 32 - 1) (s.fld Reg.HI_BAD_ACCESS_COUNT.COUNT 0 + 1) ∧
      t.fld Reg.HI_BAD_ACCESS_COUNT.BAR 0 = bar ∧ t.fld Reg.HI_BAD_ACCESS_COUNT.REASON 0 = reason
    let answers (t : State) (bs : List Byte) : Prop := t.host.answer = some bs ∧ t.host.answerPoisoned = false
    (∀ v : Word, s.up = false → Yields (.badAccessClear v) s (fun t => t = s)) ∧
    (∀ v : Word, s.up = true → Yields (.badAccessClear v) s (fun t =>
      t.fld Reg.HI_BAD_ACCESS_COUNT.COUNT 0 = (if v.getLsbD 32 then 0 else s.fld Reg.HI_BAD_ACCESS_COUNT.COUNT 0) ∧
      t.fld Reg.HI_BAD_ACCESS_COUNT.BAR 0 = s.fld Reg.HI_BAD_ACCESS_COUNT.BAR 0 ∧
      t.fld Reg.HI_BAD_ACCESS_COUNT.REASON 0 = s.fld Reg.HI_BAD_ACCESS_COUNT.REASON 0 ∧ s.WritesOnly t [count])) ∧
    (∀ r : ConfigReq,
      (s.host.perst = true ∨ s.up = false → Yields (.configRequest r) s (fun t => t = s)) ∧
      (s.host.perst = false → s.up = true → s.host.configReady = false → Yields (.configRequest r) s (fun t =>
        t.host.retryStatus = true ∧ t.host.answer = none ∧ s.WritesOnly t [])) ∧
      (s.host.perst = false → s.up = true → s.host.configReady = true → Yields (.configRequest r) s (fun t =>
        t.host.retryStatus = false ∧ s.WritesOnly t [] ∧
        (r = .vendorDevice → answers t [0x3A, 0x1F, if s.is544 0 then 0x91 else 0x90, 0x0C]) ∧
        (∀ n, r = .resizeBar2 n → t.host.barLog2 = if 30 ≤ n.toNat ∧ n.toNat ≤ 39 then n.toNat else s.host.barLog2) ∧
        ((∀ n, r ≠ .resizeBar2 n) → t.host.barLog2 = s.host.barLog2)))) ∧
    (∀ (w : Fin 2) (src : Src) (off : BitVec 25) (n : Nat) (v : Word),
      let o := off.toNat
      let read : Instr := .registerWrite w src off n true v
      let write : Instr := .registerWrite w src off n false v
      let outside : Prop := ¬ (w = 0 ∧ 0x1800000 ≤ o)
      let shown : Prop := src = .host → s.bit Reg.SC_BOOT_STATUS.RECOVERY 0 = false
      let aligned : Prop := (n = 4 ∨ n = 8) ∧ o % n = 0
      let row := s.rowAt w (o / 8 * 8)
      (s.up = false → Yields read s (fun t => t = s) ∧ Yields write s (fun t => t = s)) ∧
      (s.up = true → outside → shown → aligned → ∀ b p r, row = some (b, p, r) →
        let loaded : Prop := ∀ f ∈ r.fields, (f.tok = .fuse → s.board.fusesLoaded = true) ∧ (f.tok = .cfg → s.board.cfgLoaded = true)
        (loaded → b ≠ .pw → Yields read s (fun t => s.WritesOnly t [] ∧
          answers t (((leBytes 8 (s.reg (w.val * 0x2000000 + o / 8 * 8)).toNat).drop (o % 8)).take n))) ∧
        (¬ loaded → Yields read s (fun t => s.WritesOnly t [] ∧ t.host.answer = none ∧
          t.host.heldReads = s.host.heldReads ++ [(w, o, n)]))) ∧
      (s.up = true → outside → shown → ¬ aligned → src = .host → Yields read s (fun t => counted t 0 2 ∧
        answers t (List.replicate n 0) ∧ s.WritesOnly t [count])) ∧
      (s.up = true → outside → shown → aligned → row = none → src = .host → Yields read s (fun t => counted t 0 3 ∧
        answers t (List.replicate n 0) ∧ s.WritesOnly t [count])) ∧
      (s.up = true → outside → shown → row = none → src = .host → Yields write s (fun t => counted t 0 3 ∧ s.WritesOnly t [count])) ∧
      (s.up = true → outside → shown → row ≠ none → n ≠ 8 ∨ o % 8 ≠ 0 → Yields write s (fun t => counted t 0 1 ∧ s.WritesOnly t [count])) ∧
      (s.up = true → shown → n = 8 → src ≠ .program → ∀ f ∈ [Reg.TB_STEP_LEAD.LEAD_NS, Reg.AU_BREAK_STEP.STEP, Reg.PW_TARGET.BEAT_PS],
        o = f.at 0 0 → (f.blk = .pw → w = 0) → Yields write s (fun t => t.fld f w = getBits v f.lo f.width ∧
          s.WritesOnly t [f.at w 0]))) ∧
    (∀ (reg write : Bool) (w : Fin 2) (off : BitVec 25) (v : Word),
      let may : Prop := reg = true ∧ s.bit Reg.SC_BOOT_STATUS.DEBUG_UNLOCKED 0 = true ∧
        s.bit Reg.SC_OTP_STATE.DEBUG_DISABLED 0 = false ∧ off.toNat < 0x1800000
      (¬ may → Yields (.jtagAccess reg write w off v) s (fun t => t = s)) ∧
      (may → Yields (.jtagAccess reg write w off v) s (fun t =>
        exec (.registerWrite w .hawk (BitVec.ofNat 25 (off.toNat / 8 * 8)) 8 (!write) v) s = .next t))) ∧
    (∀ (off : BitVec 39) (data : List Byte) (n : Nat) (o : HbmOut) (re : RowErr) (tie : Bool),
      let write : Instr := .bar2Write off data [o] tie
      let read : Instr := .bar2Read off n [o] re
      let size := 2 ^ (s.host.barLog2 - 3)
      let k := off.toNat / size % 8
      let place := s.fld Reg.HI_BAR2_AP.OFFSET 0 k / size * size + off.toNat % size
      let w : Fin 2 := if s.bit Reg.HI_BAR2_AP.WING 0 k then 1 else 0
      let shown : Prop := s.up = true ∧ s.bit Reg.SC_BOOT_STATUS.RECOVERY 0 = false
      let valid : Prop := s.bit Reg.HI_BAR2_AP.VALID 0 k = true
      let hbm : Prop := place < 0x7800000000
      let scratch : Prop := 0x8000000000 ≤ place ∧ place < 0x8200000000
      let event := s.eventEntry 5 stWindowViolation (leBytes 8 2 ++ leBytes 8 off.toNat)
      let fails (reason : Nat) : Prop := Yields write s (fun t => counted t 1 reason ∧ s.Posts t event ∧ s.KeepsData t) ∧
        Yields read s (fun t => counted t 1 reason ∧ answers t (List.replicate n 0xFF) ∧ s.Posts t event ∧ s.KeepsData t)
      let sound : Prop := o.fails ≠ 3 ∧ s.stackFailed w (place / 2048 % 10) = false
      let u : Site := ⟨w, BitVec.ofNat 10 (place % 0x8000000000 / 2 ^ 23)⟩
      let row := place % 2 ^ 23 / 512
      (¬ shown → Yields write s (fun t => t = s) ∧ Yields read s (fun t => t = s)) ∧
      (shown → ¬ valid → fails 4) ∧
      (shown → valid → ¬ hbm → ¬ scratch → fails 5) ∧
      (shown → valid → hbm → s.hbmRefusal w .hostWrite 0 place = none → sound → data ≠ [] →
        place % 2048 + data.length ≤ 2048 → Yields write s (fun t => s.Stores t w place data ∧ t.tiles = s.tiles ∧
          t.host = s.host ∧ t.fld Reg.AU_TDC_TOTAL.TOTAL w = (s.countTdc w tie).fld Reg.AU_TDC_TOTAL.TOTAL w)) ∧
      (shown → valid → hbm → s.hbmRefusal w .hostRead 0 place = none → sound → o.bad = none →
        place / 2048 ∉ (s.wing w).poison → 0 < n → place % 2048 + n ≤ 2048 → Yields read s (fun t =>
          answers t (memRun s.mem (wingAddr w place) n) ∧ s.KeepsData t)) ∧
      (shown → valid → scratch → s.tileLive w u.tile.toNat = true → s.rowDown u row = false → re.bad = none → re.parity = false →
        ((sget (fun _ => none) (s.tile u).upsets row).bind (·.bad)) = none → place % 8 = 0 → n = 8 → Yields read s (fun t =>
          answers t (memRun s.mem (wingAddr w place) 8) ∧ s.KeepsData t)))

/-- R20, R278, R523, R527, R599, R601, R617, R636, R641, R642: the resets of the host port stop the rings, close the
apertures and leave the job; a link comes up or is lost; a warm reset stops a loaded job, keeps the HBM tier and loses the
scratchpads; and the links of the wing bridge. Model's choices: log entries 42 and 52. -/
def Obligations.ResetsAndLinks : Prop :=
  ∀ (s : State),
    let link := [Reg.HI_LINK_STATUS.UP.at 0 0]
    let port := Reg.HI_RING_CTL.ENABLE.at 0 0 :: (List.range 8).map (fun n => Reg.HI_BAR2_AP.VALID.at 0 n)
    let fresh (t : State) : Prop := t.bit Reg.HI_RING_CTL.ENABLE 0 = false ∧ t.bit Reg.HI_RING_CTL.RUNNING 0 = false ∧
      (∀ n, n < 8 → t.bit Reg.HI_BAR2_AP.VALID 0 n = false) ∧ t.host.vectors = [] ∧ t.host.waiting = s.host.waiting ∧
      t.host.written = s.host.written ∧ (∀ w, t.wing w = s.wing w)
    let noLink (t : State) : Prop := t.fld Reg.HI_LINK_STATUS.SPEED 0 = 0 ∧ t.fld Reg.HI_LINK_STATUS.WIDTH 0 = 0 ∧
      t.fld Reg.HI_LINK_STATUS.FLIT 0 = 0 ∧ t.bit Reg.HI_LINK_STATUS.UP 0 = false
    let downs (t : State) := t.fld Reg.HI_LINK_STATUS.DOWN_EVENTS 0
    (∀ c ∈ [Instr.functionLevelReset, .hotReset, .d3hotEntry], Yields c s (fun t => fresh t ∧ t.host.perst = s.host.perst ∧
      s.WritesOnly t port)) ∧
    Yields .pcieLinkDown s (fun t => fresh t ∧ noLink t ∧ downs t = min 0xFFFF (downs s + 1) ∧ s.WritesOnly t (link ++ port)) ∧
    Yields (.perstN true) s (fun t => fresh t ∧ noLink t ∧ downs t = downs s ∧ t.host.perst = true ∧
      s.WritesOnly t (link ++ port)) ∧
    Yields (.perstN false) s (fun t => t.host = { s.host with perst := false } ∧ s.WritesOnly t []) ∧
    (∀ (speed : BitVec 4) (width : BitVec 6) (flit : Bool),
      (s.host.perst = true → Yields (.pcieLinkUp speed width flit) s (fun t => t = s)) ∧
      (s.host.perst = false → Yields (.pcieLinkUp speed width flit) s (fun t =>
        t.fld Reg.HI_LINK_STATUS.SPEED 0 = speed.toNat ∧ t.fld Reg.HI_LINK_STATUS.WIDTH 0 = width.toNat ∧
        t.bit Reg.HI_LINK_STATUS.FLIT 0 = flit ∧ t.bit Reg.HI_LINK_STATUS.UP 0 = true ∧ downs t = downs s ∧
        s.WritesOnly t link))) ∧
    (∀ (w : Fin 2) (src : Src) (v : Word),
      let resets : Prop := s.up = true ∧ v.getLsbD 0 = true ∧ getBits v 8 8 = 0xA5 ∧ src ≠ .program
      (¬ resets → Yields (.cfReset w src v) s (fun t => t = s)) ∧
      (resets → s.Canonical → Yields (.cfReset w src v) s (fun t =>
        (∀ a, memRead t.mem a = if a % 2 ^ 48 < 0x8000000000 then memRead s.mem a else 0) ∧ t.tiles = [] ∧
        t.board.bootPending = true ∧ t.board.booted = false ∧ t.board.cause = 3 ∧ t.board.mainOn = s.board.mainOn ∧
        t.board.keepBank = (s.loaded 0 || s.loaded 1) ∧ t.cocoon.weightKey = s.cocoon.weightKey ∧
        t.cocoon.otpLog = s.cocoon.otpLog ∧ t.cocoon.nonce = none ∧ t.host.waiting = [] ∧
        (s.loaded 0 = false → s.loaded 1 = false → t.host.hostMem = s.host.hostMem) ∧
        (∀ x : Fin 2, t.loaded x = false ∧ (t.wing x).poison = (s.wing x).poison ∧ (t.wing x).batch = [] ∧
          (s.loaded x = true → s.loaded (1 - x) = false → s.bit Reg.CF_STOP_RECORD0.VALID x = false →
            t.bit Reg.CF_STOP_RECORD0.VALID x = true ∧ t.fld Reg.CF_STOP_RECORD0.STATUS x = stLinkLost ∧
            t.fld Reg.CF_STOP_RECORD0.SOURCE x = 7)) ∧
        t.fld Reg.SC_OTP_STATE.ROLLBACK 0 = s.fld Reg.SC_OTP_STATE.ROLLBACK 0))) ∧
    (∀ (w : Fin 2) (row : Fin 24),
      let ok (t : State) (i : Nat) : Bool := (t.fld Reg.MX_BRIDGE_STATUS.LINK_OK w).testBit i
      let reg := [Reg.MX_BRIDGE_STATUS.LINK_OK.at w 0]
      Yields (.bridgeLinkHandshake w row) s (fun t => (∀ i, ok t i = (decide (i = row.val) || ok s i)) ∧ s.WritesOnly t reg) ∧
      (s.Canonical → Yields (.bridgeLinkLost w row) s (fun t => ∃ x : State, s.WritesOnly x reg ∧
        (∀ i, ok x i = (!decide (i = row.val) && ok s i)) ∧ x.Stops t w stLinkLost 2 row.val (s.chip w))))

/-! ### The cocoon, management and the board -/

/-- R465, R567, R570 to R573, R575 to R577, R579 to R582, R585: the requests of the mailbox: none before the self-tests pass,
few in recovery, the signed ones only with a nonce and a good slot's signature; a limited change blows its fuses and is
logged, while two entries of the log remain. Model's choices: log entries 44 and 47. -/
def Obligations.Mailbox : Prop :=
  ∀ (s : State) (slot : BitVec 8) (keyHash : BitVec 384) (sg : Signed) (new : BitVec 32) (key : BitVec 256) (unwraps : Bool)
    (w : Fin 2) (part : Instar) (off len : BitVec 32) (img : Chrysalis) (final : Bool),
    let co := s.cocoon
    let otp (f : Fld) := s.fld f 0
    let replies (t : State) (st : Nat) (data : List Byte) : Prop :=
      t.cocoon.response = leBytes 1 st ++ List.replicate 3 0 ++ leBytes 4 (8 + data.length) ++ data ∧
      t.bit Reg.SC_MB_STATUS.BUSY 0 = false ∧ t.bit Reg.SC_MB_STATUS.DONE 0 = true ∧ t.fld Reg.SC_MB_STATUS.STATUS 0 = st ∧
      t.fld Reg.SC_MB_STATUS.RESP_LEN 0 = (8 + data.length) % 2 ^ 17 ∧ t.host.vector 1 = (s.host.vector 1).send ∧ s.KeepsData t
    let refused (t : State) (st : Nat) : Prop := replies t st [] ∧ t.cocoon.otpLog = co.otpLog ∧
      (∀ k, t.ownerHash k = s.ownerHash k) ∧ s.WritesOnly t [Reg.SC_MB_STATUS.BUSY.at 0 0]
    let inRecovery : List Instr := [.getInfo, .readOtpLog, .getNonce, .ledgerCert slot, .chrysalisWrite off len img final]
    let signed : List Instr := [.ownerAdd sg slot keyHash, .ownerRevoke sg slot, .rollbackCommit sg, .wsvnRaise sg new,
      .debugUnlock sg, .debugDisable sg, .weightKey sg key unwraps, .edgeKey sg w key unwraps, .zeroise sg]
    let others : List Instr := [.ownerClaim slot keyHash, .instarWrite part] ++ signed
    let up : Prop := s.bit Reg.SC_BOOT_STATUS.KAT_OK 0 = true
    let normal : Prop := up ∧ s.bit Reg.SC_BOOT_STATUS.RECOVERY 0 = false
    let verifies : Prop := s.slotGood sg.slot.toNat = true ∧ s.ownerHash sg.slot.toNat = sg.keyHash ∧ sg.sigOk = true ∧
      co.nonce ≠ none
    let entropy : Prop := s.bit Reg.SC_BOOT_STATUS.ENTROPY_OK 0 = true
    let room : Prop := otp Reg.SC_OTP_STATE.LOG_USED + 2 ≤ 128
    let logs (t : State) (kind slot old new : Nat) : Prop := replies t stOk [] ∧
      t.cocoon.otpLog = co.otpLog ++ [{ kind := kind, slot := slot, old := old, new := new, state := 1 }] ∧
      t.fld Reg.SC_OTP_STATE.LOG_USED 0 = otp Reg.SC_OTP_STATE.LOG_USED + 1
    let claims (t : State) : Prop := (∀ i, (t.fld Reg.SC_OTP_STATE.SLOT_WRITTEN 0).testBit i =
        (decide (i = slot.toNat) || (otp Reg.SC_OTP_STATE.SLOT_WRITTEN).testBit i)) ∧
      ∀ k, t.ownerHash k = if k = slot.toNat then keyHash else s.ownerHash k
    -- A change that is limited is refused without room, and otherwise leaves what `P` says.
    let limited (c : Instr) (kind slot old new : Nat) (P : State → Prop) : Prop :=
      (¬ room → Yields c s (fun t => refused t stBudgetRefused)) ∧ (room → Yields c s (fun t => logs t kind slot old new ∧ P t))
    (¬ up → ∀ c ∈ inRecovery ++ others, Yields c s (fun t => t = s)) ∧
    (up → s.bit Reg.SC_BOOT_STATUS.RECOVERY 0 = true → ∀ c ∈ others, Yields c s (fun t => refused t stPlanMismatch)) ∧
    (up → Yields .getInfo s (fun t => replies t stOk (leBytes 8 (s.reg (Reg.SC_BOOT_STATUS.BANK.at 0 0)).toNat ++
      leBytes 8 (s.reg (Reg.SC_OTP_STATE.ROLLBACK.at 0 0)).toNat ++ [0, 1, 2, 3].flatMap (fun k => digestBytes (s.ownerHash k))))) ∧
    (up → Yields .readOtpLog s (fun t => replies t stOk (co.otpLog.flatMap otpBytes) ∧ t.cocoon.otpLog = co.otpLog)) ∧
    (up → entropy → Yields .getNonce s (fun t => ∃ n : BitVec 256, t.cocoon.nonce = some n ∧ replies t stOk (leBytes 32 n.toNat))) ∧
    (up → ¬ entropy → Yields .getNonce s (fun t => refused t stAuthFailed ∧ t.cocoon.nonce = co.nonce)) ∧
    Yields .nonceLapse s (fun t => t.cocoon = { co with nonce := none } ∧ s.WritesOnly t []) ∧
    (up → 4 ≤ slot.toNat → Yields (.ledgerCert slot) s (fun t => refused t stPlanMismatch)) ∧
    (up → slot.toNat < 4 → s.slotGood slot.toNat = false ∨ ¬ entropy →
      Yields (.ledgerCert slot) s (fun t => refused t stAuthFailed)) ∧
    (up → s.slotGood slot.toNat = true → entropy → Yields (.ledgerCert slot) s (fun t => ∃ cert, replies t stOk cert)) ∧
    (normal → 4 ≤ slot.toNat ∨ otp Reg.SC_OTP_STATE.SLOT_WRITTEN ≠ 0 →
      Yields (.ownerClaim slot keyHash) s (fun t => refused t stPlanMismatch)) ∧
    (normal → slot.toNat < 4 → otp Reg.SC_OTP_STATE.SLOT_WRITTEN = 0 →
      limited (.ownerClaim slot keyHash) 0x10 slot.toNat 0 1 claims) ∧
    (normal → ∀ c ∈ signed, Yields c s (fun t => t.cocoon.nonce = none)) ∧
    (normal → ¬ verifies → slot.toNat < 4 → new.toNat ≤ 32 → ∀ c ∈ signed, Yields c s (fun t => refused t stAuthFailed)) ∧
    (normal → verifies →
      (slot.toNat < 4 → (otp Reg.SC_OTP_STATE.SLOT_WRITTEN).testBit slot.toNat = false →
        limited (.ownerAdd sg slot keyHash) 0x11 slot.toNat 0 1 claims) ∧
      (slot.toNat < 4 → s.revokeRefused slot.toNat = true →
        Yields (.ownerRevoke sg slot) s (fun t => refused t stPlanMismatch)) ∧
      (slot.toNat < 4 → s.revokeRefused slot.toNat = false →
        limited (.ownerRevoke sg slot) 0x12 slot.toNat 1 2 (fun t => ∀ i, (t.fld Reg.SC_OTP_STATE.SLOT_REVOKED 0).testBit i =
          (decide (i = slot.toNat) || (otp Reg.SC_OTP_STATE.SLOT_REVOKED).testBit i))) ∧
      (s.fld Reg.SC_BOOT_STATUS.SVN 0 ≤ otp Reg.SC_OTP_STATE.ROLLBACK →
        Yields (.rollbackCommit sg) s (fun t => refused t stPlanMismatch)) ∧
      (otp Reg.SC_OTP_STATE.ROLLBACK < s.fld Reg.SC_BOOT_STATUS.SVN 0 →
        limited (.rollbackCommit sg) 0x13 0 (otp Reg.SC_OTP_STATE.ROLLBACK) (s.fld Reg.SC_BOOT_STATUS.SVN 0)
          (fun t => t.fld Reg.SC_OTP_STATE.ROLLBACK 0 = s.fld Reg.SC_BOOT_STATUS.SVN 0)) ∧
      (new.toNat ≤ 32 → otp Reg.SC_OTP_STATE.WSVN < new.toNat →
        limited (.wsvnRaise sg new) 0x14 0 (otp Reg.SC_OTP_STATE.WSVN) new.toNat
          (fun t => t.fld Reg.SC_OTP_STATE.WSVN 0 = new.toNat)) ∧
      (s.bit Reg.SC_OTP_STATE.DEBUG_DISABLED 0 = true → ∀ c ∈ [Instr.debugUnlock sg, .debugDisable sg],
        Yields c s (fun t => refused t stPlanMismatch)) ∧
      (s.bit Reg.SC_OTP_STATE.DEBUG_DISABLED 0 = false →
        Yields (.debugUnlock sg) s (fun t => replies t stOk [] ∧ t.bit Reg.SC_BOOT_STATUS.DEBUG_UNLOCKED 0 = true) ∧
        limited (.debugDisable sg) 0x16 0 0 1 (fun t => t.bit Reg.SC_OTP_STATE.DEBUG_DISABLED 0 = true)) ∧
      (unwraps = false ∨ ¬ entropy → ∀ c ∈ [Instr.weightKey sg key unwraps, .edgeKey sg w key unwraps],
        Yields c s (fun t => refused t stAuthFailed ∧ t.cocoon.weightKey = co.weightKey ∧ t.cocoon.edgeKey = co.edgeKey)) ∧
      (unwraps = true → entropy →
        Yields (.weightKey sg key unwraps) s (fun t => replies t stOk [] ∧ t.cocoon.weightKey = some key ∧
          t.cocoon.edgeKey = co.edgeKey) ∧
        Yields (.edgeKey sg w key unwraps) s (fun t => replies t stOk [] ∧ t.cocoon.weightKey = co.weightKey ∧
          (∀ i, sget (fun _ => none) t.cocoon.edgeKey i = if i = w.val then some key else sget (fun _ => none) co.edgeKey i) ∧
          (∀ i, sget (fun _ => 0) t.cocoon.edgeCtr i = if i / 2 = w.val then 0 else sget (fun _ => 0) co.edgeCtr i) ∧
          (t.fld Reg.SC_EDGE_STATUS.KEY_VALID 0).testBit w.val = true)) ∧
      (¬ entropy → Yields (.zeroise sg) s (fun t => refused t stAuthFailed)) ∧
      (entropy → Yields (.zeroise sg) s (fun t => replies t stOk [] ∧ t.cocoon.weightKey = none ∧ t.cocoon.edgeKey = [] ∧
        t.fld Reg.SC_EDGE_STATUS.KEY_VALID 0 = 0))) ∧
    (let mine : Prop := part.serial = 0 ∨ part.serial = Config.serial
     let ok : Prop := s.slotGood part.ownerSlot.toNat = true ∧ part.ownerSigOk = true
     (normal → s.entriesOk part = false ∨ ¬ mine → Yields (.instarWrite part) s (fun t => refused t stPlanMismatch)) ∧
     (normal → s.entriesOk part = true → mine → ¬ ok → Yields (.instarWrite part) s (fun t => refused t stAuthFailed)) ∧
     (∀ i, normal → s.entriesOk part = true → mine → ok → s.newestInstar = some i →
       (part.ownerVer.toNat ≤ i.ownerVer.toNat → Yields (.instarWrite part) s (fun t => refused t stPlanMismatch)) ∧
       (i.ownerVer.toNat < part.ownerVer.toNat → Yields (.instarWrite part) s (fun t => replies t stOk [] ∧
         ∃ j : Instar, j.seq = i.seq + 1 ∧ j.ownerVer = part.ownerVer ∧ j.entries = part.entries ∧ j.codes = i.codes ∧
           j.otpDigest = i.otpDigest ∧
           (s.newestCopy = 1 → t.cocoon.instarB = some j ∧ t.cocoon.instarA = co.instarA) ∧
           (s.newestCopy ≠ 1 → t.cocoon.instarA = some j ∧ t.cocoon.instarB = co.instarB))))) ∧
    (let b := 1 - s.fld Reg.SC_BOOT_STATUS.BANK 0
     let banks (t : State) (x : Option Chrysalis) : Prop := ∀ i, t.bank i = if i = b then x else s.bank i
     (up → 0x4000000 < off.toNat + len.toNat →
       Yields (.chrysalisWrite off len img final) s (fun t => refused t stPlanMismatch ∧ ∀ i, t.bank i = s.bank i)) ∧
     (up → off.toNat + len.toNat ≤ 0x4000000 →
       (final = false → Yields (.chrysalisWrite off len img final) s (fun t => replies t stOk [] ∧ banks t none)) ∧
       (final = true → s.bankValid (some img) = true →
         Yields (.chrysalisWrite off len img final) s (fun t => replies t stOk [] ∧ banks t (some img))) ∧
       (final = true → s.bankValid (some img) = false →
         Yields (.chrysalisWrite off len img final) s (fun t => replies t stAuthFailed [] ∧ banks t none)))) ∧
    Yields .entropyHealthFail s (fun t => t.bit Reg.SC_BOOT_STATUS.ENTROPY_OK 0 = false ∧
      t.fld Reg.SC_BOOT_STATUS.BANK 0 = s.fld Reg.SC_BOOT_STATUS.BANK 0 ∧ s.WritesOnly t [Reg.SC_BOOT_STATUS.BANK.at 0 0])

/-- R524, R525, R540, R567, R571, R574: the SPDM responder, which answers once a version and the algorithms are agreed; the
MCTP endpoint's sensors, effecter and firmware update; and the FRU EEPROM. Model's choices: log entry 53. -/
def Obligations.Management : Prop :=
  ∀ (s : State) (slot : BitVec 8) (nonce : BitVec 256) (wantsSig : Bool),
    let up : Prop := s.bit Reg.SC_BOOT_STATUS.KAT_OK 0 = true
    let ready : Prop := up ∧ s.host.spdmVersion = true ∧ s.host.spdmAlgos = true
    let entropy : Prop := s.bit Reg.SC_BOOT_STATUS.ENTROPY_OK 0 = true
    let h := s.host
    let tells (t : State) (data : List Byte) : Prop := t.host.spdmResponse = data ∧ t.host.spdmSignature = none ∧ s.WritesOnly t []
    let signs (t : State) (data : List Byte) : Prop := t.host.spdmResponse = data ∧ t.host.spdmSignature ≠ none ∧ s.WritesOnly t []
    let answers (t : State) (bs : List Byte) : Prop := t.host.answer = some bs ∧ t.host.answerPoisoned = false
    let measured (i : BitVec 8) : List Byte := if i = 0 then [6]
      else if i = 0xFF then [1, 2, 3, 4, 5, 6].flatMap s.measurement else s.measurement i.toNat
    let asks : List Instr := [.getDigests, .getCertificate slot, .challenge slot nonce, .getMeasurements slot wantsSig nonce]
    (¬ up → Yields .getVersion s (fun t => t = s)) ∧
    (up → Yields .getVersion s (fun t => tells t [0x12] ∧ t.host.spdmVersion = true ∧ t.host.spdmAlgos = false)) ∧
    (¬ (up ∧ h.spdmVersion = true) → Yields .getCapabilities s (fun t => t = s) ∧
      ∀ a b, Yields (.negotiateAlgorithms a b) s (fun t => t = s)) ∧
    (up → h.spdmVersion = true → Yields .getCapabilities s (fun t => tells t [0x16, 0, 0, 0]) ∧
      ∀ a b, Yields (.negotiateAlgorithms a b) s (fun t => tells t [if a && b then 1 else 0] ∧ t.host.spdmAlgos = (a && b))) ∧
    (¬ ready → ∀ c ∈ asks, Yields c s (fun t => t = s)) ∧
    (ready → Yields .getDigests s (fun t => tells t (digestBytes (sha384 s.certChain))) ∧
      Yields (.getCertificate slot) s (fun t => tells t (if slot = 0 then s.certChain else [])) ∧
      (slot ≠ 0 → Yields (.challenge slot nonce) s (fun t => tells t [])) ∧
      (slot = 0 → entropy → Yields (.challenge slot nonce) s (fun t => signs t (digestBytes (sha384 s.certChain)))) ∧
      (slot = 0 → ¬ entropy → Yields (.challenge slot nonce) s (fun t => tells t [])) ∧
      (wantsSig = false → Yields (.getMeasurements slot wantsSig nonce) s (fun t => tells t (measured slot))) ∧
      (wantsSig = true → entropy → Yields (.getMeasurements slot wantsSig nonce) s (fun t => signs t (measured slot))) ∧
      (wantsSig = true → ¬ entropy → Yields (.getMeasurements slot wantsSig nonce) s (fun t => tells t []))) ∧
    (∀ (eid : BitVec 8) (id n : BitVec 16) (img : Chrysalis),
      let watts := n.toNat
      let cap := s.fld Reg.PW_BUDGET.HBM_CAP_W 0
      let ok : Prop := 800 ≤ watts ∧ watts ≤ 1800 ∧ 200 ≤ cap ∧ cap ≤ 480 ∧ 230 + cap + 328 ≤ watts
      let b := 1 - s.fld Reg.SC_BOOT_STATUS.BANK 0
      let c1 : Instr := .setEndpointId eid
      let c2 : Instr := .getSensorReading id n
      let c3 : Instr := .setNumericEffecterValue id n
      let c4 : Instr := .firmwareUpdate img
      (h.mctpUp = false → ∀ c ∈ [c1, c2, c3, c4], Yields c s (fun t => t = s)) ∧
      (h.mctpUp = true →
        (eid ≠ 0 → eid ≠ 0xFF → Yields c1 s (fun t => t.host = { h with eid := eid.toNat } ∧ s.WritesOnly t [])) ∧
        (eid = 0 ∨ eid = 0xFF → Yields c1 s (fun t => t = s)) ∧
        (id = 3 → Yields c2 s (fun t => answers t (leBytes 2 (s.fld Reg.PW_BUDGET.BUDGET_W 0)) ∧ s.WritesOnly t [])) ∧
        (id = 7 → Yields c2 s (fun t => answers t [BitVec.ofNat 8 s.jobSensor] ∧ s.WritesOnly t [])) ∧
        (1 ≤ id.toNat → id.toNat ≤ 6 → id ≠ 3 → Yields c2 s (fun t => answers t (leBytes 2 watts) ∧ s.WritesOnly t [])) ∧
        (id = 0 ∨ 8 ≤ id.toNat → Yields c2 s (fun t => t = s)) ∧
        (id ≠ 1 → Yields c3 s (fun t => t = s)) ∧
        (id = 1 → ok → Yields c3 s (fun t => answers t [BitVec.ofNat 8 stOk] ∧ t.fld Reg.PW_BUDGET.BUDGET_W 0 = watts ∧
          t.fld Reg.PW_BUDGET.HBM_CAP_W 0 = cap ∧ s.KeepsData t)) ∧
        (id = 1 → ¬ ok → Yields c3 s (fun t => answers t [BitVec.ofNat 8 stBudgetRefused] ∧
          t.bit Reg.PW_BUDGET.REFUSED 0 = true ∧ t.fld Reg.PW_BUDGET.BUDGET_W 0 = s.fld Reg.PW_BUDGET.BUDGET_W 0 ∧
          s.WritesOnly t [Reg.PW_BUDGET.BUDGET_W.at 0 0])) ∧
        (s.bankValid (some img) = true → Yields c4 s (fun t => answers t [BitVec.ofNat 8 stOk] ∧ s.WritesOnly t [] ∧
          ∀ i, t.bank i = if i = b then some img else s.bank i)) ∧
        (s.bankValid (some img) = false → Yields c4 s (fun t => answers t [BitVec.ofNat 8 stAuthFailed] ∧ s.WritesOnly t [] ∧
          ∀ i, t.bank i = if i = b then none else s.bank i)))) ∧
    (∀ (addr : BitVec 7) (off : BitVec 13) (n : Nat) (byte : Byte),
      let here : Prop := s.board.aux = true ∧ addr.toNat = 0x50 + s.board.straps
      (¬ here → Yields (.fruRead addr off n) s (fun t => t = s) ∧ Yields (.fruWrite addr off [byte]) s (fun t => t = s)) ∧
      (here → Yields (.fruRead addr off n) s (fun t => s.WritesOnly t [] ∧
          answers t ((List.range n).map (fun i => memRead h.fru ((off.toNat + i) % 8192)))) ∧
        Yields (.fruWrite addr off [byte]) s (fun t => s.WritesOnly t [] ∧
          ∀ a, memRead t.host.fru a = if a = off.toNat then byte else memRead h.fru a)))

/-- R20, R23, R567, R570, R571, R623, R626, R628, R631 to R635, R637, R640, R642: the pins, rails and faults of the board,
what a cold reset leaves, and the boot ROM. Model's choices: log entries 1 and 52. -/
def Obligations.PowerAndBoot : Prop :=
  ∀ (s : State),
    let b := s.board
    let held (b : Board) : Prop := b.mainOn = false ∨ b.modRst = true ∨ b.svcRst = true ∨ b.refclk = false
    let otp := Reg.SC_OTP_STATE.ROLLBACK.at 0 0
    let cold (t : State) (cause : Nat) : Prop :=
      (∀ a, t.reg a = if a = otp then s.reg a else resetVal a) ∧ t.mem = [] ∧ t.tiles = [] ∧ t.job.img = none ∧
      (∀ w, t.wing w = {}) ∧ t.host.written = [] ∧ t.host.hostMem = s.host.hostMem ∧ t.host.fru = s.host.fru ∧
      t.cocoon.otpLog = s.cocoon.otpLog ∧ t.cocoon.banks = s.cocoon.banks ∧ t.cocoon.weightKey = none ∧
      t.board.bootPending = true ∧ t.board.booted = false ∧ t.board.cause = cause
    -- All but the board's own pins is as it was.
    let calm (t : State) : Prop := s.WritesOnly t [] ∧ t.host = s.host ∧ t.cocoon = s.cocoon ∧ (∀ w, t.wing w = s.wing w) ∧
      t.board.booted = b.booted ∧ t.board.bootPending = b.bootPending
    -- A pin moves, and `P` says how; the reset that begins is recorded with its cause.
    let moves (c : Instr) (holds : Prop) (cause : Nat) (P : Board → Prop) : Prop :=
      (holds → ¬ held b → Yields c s (fun t => cold t cause ∧ P t.board)) ∧
      (¬ holds ∨ held b → Yields c s (fun t => calm t ∧ P t.board))
    (∀ p54 : Bool,
      let starts : Prop := p54 = true ∧ b.aux = true ∧ b.mayStart = true ∧ b.mainOn = false
      (starts → Yields (.pwrEnRise p54) s (fun t => cold t 0 ∧ t.board.pwrEn = true ∧ t.board.mainOn = true ∧
        t.board.latch = b.latch)) ∧
      (¬ starts → Yields (.pwrEnRise p54) s (fun t => calm t ∧ t.board = { b with pwrEn := true }))) ∧
    (∀ low1s : Bool, moves (.pwrEnFall low1s) (b.mainOn = true) 0 (fun x => x.mainOn = false ∧ x.pwrEn = false ∧
      x.latch = b.latch ∧ x.mayStart = (b.mayStart || low1s))) ∧
    (∀ e ∈ [(Instr.underV, 1), (.overV, 2), (.regFault, 3), (.thermal, 4)],
      (b.mainOn = true → moves e.1 True 0 (fun x => x.mainOn = false ∧ x.latch = e.2 ∧ x.mayStart = false ∧
        x.pwrEn = b.pwrEn)) ∧
      (b.mainOn = false → Yields e.1 s (fun t => t = s))) ∧
    (∀ low : Bool, moves (.modRstN low) (low = true) 1 (fun x => x.modRst = low ∧ x.svcRst = b.svcRst ∧ x.mainOn = b.mainOn) ∧
      moves (.svcRstN low) (low = true) 2 (fun x => x.svcRst = low ∧ x.modRst = b.modRst ∧ x.mainOn = b.mainOn) ∧
      moves (.modRefclkRange low) (low = false) 0 (fun x => x.refclk = low ∧ x.mainOn = b.mainOn) ∧
      Yields (.flSelN low) s (fun t => calm t ∧ t.board.flSel = low ∧ t.board.flashOut =
        (low && b.aux && (b.modRst || b.svcRst || !b.mainOn)))) ∧
    (moves (.p3v3Aux false) (b.mainOn = true) 0 (fun x => x.aux = false ∧ x.mainOn = false) ∧
      Yields (.p3v3Aux true) s (fun t => calm t ∧ t.board.aux = true ∧ t.board.mainOn = b.mainOn)) ∧
    (∀ sel : BitVec 2, Yields (.addrSelChange sel) s (fun t => calm t ∧ t.board = { b with straps := sel.toNat })) ∧
    (∀ katOk entropyOk : Bool,
      let boots : Prop := b.bootPending = true ∧ ¬ held b
      let passed : Prop := if b.cause = 3 then s.bit Reg.SC_BOOT_STATUS.KAT_OK 0 = true else katOk = true ∧ entropyOk = true
      let data (t : State) : Prop := t.board.bootPending = false ∧ t.host.configReady = true ∧ s.KeepsData t
      (¬ boots → Yields (.boot katOk entropyOk) s (fun t => t = s)) ∧
      (boots → ¬ passed → Yields (.boot katOk entropyOk) s (fun t => data t ∧ t.board.booted = b.booted ∧
        t.bit Reg.SC_BOOT_STATUS.KAT_OK 0 = false ∧ (b.cause ≠ 3 → t.board.uartFail = true) ∧
        ∀ w, t.fld Reg.CF_RESET_CAUSE.CAUSE w = b.cause % 16)) ∧
      (boots → passed → s.bankValid (s.bank 0) = false → s.bankValid (s.bank 1) = false →
        Yields (.boot katOk entropyOk) s (fun t => data t ∧ t.board.booted = b.booted ∧
          t.bit Reg.SC_BOOT_STATUS.RECOVERY 0 = true)) ∧
      (boots → passed → b.keepBank = false → ∀ (i : Nat) (c : Chrysalis), i < 2 → s.bank i = some c →
        s.bankValid (some c) = true → s.bankValid (s.bank (1 - i)) = false →
        Yields (.boot katOk entropyOk) s (fun t => data t ∧ t.board.booted = true ∧ t.board.cfgLoaded = true ∧ t.host.mctpUp = true ∧
          t.cocoon.booted = some c.digest ∧ t.fld Reg.SC_BOOT_STATUS.BANK 0 = i ∧ t.fld Reg.SC_BOOT_STATUS.SVN 0 = c.svn.toNat ∧
          t.bit Reg.SC_BOOT_STATUS.RECOVERY 0 = false)))

/-! ### Loading and restarting -/

/-- R497: while a job is loaded on a wing of a part that has booted, the loader refuses a further load with PLAN_MISMATCH,
which both wings record, and changes nothing else: the job stays as it is until it is unloaded or stopped. -/
def Obligations.LoadedJobRefusesLoad : Prop :=
  ∀ (i : Imago) (slacks : List (BitVec 8)) (s : State), s.board.booted = true →
    s.bit Reg.FB_JOB.LOADED 0 = true ∨ s.bit Reg.FB_JOB.LOADED 1 = true → Yields (.jobLoad i slacks) s (fun t =>
      (∀ w : Fin 2, t.bit Reg.CF_LOAD_STATUS.VALID w = true ∧ t.fld Reg.CF_LOAD_STATUS.STATUS w = stPlanMismatch ∧
        t.bit Reg.FB_JOB.LOADED w = s.bit Reg.FB_JOB.LOADED w ∧ t.wing w = s.wing w) ∧
      t.job = s.job ∧ t.host = s.host ∧ t.power = s.power ∧ t.cocoon = s.cocoon ∧ t.board = s.board ∧
      s.WritesOnly t [Reg.CF_LOAD_STATUS.VALID.at 0 0, Reg.CF_LOAD_STATUS.VALID.at 1 0])

/-- R395, R418, R443, R483, R495 to R497, R501, R604, R606, R612, R614, R619: a load is refused while a job is loaded, or
with the first check that fails, and recorded; a load that passes leaves the job loaded at its first step, which is 1 but in a
replay run, on chips 2m and 2m + 1 (R24); a restart resumes a stopped job at the step of its plan, unless a link of the bridge is
lost (R279); and a lost job is unloaded. Model's choices: log entry 48. -/
def Obligations.LoadAndRestart : Prop :=
  ∀ (s : State),
    let idle : Prop := s.loaded 0 = false ∧ s.loaded 1 = false
    let booted : Prop := s.board.booted = true
    let records (t : State) (r : LoadRefusal) : Prop :=
      (∀ w : Fin 2, t.bit Reg.CF_LOAD_STATUS.VALID w = true ∧ t.fld Reg.CF_LOAD_STATUS.STATUS w = r.status % 256 ∧
        t.fld Reg.CF_LOAD_STATUS.CHECK w = r.check % 16 ∧ t.fld Reg.CF_LOAD_STATUS.LCHIP w = r.lchip % 2 ^ 16 ∧
        t.fld Reg.CF_LOAD_STATUS.TILE w = r.tile % 1024 ∧ t.fld Reg.CF_LOAD_STATUS.CLASS w = r.cls % 16) ∧
      s.WritesOnly t [Reg.CF_LOAD_STATUS.VALID.at 0 0, Reg.CF_LOAD_STATUS.VALID.at 1 0]
    -- The fabric image gives routing entries and barriers, beside the chip number and `FB_JOB`.
    let routes (i : Imago) : Prop := ∀ e ∈ i.fabric, 0x200 ≤ e.2.1.toNat
    let loadedAt (t : State) (step : Word) : Prop :=
      ∀ w : Fin 2, t.loaded w = true ∧ t.fld Reg.FB_JOB.EPOCH w = (s.fld Reg.FB_JOB.EPOCH w + 1) % 256 ∧
        t.reg (Reg.TB_STEP.STEP.at w 0) = step
    (∀ (i : Imago) (slacks : List (BitVec 8)),
      (¬ booted → Yields (.jobLoad i slacks) s (fun t => t = s)) ∧
      (booted → ¬ idle → Yields (.jobLoad i slacks) s (fun t =>
        records t { status := stPlanMismatch, check := 0, lchip := i.lchip0.toNat })) ∧
      (∀ r, booted → idle → s.loadRefusal i = some r → Yields (.jobLoad i slacks) s (fun t => records t r)) ∧
      (booted → idle → s.loadRefusal i = none → routes i →
        let first := if i.replay then i.firstStep else 1
        Yields (.jobLoad i slacks) s (fun t => t.job.img = some i ∧ loadedAt t first ∧
          ∀ w : Fin 2, t.fld Reg.FB_CHIP_ID.CHIP w = 2 * i.modNum.toNat + w.val ∧
            t.reg (Reg.SV_COMMITTED.STEP.at w 0) = first - 1))) ∧
    (∀ p : RestartPlan,
      let running : Prop := s.bit Reg.AU_REPLAY.ENABLE 0 = true ∧ s.loaded 0 = true
      let whole : Prop := ∀ w, s.fld Reg.MX_BRIDGE_STATUS.LINK_OK w = 2 ^ 24 - 1
      let poisoned : Prop := s.reloadPoisoned 0 = true ∨ s.reloadPoisoned 1 = true
      (¬ running → ¬ booted ∨ ¬ idle → Yields (.jobRestart p) s (fun t => t = s)) ∧
      (booted → idle → (∃ st, p.lostJob = some st) → Yields (.jobRestart p) s (fun t => t.job.img = none ∧
        t.tiles = s.tiles ∧ ∀ w, (t.wing w).slots = [])) ∧
      (booted → idle → p.lostJob = none → poisoned → Yields (.jobRestart p) s (fun t => t = s)) ∧
      (booted → idle → p.lostJob = none → ¬ poisoned → (if p.spare then p.img else s.job.img) = none →
        Yields (.jobRestart p) s (fun t => t = s)) ∧
      (∀ i, booted → idle → p.lostJob = none → ¬ poisoned → (if p.spare then p.img else s.job.img) = some i → ¬ whole →
        Yields (.jobRestart p) s (fun t => records t { status := stLinkLost, check := 7, lchip := i.lchip0.toNat })) ∧
      (∀ i, booted → idle → p.lostJob = none → ¬ poisoned → p.spare = false → s.job.img = some i → whole → routes i →
        (∀ w, s.chip w ≠ 0xFFFF) → (∀ h ∈ (s.wing 0).handoffs, h.reply = none ∨ h.cancelled = true) → Yields (.jobRestart p) s (fun t => t.job.img = some i ∧ loadedAt t p.step ∧
          ∀ w : Fin 2, t.reg (Reg.SV_RESUME_STEP.STEP.at w 0) = p.step ∧ t.fld Reg.FB_CHIP_ID.CHIP w = s.chip w)))
end

