-- ==== Sys2Proof/Laws/Sparse.lean ====
section
/-!
SUPPORT. The laws of sparse data: what a key reads as after a write, and that every operation keeps the canonical form; the
same for memory (R26).
-/
namespace Sys2Proof.Machine

variable {α : Type}

/-! ### Reading after writing -/

@[simp] theorem sget_nil (d : Nat → α) (k : Nat) : sget d [] k = d k := rfl

theorem sget_cons (d : Nat → α) (j k : Nat) (v : α) (r : Sparse α) :
    sget d ((j, v) :: r) k = if k = j then v else sget d r k := rfl

theorem sget_sput_same (d : Nat → α) (k : Nat) (v : α) (l : Sparse α) : sget d (sput k v l) k = v := by
  induction l with
  | nil => simp [sput, sget]
  | cons e r ih =>
    obtain ⟨j, x⟩ := e
    simp only [sput]
    split
    · simp [sget]
    · split
      · simp [sget]
      · simp_all [sget]

theorem sget_sput_ne (d : Nat → α) {j k : Nat} (h : j ≠ k) (v : α) (l : Sparse α) : sget d (sput k v l) j = sget d l j := by
  induction l with
  | nil => simp [sput, sget, h]
  | cons e r ih =>
    obtain ⟨i, x⟩ := e
    simp only [sput]
    split
    · subst i; simp [sget, h]
    · split
      · simp [sget, h]
      · simp [sget, ih]

theorem sget_sdel_same (d : Nat → α) (k : Nat) (l : Sparse α) : sget d (sdel k l) k = d k := by
  induction l with
  | nil => rfl
  | cons e r ih =>
    obtain ⟨i, x⟩ := e
    by_cases hi : i = k
    · subst i; simpa [sdel] using ih
    · have : k ≠ i := fun h => hi h.symm
      simp_all [sdel, sget]

theorem sget_sdel_ne (d : Nat → α) {j k : Nat} (h : j ≠ k) (l : Sparse α) : sget d (sdel k l) j = sget d l j := by
  induction l with
  | nil => rfl
  | cons e r ih =>
    obtain ⟨i, x⟩ := e
    by_cases hi : i = k
    · subst i; simpa [sdel, sget, h] using ih
    · simp_all [sdel, sget]

variable [DecidableEq α]

@[simp] theorem sget_sset_same (d : Nat → α) (l : Sparse α) (k : Nat) (v : α) : sget d (sset d l k v) k = v := by
  unfold sset
  split
  · rename_i h; rw [sget_sdel_same, h]
  · exact sget_sput_same d k v l

theorem sget_sset_ne (d : Nat → α) (l : Sparse α) {j k : Nat} (h : j ≠ k) (v : α) :
    sget d (sset d l k v) j = sget d l j := by
  unfold sset
  split
  · exact sget_sdel_ne d h l
  · exact sget_sput_ne d h v l

theorem sget_sset (d : Nat → α) (l : Sparse α) (j k : Nat) (v : α) :
    sget d (sset d l k v) j = if j = k then v else sget d l j := by
  by_cases h : j = k
  · subst h; simp
  · simp [h, sget_sset_ne d l h v]

/-! ### The canonical form -/

omit [DecidableEq α] in
theorem sparseWf_nil (d : Nat → α) : SparseWf d [] := ⟨List.Pairwise.nil, by simp⟩

omit [DecidableEq α] in
theorem sparseWf_filter (d : Nat → α) (p : Nat × α → Bool) {l : Sparse α} (h : SparseWf d l) : SparseWf d (l.filter p) :=
  ⟨h.1.filter p, fun e he => h.2 e (List.mem_filter.1 he).1⟩

omit [DecidableEq α] in
theorem sparseWf_sput (d : Nat → α) {k : Nat} {v : α} (hv : v ≠ d k) {l : Sparse α} (h : SparseWf d l) :
    SparseWf d (sput k v l) ∧ ∀ m : Nat, m < k → (∀ e ∈ l, m < e.1) → ∀ e ∈ sput k v l, m < e.1 := by
  induction l with
  | nil =>
    refine ⟨⟨by simp [sput], ?_⟩, ?_⟩
    · simpa [sput] using hv
    · intro m hm _ e he
      simp only [sput, List.mem_singleton] at he
      subst he; exact hm
  | cons a r ih =>
    obtain ⟨j, x⟩ := a
    have hr : SparseWf d r := ⟨(List.pairwise_cons.1 h.1).2, fun e he => h.2 e (List.mem_cons_of_mem _ he)⟩
    have hj : ∀ e ∈ r, j < e.1 := fun e he => (List.pairwise_cons.1 h.1).1 e he
    have hx : x ≠ d j := h.2 (j, x) List.mem_cons_self
    simp only [sput]
    split
    · rename_i hk
      subst hk
      refine ⟨⟨List.pairwise_cons.2 ⟨hj, hr.1⟩, ?_⟩, ?_⟩
      · intro e he
        rcases List.mem_cons.1 he with rfl | he
        · exact hv
        · exact hr.2 e he
      · intro m hm hl e he
        rcases List.mem_cons.1 he with rfl | he
        · exact hm
        · exact hl e (List.mem_cons_of_mem _ he)
    · split
      · rename_i hk
        refine ⟨⟨List.pairwise_cons.2 ⟨?_, h.1⟩, ?_⟩, ?_⟩
        · intro e he
          rcases List.mem_cons.1 he with rfl | he
          · exact hk
          · exact Nat.lt_trans hk (hj e he)
        · intro e he
          rcases List.mem_cons.1 he with rfl | he
          · exact hv
          · exact h.2 e he
        · intro m hm hl e he
          rcases List.mem_cons.1 he with rfl | he
          · exact hm
          · exact hl e he
      · rename_i hne hlt
        have hjk : j < k := by omega
        obtain ⟨h1, h2⟩ := ih hr
        refine ⟨⟨List.pairwise_cons.2 ⟨h2 j hjk hj, h1.1⟩, ?_⟩, ?_⟩
        · intro e he
          rcases List.mem_cons.1 he with rfl | he
          · exact hx
          · exact h1.2 e he
        · intro m hm hl e he
          rcases List.mem_cons.1 he with rfl | he
          · exact hl _ List.mem_cons_self
          · exact h2 m hm (fun e he => hl e (List.mem_cons_of_mem _ he)) e he

theorem sparseWf_sset (d : Nat → α) {l : Sparse α} (h : SparseWf d l) (k : Nat) (v : α) : SparseWf d (sset d l k v) := by
  unfold sset
  split
  · exact sparseWf_filter d _ h
  · rename_i hv; exact (sparseWf_sput d hv h).1

theorem sparseWf_smap (d : Nat → α) (f : Nat → α → α) {l : Sparse α} (h : SparseWf d l) : SparseWf d (smap d f l) := by
  unfold smap
  refine ⟨List.Pairwise.filter _ ?_, ?_⟩
  · exact List.pairwise_map.2 (h.1.imp (fun hab => hab))
  · intro e he
    simpa using (List.mem_filter.1 he).2

/-! ### Memory -/

theorem cellsOf_bounds (a : Nat) (bs : List Byte) : ∀ c ∈ cellsOf a bs, a ≤ c.1 ∧ c.1 < a + bs.length ∧ c.2 ≠ memDefault c.1 := by
  induction bs generalizing a with
  | nil => simp [cellsOf]
  | cons b r ih =>
    intro c hc
    simp only [cellsOf] at hc
    split at hc
    · obtain ⟨h1, h2, h3⟩ := ih (a + 1) c hc
      simp only [List.length_cons]
      exact ⟨by omega, by omega, h3⟩
    · rename_i hb
      simp only [List.length_cons]
      rcases List.mem_cons.1 hc with rfl | hc
      · exact ⟨Nat.le_refl _, by omega, hb⟩
      · obtain ⟨h1, h2, h3⟩ := ih (a + 1) c hc
        exact ⟨by omega, by omega, h3⟩

theorem cellsOf_pairwise (a : Nat) (bs : List Byte) : (cellsOf a bs).Pairwise (fun x y => x.1 < y.1) := by
  induction bs generalizing a with
  | nil => simp [cellsOf]
  | cons b r ih =>
    simp only [cellsOf]
    split
    · exact ih (a + 1)
    · refine List.pairwise_cons.2 ⟨?_, ih (a + 1)⟩
      intro c hc
      have := (cellsOf_bounds (a + 1) r c hc).1
      show a < c.1
      omega

/-- Every write keeps the canonical form of memory. -/
theorem memWrite_wf {m : List Host.Cell} (h : Memory.wf m) (a : Nat) (bs : List Byte) : Memory.wf (memWrite m a bs) := by
  unfold memWrite
  refine ⟨?_, ?_⟩
  · refine List.pairwise_append.2 ⟨List.pairwise_append.2 ⟨h.1.filter _, cellsOf_pairwise a bs, ?_⟩, h.1.filter _, ?_⟩
    · intro x hx y hy
      have h1 : x.1 < a := by simpa using (List.mem_filter.1 hx).2
      have h2 := (cellsOf_bounds a bs y hy).1
      omega
    · intro x hx y hy
      have h2 : a + bs.length ≤ y.1 := by simpa using (List.mem_filter.1 hy).2
      rcases List.mem_append.1 hx with hx | hx
      · have h1 : x.1 < a := by simpa using (List.mem_filter.1 hx).2
        omega
      · have := (cellsOf_bounds a bs x hx).2.1
        omega
  · intro e he
    rcases List.mem_append.1 he with he | he
    · rcases List.mem_append.1 he with he | he
      · exact h.2 e (List.mem_filter.1 he).1
      · exact (cellsOf_bounds a bs e he).2.2
    · exact h.2 e (List.mem_filter.1 he).1

end Sys2Proof.Machine
end

