-- ==== Sys2Proof/Laws/State.lean ====
section
/-!
SUPPORT. Each field of the state after each setter: the one written holds the new value, every other is as before.
-/
namespace Sys2Proof.Machine

/-! ### setPending -/

@[simp] theorem State.setPending_pending (s : State) (x : List Instr) : (s.setPending x).pending = x := rfl
@[simp] theorem State.setPending_regs (s : State) (x : List Instr) : (s.setPending x).regs = s.regs := rfl
@[simp] theorem State.setPending_mem (s : State) (x : List Instr) : (s.setPending x).mem = s.mem := rfl
@[simp] theorem State.setPending_tiles (s : State) (x : List Instr) : (s.setPending x).tiles = s.tiles := rfl
@[simp] theorem State.setPending_wing0 (s : State) (x : List Instr) : (s.setPending x).wing0 = s.wing0 := rfl
@[simp] theorem State.setPending_wing1 (s : State) (x : List Instr) : (s.setPending x).wing1 = s.wing1 := rfl
@[simp] theorem State.setPending_host (s : State) (x : List Instr) : (s.setPending x).host = s.host := rfl
@[simp] theorem State.setPending_power (s : State) (x : List Instr) : (s.setPending x).power = s.power := rfl
@[simp] theorem State.setPending_cocoon (s : State) (x : List Instr) : (s.setPending x).cocoon = s.cocoon := rfl
@[simp] theorem State.setPending_board (s : State) (x : List Instr) : (s.setPending x).board = s.board := rfl
@[simp] theorem State.setPending_job (s : State) (x : List Instr) : (s.setPending x).job = s.job := rfl
@[simp] theorem State.setPending_freeTick (s : State) (x : List Instr) : (s.setPending x).freeTick = s.freeTick := rfl

/-! ### setRegs -/

@[simp] theorem State.setRegs_pending (s : State) (x : Sparse Word) : (s.setRegs x).pending = s.pending := rfl
@[simp] theorem State.setRegs_regs (s : State) (x : Sparse Word) : (s.setRegs x).regs = x := rfl
@[simp] theorem State.setRegs_mem (s : State) (x : Sparse Word) : (s.setRegs x).mem = s.mem := rfl
@[simp] theorem State.setRegs_tiles (s : State) (x : Sparse Word) : (s.setRegs x).tiles = s.tiles := rfl
@[simp] theorem State.setRegs_wing0 (s : State) (x : Sparse Word) : (s.setRegs x).wing0 = s.wing0 := rfl
@[simp] theorem State.setRegs_wing1 (s : State) (x : Sparse Word) : (s.setRegs x).wing1 = s.wing1 := rfl
@[simp] theorem State.setRegs_host (s : State) (x : Sparse Word) : (s.setRegs x).host = s.host := rfl
@[simp] theorem State.setRegs_power (s : State) (x : Sparse Word) : (s.setRegs x).power = s.power := rfl
@[simp] theorem State.setRegs_cocoon (s : State) (x : Sparse Word) : (s.setRegs x).cocoon = s.cocoon := rfl
@[simp] theorem State.setRegs_board (s : State) (x : Sparse Word) : (s.setRegs x).board = s.board := rfl
@[simp] theorem State.setRegs_job (s : State) (x : Sparse Word) : (s.setRegs x).job = s.job := rfl
@[simp] theorem State.setRegs_freeTick (s : State) (x : Sparse Word) : (s.setRegs x).freeTick = s.freeTick := rfl

/-! ### setMem -/

@[simp] theorem State.setMem_pending (s : State) (x : List Host.Cell) : (s.setMem x).pending = s.pending := rfl
@[simp] theorem State.setMem_regs (s : State) (x : List Host.Cell) : (s.setMem x).regs = s.regs := rfl
@[simp] theorem State.setMem_mem (s : State) (x : List Host.Cell) : (s.setMem x).mem = x := rfl
@[simp] theorem State.setMem_tiles (s : State) (x : List Host.Cell) : (s.setMem x).tiles = s.tiles := rfl
@[simp] theorem State.setMem_wing0 (s : State) (x : List Host.Cell) : (s.setMem x).wing0 = s.wing0 := rfl
@[simp] theorem State.setMem_wing1 (s : State) (x : List Host.Cell) : (s.setMem x).wing1 = s.wing1 := rfl
@[simp] theorem State.setMem_host (s : State) (x : List Host.Cell) : (s.setMem x).host = s.host := rfl
@[simp] theorem State.setMem_power (s : State) (x : List Host.Cell) : (s.setMem x).power = s.power := rfl
@[simp] theorem State.setMem_cocoon (s : State) (x : List Host.Cell) : (s.setMem x).cocoon = s.cocoon := rfl
@[simp] theorem State.setMem_board (s : State) (x : List Host.Cell) : (s.setMem x).board = s.board := rfl
@[simp] theorem State.setMem_job (s : State) (x : List Host.Cell) : (s.setMem x).job = s.job := rfl
@[simp] theorem State.setMem_freeTick (s : State) (x : List Host.Cell) : (s.setMem x).freeTick = s.freeTick := rfl

/-! ### setTiles -/

@[simp] theorem State.setTiles_pending (s : State) (x : Sparse Tile) : (s.setTiles x).pending = s.pending := rfl
@[simp] theorem State.setTiles_regs (s : State) (x : Sparse Tile) : (s.setTiles x).regs = s.regs := rfl
@[simp] theorem State.setTiles_mem (s : State) (x : Sparse Tile) : (s.setTiles x).mem = s.mem := rfl
@[simp] theorem State.setTiles_tiles (s : State) (x : Sparse Tile) : (s.setTiles x).tiles = x := rfl
@[simp] theorem State.setTiles_wing0 (s : State) (x : Sparse Tile) : (s.setTiles x).wing0 = s.wing0 := rfl
@[simp] theorem State.setTiles_wing1 (s : State) (x : Sparse Tile) : (s.setTiles x).wing1 = s.wing1 := rfl
@[simp] theorem State.setTiles_host (s : State) (x : Sparse Tile) : (s.setTiles x).host = s.host := rfl
@[simp] theorem State.setTiles_power (s : State) (x : Sparse Tile) : (s.setTiles x).power = s.power := rfl
@[simp] theorem State.setTiles_cocoon (s : State) (x : Sparse Tile) : (s.setTiles x).cocoon = s.cocoon := rfl
@[simp] theorem State.setTiles_board (s : State) (x : Sparse Tile) : (s.setTiles x).board = s.board := rfl
@[simp] theorem State.setTiles_job (s : State) (x : Sparse Tile) : (s.setTiles x).job = s.job := rfl
@[simp] theorem State.setTiles_freeTick (s : State) (x : Sparse Tile) : (s.setTiles x).freeTick = s.freeTick := rfl

/-! ### setWing0 -/

@[simp] theorem State.setWing0_pending (s : State) (x : Wing) : (s.setWing0 x).pending = s.pending := rfl
@[simp] theorem State.setWing0_regs (s : State) (x : Wing) : (s.setWing0 x).regs = s.regs := rfl
@[simp] theorem State.setWing0_mem (s : State) (x : Wing) : (s.setWing0 x).mem = s.mem := rfl
@[simp] theorem State.setWing0_tiles (s : State) (x : Wing) : (s.setWing0 x).tiles = s.tiles := rfl
@[simp] theorem State.setWing0_wing0 (s : State) (x : Wing) : (s.setWing0 x).wing0 = x := rfl
@[simp] theorem State.setWing0_wing1 (s : State) (x : Wing) : (s.setWing0 x).wing1 = s.wing1 := rfl
@[simp] theorem State.setWing0_host (s : State) (x : Wing) : (s.setWing0 x).host = s.host := rfl
@[simp] theorem State.setWing0_power (s : State) (x : Wing) : (s.setWing0 x).power = s.power := rfl
@[simp] theorem State.setWing0_cocoon (s : State) (x : Wing) : (s.setWing0 x).cocoon = s.cocoon := rfl
@[simp] theorem State.setWing0_board (s : State) (x : Wing) : (s.setWing0 x).board = s.board := rfl
@[simp] theorem State.setWing0_job (s : State) (x : Wing) : (s.setWing0 x).job = s.job := rfl
@[simp] theorem State.setWing0_freeTick (s : State) (x : Wing) : (s.setWing0 x).freeTick = s.freeTick := rfl

/-! ### setWing1 -/

@[simp] theorem State.setWing1_pending (s : State) (x : Wing) : (s.setWing1 x).pending = s.pending := rfl
@[simp] theorem State.setWing1_regs (s : State) (x : Wing) : (s.setWing1 x).regs = s.regs := rfl
@[simp] theorem State.setWing1_mem (s : State) (x : Wing) : (s.setWing1 x).mem = s.mem := rfl
@[simp] theorem State.setWing1_tiles (s : State) (x : Wing) : (s.setWing1 x).tiles = s.tiles := rfl
@[simp] theorem State.setWing1_wing0 (s : State) (x : Wing) : (s.setWing1 x).wing0 = s.wing0 := rfl
@[simp] theorem State.setWing1_wing1 (s : State) (x : Wing) : (s.setWing1 x).wing1 = x := rfl
@[simp] theorem State.setWing1_host (s : State) (x : Wing) : (s.setWing1 x).host = s.host := rfl
@[simp] theorem State.setWing1_power (s : State) (x : Wing) : (s.setWing1 x).power = s.power := rfl
@[simp] theorem State.setWing1_cocoon (s : State) (x : Wing) : (s.setWing1 x).cocoon = s.cocoon := rfl
@[simp] theorem State.setWing1_board (s : State) (x : Wing) : (s.setWing1 x).board = s.board := rfl
@[simp] theorem State.setWing1_job (s : State) (x : Wing) : (s.setWing1 x).job = s.job := rfl
@[simp] theorem State.setWing1_freeTick (s : State) (x : Wing) : (s.setWing1 x).freeTick = s.freeTick := rfl

/-! ### setHost -/

@[simp] theorem State.setHost_pending (s : State) (x : HostPort) : (s.setHost x).pending = s.pending := rfl
@[simp] theorem State.setHost_regs (s : State) (x : HostPort) : (s.setHost x).regs = s.regs := rfl
@[simp] theorem State.setHost_mem (s : State) (x : HostPort) : (s.setHost x).mem = s.mem := rfl
@[simp] theorem State.setHost_tiles (s : State) (x : HostPort) : (s.setHost x).tiles = s.tiles := rfl
@[simp] theorem State.setHost_wing0 (s : State) (x : HostPort) : (s.setHost x).wing0 = s.wing0 := rfl
@[simp] theorem State.setHost_wing1 (s : State) (x : HostPort) : (s.setHost x).wing1 = s.wing1 := rfl
@[simp] theorem State.setHost_host (s : State) (x : HostPort) : (s.setHost x).host = x := rfl
@[simp] theorem State.setHost_power (s : State) (x : HostPort) : (s.setHost x).power = s.power := rfl
@[simp] theorem State.setHost_cocoon (s : State) (x : HostPort) : (s.setHost x).cocoon = s.cocoon := rfl
@[simp] theorem State.setHost_board (s : State) (x : HostPort) : (s.setHost x).board = s.board := rfl
@[simp] theorem State.setHost_job (s : State) (x : HostPort) : (s.setHost x).job = s.job := rfl
@[simp] theorem State.setHost_freeTick (s : State) (x : HostPort) : (s.setHost x).freeTick = s.freeTick := rfl

/-! ### setPower -/

@[simp] theorem State.setPower_pending (s : State) (x : Power) : (s.setPower x).pending = s.pending := rfl
@[simp] theorem State.setPower_regs (s : State) (x : Power) : (s.setPower x).regs = s.regs := rfl
@[simp] theorem State.setPower_mem (s : State) (x : Power) : (s.setPower x).mem = s.mem := rfl
@[simp] theorem State.setPower_tiles (s : State) (x : Power) : (s.setPower x).tiles = s.tiles := rfl
@[simp] theorem State.setPower_wing0 (s : State) (x : Power) : (s.setPower x).wing0 = s.wing0 := rfl
@[simp] theorem State.setPower_wing1 (s : State) (x : Power) : (s.setPower x).wing1 = s.wing1 := rfl
@[simp] theorem State.setPower_host (s : State) (x : Power) : (s.setPower x).host = s.host := rfl
@[simp] theorem State.setPower_power (s : State) (x : Power) : (s.setPower x).power = x := rfl
@[simp] theorem State.setPower_cocoon (s : State) (x : Power) : (s.setPower x).cocoon = s.cocoon := rfl
@[simp] theorem State.setPower_board (s : State) (x : Power) : (s.setPower x).board = s.board := rfl
@[simp] theorem State.setPower_job (s : State) (x : Power) : (s.setPower x).job = s.job := rfl
@[simp] theorem State.setPower_freeTick (s : State) (x : Power) : (s.setPower x).freeTick = s.freeTick := rfl

/-! ### setCocoon -/

@[simp] theorem State.setCocoon_pending (s : State) (x : Cocoon) : (s.setCocoon x).pending = s.pending := rfl
@[simp] theorem State.setCocoon_regs (s : State) (x : Cocoon) : (s.setCocoon x).regs = s.regs := rfl
@[simp] theorem State.setCocoon_mem (s : State) (x : Cocoon) : (s.setCocoon x).mem = s.mem := rfl
@[simp] theorem State.setCocoon_tiles (s : State) (x : Cocoon) : (s.setCocoon x).tiles = s.tiles := rfl
@[simp] theorem State.setCocoon_wing0 (s : State) (x : Cocoon) : (s.setCocoon x).wing0 = s.wing0 := rfl
@[simp] theorem State.setCocoon_wing1 (s : State) (x : Cocoon) : (s.setCocoon x).wing1 = s.wing1 := rfl
@[simp] theorem State.setCocoon_host (s : State) (x : Cocoon) : (s.setCocoon x).host = s.host := rfl
@[simp] theorem State.setCocoon_power (s : State) (x : Cocoon) : (s.setCocoon x).power = s.power := rfl
@[simp] theorem State.setCocoon_cocoon (s : State) (x : Cocoon) : (s.setCocoon x).cocoon = x := rfl
@[simp] theorem State.setCocoon_board (s : State) (x : Cocoon) : (s.setCocoon x).board = s.board := rfl
@[simp] theorem State.setCocoon_job (s : State) (x : Cocoon) : (s.setCocoon x).job = s.job := rfl
@[simp] theorem State.setCocoon_freeTick (s : State) (x : Cocoon) : (s.setCocoon x).freeTick = s.freeTick := rfl

/-! ### setBoard -/

@[simp] theorem State.setBoard_pending (s : State) (x : Board) : (s.setBoard x).pending = s.pending := rfl
@[simp] theorem State.setBoard_regs (s : State) (x : Board) : (s.setBoard x).regs = s.regs := rfl
@[simp] theorem State.setBoard_mem (s : State) (x : Board) : (s.setBoard x).mem = s.mem := rfl
@[simp] theorem State.setBoard_tiles (s : State) (x : Board) : (s.setBoard x).tiles = s.tiles := rfl
@[simp] theorem State.setBoard_wing0 (s : State) (x : Board) : (s.setBoard x).wing0 = s.wing0 := rfl
@[simp] theorem State.setBoard_wing1 (s : State) (x : Board) : (s.setBoard x).wing1 = s.wing1 := rfl
@[simp] theorem State.setBoard_host (s : State) (x : Board) : (s.setBoard x).host = s.host := rfl
@[simp] theorem State.setBoard_power (s : State) (x : Board) : (s.setBoard x).power = s.power := rfl
@[simp] theorem State.setBoard_cocoon (s : State) (x : Board) : (s.setBoard x).cocoon = s.cocoon := rfl
@[simp] theorem State.setBoard_board (s : State) (x : Board) : (s.setBoard x).board = x := rfl
@[simp] theorem State.setBoard_job (s : State) (x : Board) : (s.setBoard x).job = s.job := rfl
@[simp] theorem State.setBoard_freeTick (s : State) (x : Board) : (s.setBoard x).freeTick = s.freeTick := rfl

/-! ### setJob -/

@[simp] theorem State.setJob_pending (s : State) (x : Job) : (s.setJob x).pending = s.pending := rfl
@[simp] theorem State.setJob_regs (s : State) (x : Job) : (s.setJob x).regs = s.regs := rfl
@[simp] theorem State.setJob_mem (s : State) (x : Job) : (s.setJob x).mem = s.mem := rfl
@[simp] theorem State.setJob_tiles (s : State) (x : Job) : (s.setJob x).tiles = s.tiles := rfl
@[simp] theorem State.setJob_wing0 (s : State) (x : Job) : (s.setJob x).wing0 = s.wing0 := rfl
@[simp] theorem State.setJob_wing1 (s : State) (x : Job) : (s.setJob x).wing1 = s.wing1 := rfl
@[simp] theorem State.setJob_host (s : State) (x : Job) : (s.setJob x).host = s.host := rfl
@[simp] theorem State.setJob_power (s : State) (x : Job) : (s.setJob x).power = s.power := rfl
@[simp] theorem State.setJob_cocoon (s : State) (x : Job) : (s.setJob x).cocoon = s.cocoon := rfl
@[simp] theorem State.setJob_board (s : State) (x : Job) : (s.setJob x).board = s.board := rfl
@[simp] theorem State.setJob_job (s : State) (x : Job) : (s.setJob x).job = x := rfl
@[simp] theorem State.setJob_freeTick (s : State) (x : Job) : (s.setJob x).freeTick = s.freeTick := rfl

/-! ### setFreeTick -/

@[simp] theorem State.setFreeTick_pending (s : State) (x : Nat) : (s.setFreeTick x).pending = s.pending := rfl
@[simp] theorem State.setFreeTick_regs (s : State) (x : Nat) : (s.setFreeTick x).regs = s.regs := rfl
@[simp] theorem State.setFreeTick_mem (s : State) (x : Nat) : (s.setFreeTick x).mem = s.mem := rfl
@[simp] theorem State.setFreeTick_tiles (s : State) (x : Nat) : (s.setFreeTick x).tiles = s.tiles := rfl
@[simp] theorem State.setFreeTick_wing0 (s : State) (x : Nat) : (s.setFreeTick x).wing0 = s.wing0 := rfl
@[simp] theorem State.setFreeTick_wing1 (s : State) (x : Nat) : (s.setFreeTick x).wing1 = s.wing1 := rfl
@[simp] theorem State.setFreeTick_host (s : State) (x : Nat) : (s.setFreeTick x).host = s.host := rfl
@[simp] theorem State.setFreeTick_power (s : State) (x : Nat) : (s.setFreeTick x).power = s.power := rfl
@[simp] theorem State.setFreeTick_cocoon (s : State) (x : Nat) : (s.setFreeTick x).cocoon = s.cocoon := rfl
@[simp] theorem State.setFreeTick_board (s : State) (x : Nat) : (s.setFreeTick x).board = s.board := rfl
@[simp] theorem State.setFreeTick_job (s : State) (x : Nat) : (s.setFreeTick x).job = s.job := rfl
@[simp] theorem State.setFreeTick_freeTick (s : State) (x : Nat) : (s.setFreeTick x).freeTick = x := rfl

end Sys2Proof.Machine
end

