-- ==== Sys2Proof/Laws/Registers.lean ====
section
/-!
SUPPORT. Registers, their fields, tiles, wings and memory read after a write: what each write changes, and that it
changes nothing else.
-/
namespace Sys2Proof.Machine

variable {α : Type}

/-! ### Fields of the state after the derived writes -/

@[simp] theorem State.setReg_pending (s : State) (a : Nat) (v : Word) : (s.setReg a v).pending = s.pending := by
  rw [State.setReg, State.setRegs_pending]
@[simp] theorem State.setReg_mem (s : State) (a : Nat) (v : Word) : (s.setReg a v).mem = s.mem := by
  rw [State.setReg, State.setRegs_mem]
@[simp] theorem State.setReg_tiles (s : State) (a : Nat) (v : Word) : (s.setReg a v).tiles = s.tiles := by
  rw [State.setReg, State.setRegs_tiles]
@[simp] theorem State.setReg_wing0 (s : State) (a : Nat) (v : Word) : (s.setReg a v).wing0 = s.wing0 := by
  rw [State.setReg, State.setRegs_wing0]
@[simp] theorem State.setReg_wing1 (s : State) (a : Nat) (v : Word) : (s.setReg a v).wing1 = s.wing1 := by
  rw [State.setReg, State.setRegs_wing1]
@[simp] theorem State.setReg_host (s : State) (a : Nat) (v : Word) : (s.setReg a v).host = s.host := by
  rw [State.setReg, State.setRegs_host]
@[simp] theorem State.setReg_power (s : State) (a : Nat) (v : Word) : (s.setReg a v).power = s.power := by
  rw [State.setReg, State.setRegs_power]
@[simp] theorem State.setReg_cocoon (s : State) (a : Nat) (v : Word) : (s.setReg a v).cocoon = s.cocoon := by
  rw [State.setReg, State.setRegs_cocoon]
@[simp] theorem State.setReg_board (s : State) (a : Nat) (v : Word) : (s.setReg a v).board = s.board := by
  rw [State.setReg, State.setRegs_board]
@[simp] theorem State.setReg_job (s : State) (a : Nat) (v : Word) : (s.setReg a v).job = s.job := by
  rw [State.setReg, State.setRegs_job]
@[simp] theorem State.setReg_freeTick (s : State) (a : Nat) (v : Word) : (s.setReg a v).freeTick = s.freeTick := by
  rw [State.setReg, State.setRegs_freeTick]

@[simp] theorem State.setTile_pending (s : State) (u : Site) (t : Tile) : (s.setTile u t).pending = s.pending := by
  rw [State.setTile, State.setTiles_pending]
@[simp] theorem State.setTile_regs (s : State) (u : Site) (t : Tile) : (s.setTile u t).regs = s.regs := by
  rw [State.setTile, State.setTiles_regs]
@[simp] theorem State.setTile_mem (s : State) (u : Site) (t : Tile) : (s.setTile u t).mem = s.mem := by
  rw [State.setTile, State.setTiles_mem]
@[simp] theorem State.setTile_wing0 (s : State) (u : Site) (t : Tile) : (s.setTile u t).wing0 = s.wing0 := by
  rw [State.setTile, State.setTiles_wing0]
@[simp] theorem State.setTile_wing1 (s : State) (u : Site) (t : Tile) : (s.setTile u t).wing1 = s.wing1 := by
  rw [State.setTile, State.setTiles_wing1]
@[simp] theorem State.setTile_host (s : State) (u : Site) (t : Tile) : (s.setTile u t).host = s.host := by
  rw [State.setTile, State.setTiles_host]
@[simp] theorem State.setTile_power (s : State) (u : Site) (t : Tile) : (s.setTile u t).power = s.power := by
  rw [State.setTile, State.setTiles_power]
@[simp] theorem State.setTile_cocoon (s : State) (u : Site) (t : Tile) : (s.setTile u t).cocoon = s.cocoon := by
  rw [State.setTile, State.setTiles_cocoon]
@[simp] theorem State.setTile_board (s : State) (u : Site) (t : Tile) : (s.setTile u t).board = s.board := by
  rw [State.setTile, State.setTiles_board]
@[simp] theorem State.setTile_job (s : State) (u : Site) (t : Tile) : (s.setTile u t).job = s.job := by
  rw [State.setTile, State.setTiles_job]
@[simp] theorem State.setTile_freeTick (s : State) (u : Site) (t : Tile) : (s.setTile u t).freeTick = s.freeTick := by
  rw [State.setTile, State.setTiles_freeTick]

@[simp] theorem State.writeRun_pending (s : State) (w : Fin 2) (off : Nat) (bs : List Byte) : (s.writeRun w off bs).pending = s.pending := by
  rw [State.writeRun, State.setMem_pending]
@[simp] theorem State.writeRun_regs (s : State) (w : Fin 2) (off : Nat) (bs : List Byte) : (s.writeRun w off bs).regs = s.regs := by
  rw [State.writeRun, State.setMem_regs]
@[simp] theorem State.writeRun_tiles (s : State) (w : Fin 2) (off : Nat) (bs : List Byte) : (s.writeRun w off bs).tiles = s.tiles := by
  rw [State.writeRun, State.setMem_tiles]
@[simp] theorem State.writeRun_wing0 (s : State) (w : Fin 2) (off : Nat) (bs : List Byte) : (s.writeRun w off bs).wing0 = s.wing0 := by
  rw [State.writeRun, State.setMem_wing0]
@[simp] theorem State.writeRun_wing1 (s : State) (w : Fin 2) (off : Nat) (bs : List Byte) : (s.writeRun w off bs).wing1 = s.wing1 := by
  rw [State.writeRun, State.setMem_wing1]
@[simp] theorem State.writeRun_host (s : State) (w : Fin 2) (off : Nat) (bs : List Byte) : (s.writeRun w off bs).host = s.host := by
  rw [State.writeRun, State.setMem_host]
@[simp] theorem State.writeRun_power (s : State) (w : Fin 2) (off : Nat) (bs : List Byte) : (s.writeRun w off bs).power = s.power := by
  rw [State.writeRun, State.setMem_power]
@[simp] theorem State.writeRun_cocoon (s : State) (w : Fin 2) (off : Nat) (bs : List Byte) : (s.writeRun w off bs).cocoon = s.cocoon := by
  rw [State.writeRun, State.setMem_cocoon]
@[simp] theorem State.writeRun_board (s : State) (w : Fin 2) (off : Nat) (bs : List Byte) : (s.writeRun w off bs).board = s.board := by
  rw [State.writeRun, State.setMem_board]
@[simp] theorem State.writeRun_job (s : State) (w : Fin 2) (off : Nat) (bs : List Byte) : (s.writeRun w off bs).job = s.job := by
  rw [State.writeRun, State.setMem_job]
@[simp] theorem State.writeRun_freeTick (s : State) (w : Fin 2) (off : Nat) (bs : List Byte) : (s.writeRun w off bs).freeTick = s.freeTick := by
  rw [State.writeRun, State.setMem_freeTick]

@[simp] theorem State.setFld_pending (s : State) (f : Fld) (w : Fin 2) (v i : Nat) : (s.setFld f w v i).pending = s.pending := by
  rw [State.setFld, State.setReg_pending]
@[simp] theorem State.setFld_mem (s : State) (f : Fld) (w : Fin 2) (v i : Nat) : (s.setFld f w v i).mem = s.mem := by
  rw [State.setFld, State.setReg_mem]
@[simp] theorem State.setFld_tiles (s : State) (f : Fld) (w : Fin 2) (v i : Nat) : (s.setFld f w v i).tiles = s.tiles := by
  rw [State.setFld, State.setReg_tiles]
@[simp] theorem State.setFld_wing0 (s : State) (f : Fld) (w : Fin 2) (v i : Nat) : (s.setFld f w v i).wing0 = s.wing0 := by
  rw [State.setFld, State.setReg_wing0]
@[simp] theorem State.setFld_wing1 (s : State) (f : Fld) (w : Fin 2) (v i : Nat) : (s.setFld f w v i).wing1 = s.wing1 := by
  rw [State.setFld, State.setReg_wing1]
@[simp] theorem State.setFld_host (s : State) (f : Fld) (w : Fin 2) (v i : Nat) : (s.setFld f w v i).host = s.host := by
  rw [State.setFld, State.setReg_host]
@[simp] theorem State.setFld_power (s : State) (f : Fld) (w : Fin 2) (v i : Nat) : (s.setFld f w v i).power = s.power := by
  rw [State.setFld, State.setReg_power]
@[simp] theorem State.setFld_cocoon (s : State) (f : Fld) (w : Fin 2) (v i : Nat) : (s.setFld f w v i).cocoon = s.cocoon := by
  rw [State.setFld, State.setReg_cocoon]
@[simp] theorem State.setFld_board (s : State) (f : Fld) (w : Fin 2) (v i : Nat) : (s.setFld f w v i).board = s.board := by
  rw [State.setFld, State.setReg_board]
@[simp] theorem State.setFld_job (s : State) (f : Fld) (w : Fin 2) (v i : Nat) : (s.setFld f w v i).job = s.job := by
  rw [State.setFld, State.setReg_job]
@[simp] theorem State.setFld_freeTick (s : State) (f : Fld) (w : Fin 2) (v i : Nat) : (s.setFld f w v i).freeTick = s.freeTick := by
  rw [State.setFld, State.setReg_freeTick]

@[simp] theorem State.addFld_pending (s : State) (f : Fld) (w : Fin 2) (v i : Nat) : (s.addFld f w v i).pending = s.pending := by
  rw [State.addFld, State.setFld_pending]
@[simp] theorem State.addFld_mem (s : State) (f : Fld) (w : Fin 2) (v i : Nat) : (s.addFld f w v i).mem = s.mem := by
  rw [State.addFld, State.setFld_mem]
@[simp] theorem State.addFld_tiles (s : State) (f : Fld) (w : Fin 2) (v i : Nat) : (s.addFld f w v i).tiles = s.tiles := by
  rw [State.addFld, State.setFld_tiles]
@[simp] theorem State.addFld_wing0 (s : State) (f : Fld) (w : Fin 2) (v i : Nat) : (s.addFld f w v i).wing0 = s.wing0 := by
  rw [State.addFld, State.setFld_wing0]
@[simp] theorem State.addFld_wing1 (s : State) (f : Fld) (w : Fin 2) (v i : Nat) : (s.addFld f w v i).wing1 = s.wing1 := by
  rw [State.addFld, State.setFld_wing1]
@[simp] theorem State.addFld_host (s : State) (f : Fld) (w : Fin 2) (v i : Nat) : (s.addFld f w v i).host = s.host := by
  rw [State.addFld, State.setFld_host]
@[simp] theorem State.addFld_power (s : State) (f : Fld) (w : Fin 2) (v i : Nat) : (s.addFld f w v i).power = s.power := by
  rw [State.addFld, State.setFld_power]
@[simp] theorem State.addFld_cocoon (s : State) (f : Fld) (w : Fin 2) (v i : Nat) : (s.addFld f w v i).cocoon = s.cocoon := by
  rw [State.addFld, State.setFld_cocoon]
@[simp] theorem State.addFld_board (s : State) (f : Fld) (w : Fin 2) (v i : Nat) : (s.addFld f w v i).board = s.board := by
  rw [State.addFld, State.setFld_board]
@[simp] theorem State.addFld_job (s : State) (f : Fld) (w : Fin 2) (v i : Nat) : (s.addFld f w v i).job = s.job := by
  rw [State.addFld, State.setFld_job]
@[simp] theorem State.addFld_freeTick (s : State) (f : Fld) (w : Fin 2) (v i : Nat) : (s.addFld f w v i).freeTick = s.freeTick := by
  rw [State.addFld, State.setFld_freeTick]

@[simp] theorem State.setTfld_pending (s : State) (u : Site) (f : Fld) (v i : Nat) : (s.setTfld u f v i).pending = s.pending := by
  rw [State.setTfld, State.setReg_pending]
@[simp] theorem State.setTfld_mem (s : State) (u : Site) (f : Fld) (v i : Nat) : (s.setTfld u f v i).mem = s.mem := by
  rw [State.setTfld, State.setReg_mem]
@[simp] theorem State.setTfld_tiles (s : State) (u : Site) (f : Fld) (v i : Nat) : (s.setTfld u f v i).tiles = s.tiles := by
  rw [State.setTfld, State.setReg_tiles]
@[simp] theorem State.setTfld_wing0 (s : State) (u : Site) (f : Fld) (v i : Nat) : (s.setTfld u f v i).wing0 = s.wing0 := by
  rw [State.setTfld, State.setReg_wing0]
@[simp] theorem State.setTfld_wing1 (s : State) (u : Site) (f : Fld) (v i : Nat) : (s.setTfld u f v i).wing1 = s.wing1 := by
  rw [State.setTfld, State.setReg_wing1]
@[simp] theorem State.setTfld_host (s : State) (u : Site) (f : Fld) (v i : Nat) : (s.setTfld u f v i).host = s.host := by
  rw [State.setTfld, State.setReg_host]
@[simp] theorem State.setTfld_power (s : State) (u : Site) (f : Fld) (v i : Nat) : (s.setTfld u f v i).power = s.power := by
  rw [State.setTfld, State.setReg_power]
@[simp] theorem State.setTfld_cocoon (s : State) (u : Site) (f : Fld) (v i : Nat) : (s.setTfld u f v i).cocoon = s.cocoon := by
  rw [State.setTfld, State.setReg_cocoon]
@[simp] theorem State.setTfld_board (s : State) (u : Site) (f : Fld) (v i : Nat) : (s.setTfld u f v i).board = s.board := by
  rw [State.setTfld, State.setReg_board]
@[simp] theorem State.setTfld_job (s : State) (u : Site) (f : Fld) (v i : Nat) : (s.setTfld u f v i).job = s.job := by
  rw [State.setTfld, State.setReg_job]
@[simp] theorem State.setTfld_freeTick (s : State) (u : Site) (f : Fld) (v i : Nat) : (s.setTfld u f v i).freeTick = s.freeTick := by
  rw [State.setTfld, State.setReg_freeTick]

@[simp] theorem State.addTfld_pending (s : State) (u : Site) (f : Fld) (v i : Nat) : (s.addTfld u f v i).pending = s.pending := by
  rw [State.addTfld, State.setTfld_pending]
@[simp] theorem State.addTfld_mem (s : State) (u : Site) (f : Fld) (v i : Nat) : (s.addTfld u f v i).mem = s.mem := by
  rw [State.addTfld, State.setTfld_mem]
@[simp] theorem State.addTfld_tiles (s : State) (u : Site) (f : Fld) (v i : Nat) : (s.addTfld u f v i).tiles = s.tiles := by
  rw [State.addTfld, State.setTfld_tiles]
@[simp] theorem State.addTfld_wing0 (s : State) (u : Site) (f : Fld) (v i : Nat) : (s.addTfld u f v i).wing0 = s.wing0 := by
  rw [State.addTfld, State.setTfld_wing0]
@[simp] theorem State.addTfld_wing1 (s : State) (u : Site) (f : Fld) (v i : Nat) : (s.addTfld u f v i).wing1 = s.wing1 := by
  rw [State.addTfld, State.setTfld_wing1]
@[simp] theorem State.addTfld_host (s : State) (u : Site) (f : Fld) (v i : Nat) : (s.addTfld u f v i).host = s.host := by
  rw [State.addTfld, State.setTfld_host]
@[simp] theorem State.addTfld_power (s : State) (u : Site) (f : Fld) (v i : Nat) : (s.addTfld u f v i).power = s.power := by
  rw [State.addTfld, State.setTfld_power]
@[simp] theorem State.addTfld_cocoon (s : State) (u : Site) (f : Fld) (v i : Nat) : (s.addTfld u f v i).cocoon = s.cocoon := by
  rw [State.addTfld, State.setTfld_cocoon]
@[simp] theorem State.addTfld_board (s : State) (u : Site) (f : Fld) (v i : Nat) : (s.addTfld u f v i).board = s.board := by
  rw [State.addTfld, State.setTfld_board]
@[simp] theorem State.addTfld_job (s : State) (u : Site) (f : Fld) (v i : Nat) : (s.addTfld u f v i).job = s.job := by
  rw [State.addTfld, State.setTfld_job]
@[simp] theorem State.addTfld_freeTick (s : State) (u : Site) (f : Fld) (v i : Nat) : (s.addTfld u f v i).freeTick = s.freeTick := by
  rw [State.addTfld, State.setTfld_freeTick]

@[simp] theorem State.setWing_pending (s : State) (w : Fin 2) (x : Wing) : (s.setWing w x).pending = s.pending := by
  unfold State.setWing; split
  · exact State.setWing0_pending s x
  · exact State.setWing1_pending s x
@[simp] theorem State.setWing_regs (s : State) (w : Fin 2) (x : Wing) : (s.setWing w x).regs = s.regs := by
  unfold State.setWing; split
  · exact State.setWing0_regs s x
  · exact State.setWing1_regs s x
@[simp] theorem State.setWing_mem (s : State) (w : Fin 2) (x : Wing) : (s.setWing w x).mem = s.mem := by
  unfold State.setWing; split
  · exact State.setWing0_mem s x
  · exact State.setWing1_mem s x
@[simp] theorem State.setWing_tiles (s : State) (w : Fin 2) (x : Wing) : (s.setWing w x).tiles = s.tiles := by
  unfold State.setWing; split
  · exact State.setWing0_tiles s x
  · exact State.setWing1_tiles s x
@[simp] theorem State.setWing_host (s : State) (w : Fin 2) (x : Wing) : (s.setWing w x).host = s.host := by
  unfold State.setWing; split
  · exact State.setWing0_host s x
  · exact State.setWing1_host s x
@[simp] theorem State.setWing_power (s : State) (w : Fin 2) (x : Wing) : (s.setWing w x).power = s.power := by
  unfold State.setWing; split
  · exact State.setWing0_power s x
  · exact State.setWing1_power s x
@[simp] theorem State.setWing_cocoon (s : State) (w : Fin 2) (x : Wing) : (s.setWing w x).cocoon = s.cocoon := by
  unfold State.setWing; split
  · exact State.setWing0_cocoon s x
  · exact State.setWing1_cocoon s x
@[simp] theorem State.setWing_board (s : State) (w : Fin 2) (x : Wing) : (s.setWing w x).board = s.board := by
  unfold State.setWing; split
  · exact State.setWing0_board s x
  · exact State.setWing1_board s x
@[simp] theorem State.setWing_job (s : State) (w : Fin 2) (x : Wing) : (s.setWing w x).job = s.job := by
  unfold State.setWing; split
  · exact State.setWing0_job s x
  · exact State.setWing1_job s x
@[simp] theorem State.setWing_freeTick (s : State) (w : Fin 2) (x : Wing) : (s.setWing w x).freeTick = s.freeTick := by
  unfold State.setWing; split
  · exact State.setWing0_freeTick s x
  · exact State.setWing1_freeTick s x

/-! ### A register after a write -/

@[simp] theorem State.reg_setReg_same (s : State) (a : Nat) (v : Word) : (s.setReg a v).reg a = v := by
  rw [State.reg, State.setReg, State.setRegs_regs]; exact sget_sset_same _ _ _ _
theorem State.reg_setReg_ne (s : State) {a b : Nat} (h : b ≠ a) (v : Word) : (s.setReg a v).reg b = s.reg b := by
  rw [State.reg, State.setReg, State.setRegs_regs]; exact sget_sset_ne _ _ h _
theorem State.reg_setFld_ne (s : State) {f : Fld} {w : Fin 2} {i b : Nat} (h : b ≠ f.at w i) (v : Nat) :
    (s.setFld f w v i).reg b = s.reg b := by
  rw [State.setFld]; exact State.reg_setReg_ne s h _
theorem State.reg_addFld_ne (s : State) {f : Fld} {w : Fin 2} {i b : Nat} (h : b ≠ f.at w i) (v : Nat) :
    (s.addFld f w v i).reg b = s.reg b := by
  rw [State.addFld]; exact State.reg_setFld_ne s h _
theorem State.reg_setTfld_ne (s : State) {u : Site} {f : Fld} {i b : Nat} (h : b ≠ f.on u i) (v : Nat) :
    (s.setTfld u f v i).reg b = s.reg b := by
  rw [State.setTfld]; exact State.reg_setReg_ne s h _
theorem State.reg_addTfld_ne (s : State) {u : Site} {f : Fld} {i b : Nat} (h : b ≠ f.on u i) (v : Nat) :
    (s.addTfld u f v i).reg b = s.reg b := by
  rw [State.addTfld]; exact State.reg_setTfld_ne s h _
@[simp] theorem State.reg_setTile (s : State) (u : Site) (t : Tile) (a : Nat) : (s.setTile u t).reg a = s.reg a := by
  rw [State.reg, State.reg, State.setTile_regs]
@[simp] theorem State.reg_writeRun (s : State) (w : Fin 2) (off : Nat) (bs : List Byte) (a : Nat) : (s.writeRun w off bs).reg a = s.reg a := by
  rw [State.reg, State.reg, State.writeRun_regs]
@[simp] theorem State.reg_setPending (s : State) (x : List Instr) (a : Nat) : (s.setPending x).reg a = s.reg a := by
  rw [State.reg, State.reg, State.setPending_regs]
@[simp] theorem State.reg_setMem (s : State) (x : List Host.Cell) (a : Nat) : (s.setMem x).reg a = s.reg a := by
  rw [State.reg, State.reg, State.setMem_regs]
@[simp] theorem State.reg_setTiles (s : State) (x : Sparse Tile) (a : Nat) : (s.setTiles x).reg a = s.reg a := by
  rw [State.reg, State.reg, State.setTiles_regs]
@[simp] theorem State.reg_setWing0 (s : State) (x : Wing) (a : Nat) : (s.setWing0 x).reg a = s.reg a := by
  rw [State.reg, State.reg, State.setWing0_regs]
@[simp] theorem State.reg_setWing1 (s : State) (x : Wing) (a : Nat) : (s.setWing1 x).reg a = s.reg a := by
  rw [State.reg, State.reg, State.setWing1_regs]
@[simp] theorem State.reg_setHost (s : State) (x : HostPort) (a : Nat) : (s.setHost x).reg a = s.reg a := by
  rw [State.reg, State.reg, State.setHost_regs]
@[simp] theorem State.reg_setPower (s : State) (x : Power) (a : Nat) : (s.setPower x).reg a = s.reg a := by
  rw [State.reg, State.reg, State.setPower_regs]
@[simp] theorem State.reg_setCocoon (s : State) (x : Cocoon) (a : Nat) : (s.setCocoon x).reg a = s.reg a := by
  rw [State.reg, State.reg, State.setCocoon_regs]
@[simp] theorem State.reg_setBoard (s : State) (x : Board) (a : Nat) : (s.setBoard x).reg a = s.reg a := by
  rw [State.reg, State.reg, State.setBoard_regs]
@[simp] theorem State.reg_setJob (s : State) (x : Job) (a : Nat) : (s.setJob x).reg a = s.reg a := by
  rw [State.reg, State.reg, State.setJob_regs]
@[simp] theorem State.reg_setFreeTick (s : State) (x : Nat) (a : Nat) : (s.setFreeTick x).reg a = s.reg a := by
  rw [State.reg, State.reg, State.setFreeTick_regs]
@[simp] theorem State.reg_setWing (s : State) (w : Fin 2) (x : Wing) (a : Nat) : (s.setWing w x).reg a = s.reg a := by
  rw [State.reg, State.reg, State.setWing_regs]

/-! ### A tile after a write -/

theorem tileKey_inj {u v : Site} (h : tileKey u = tileKey v) : u = v := by
  cases u with | mk w t => cases v with | mk w' t' =>
  simp only [tileKey] at h
  have h1 := t.isLt; have h2 := t'.isLt
  have hw : w = w' := Fin.ext (by omega)
  have ht : t = t' := BitVec.eq_of_toNat_eq (by omega)
  rw [hw, ht]
@[simp] theorem State.tile_setTile_same (s : State) (u : Site) (t : Tile) : (s.setTile u t).tile u = t := by
  rw [State.tile, State.setTile, State.setTiles_tiles]; exact sget_sset_same _ _ _ _
theorem State.tile_setTile_ne (s : State) {u v : Site} (h : v ≠ u) (t : Tile) : (s.setTile u t).tile v = s.tile v := by
  rw [State.tile, State.setTile, State.setTiles_tiles]; exact sget_sset_ne _ _ (fun e => h (tileKey_inj e)) _
@[simp] theorem State.tile_setReg (s : State) (a : Nat) (v : Word) (u : Site) : (s.setReg a v).tile u = s.tile u := by
  rw [State.tile, State.tile, State.setReg_tiles]
@[simp] theorem State.tile_setFld (s : State) (f : Fld) (w : Fin 2) (v i : Nat) (u : Site) : (s.setFld f w v i).tile u = s.tile u := by
  rw [State.tile, State.tile, State.setFld_tiles]
@[simp] theorem State.tile_addFld (s : State) (f : Fld) (w : Fin 2) (v i : Nat) (u : Site) : (s.addFld f w v i).tile u = s.tile u := by
  rw [State.tile, State.tile, State.addFld_tiles]
@[simp] theorem State.tile_setTfld (s : State) (x : Site) (f : Fld) (v i : Nat) (u : Site) : (s.setTfld x f v i).tile u = s.tile u := by
  rw [State.tile, State.tile, State.setTfld_tiles]
@[simp] theorem State.tile_addTfld (s : State) (x : Site) (f : Fld) (v i : Nat) (u : Site) : (s.addTfld x f v i).tile u = s.tile u := by
  rw [State.tile, State.tile, State.addTfld_tiles]
@[simp] theorem State.tile_writeRun (s : State) (w : Fin 2) (off : Nat) (bs : List Byte) (u : Site) : (s.writeRun w off bs).tile u = s.tile u := by
  rw [State.tile, State.tile, State.writeRun_tiles]
@[simp] theorem State.tile_setPending (s : State) (x : List Instr) (u : Site) : (s.setPending x).tile u = s.tile u := by
  rw [State.tile, State.tile, State.setPending_tiles]
@[simp] theorem State.tile_setRegs (s : State) (x : Sparse Word) (u : Site) : (s.setRegs x).tile u = s.tile u := by
  rw [State.tile, State.tile, State.setRegs_tiles]
@[simp] theorem State.tile_setMem (s : State) (x : List Host.Cell) (u : Site) : (s.setMem x).tile u = s.tile u := by
  rw [State.tile, State.tile, State.setMem_tiles]
@[simp] theorem State.tile_setWing0 (s : State) (x : Wing) (u : Site) : (s.setWing0 x).tile u = s.tile u := by
  rw [State.tile, State.tile, State.setWing0_tiles]
@[simp] theorem State.tile_setWing1 (s : State) (x : Wing) (u : Site) : (s.setWing1 x).tile u = s.tile u := by
  rw [State.tile, State.tile, State.setWing1_tiles]
@[simp] theorem State.tile_setHost (s : State) (x : HostPort) (u : Site) : (s.setHost x).tile u = s.tile u := by
  rw [State.tile, State.tile, State.setHost_tiles]
@[simp] theorem State.tile_setPower (s : State) (x : Power) (u : Site) : (s.setPower x).tile u = s.tile u := by
  rw [State.tile, State.tile, State.setPower_tiles]
@[simp] theorem State.tile_setCocoon (s : State) (x : Cocoon) (u : Site) : (s.setCocoon x).tile u = s.tile u := by
  rw [State.tile, State.tile, State.setCocoon_tiles]
@[simp] theorem State.tile_setBoard (s : State) (x : Board) (u : Site) : (s.setBoard x).tile u = s.tile u := by
  rw [State.tile, State.tile, State.setBoard_tiles]
@[simp] theorem State.tile_setJob (s : State) (x : Job) (u : Site) : (s.setJob x).tile u = s.tile u := by
  rw [State.tile, State.tile, State.setJob_tiles]
@[simp] theorem State.tile_setFreeTick (s : State) (x : Nat) (u : Site) : (s.setFreeTick x).tile u = s.tile u := by
  rw [State.tile, State.tile, State.setFreeTick_tiles]
@[simp] theorem State.tile_setWing (s : State) (w : Fin 2) (x : Wing) (u : Site) : (s.setWing w x).tile u = s.tile u := by
  rw [State.tile, State.tile, State.setWing_tiles]

/-! ### A wing after a write -/

@[simp] theorem State.wing_setWing_same (s : State) (w : Fin 2) (x : Wing) : (s.setWing w x).wing w = x := by
  unfold State.setWing State.wing; split
  · exact State.setWing0_wing0 s x
  · exact State.setWing1_wing1 s x
theorem State.wing_setWing_ne (s : State) {w v : Fin 2} (h : v ≠ w) (x : Wing) : (s.setWing w x).wing v = s.wing v := by
  unfold State.setWing State.wing
  by_cases h0 : w = 0
  · have hv : v ≠ 0 := fun e => h (e.trans h0.symm)
    rw [if_pos h0, if_neg hv, if_neg hv, State.setWing0_wing1]
  · have hv : v = 0 := by omega
    rw [if_neg h0, if_pos hv, if_pos hv, State.setWing1_wing0]
@[simp] theorem State.wing_setReg (s : State) (a : Nat) (v : Word) (w : Fin 2) : (s.setReg a v).wing w = s.wing w := by
  rw [State.wing, State.wing, State.setReg_wing0, State.setReg_wing1]
@[simp] theorem State.wing_setFld (s : State) (f : Fld) (x : Fin 2) (v i : Nat) (w : Fin 2) : (s.setFld f x v i).wing w = s.wing w := by
  rw [State.wing, State.wing, State.setFld_wing0, State.setFld_wing1]
@[simp] theorem State.wing_addFld (s : State) (f : Fld) (x : Fin 2) (v i : Nat) (w : Fin 2) : (s.addFld f x v i).wing w = s.wing w := by
  rw [State.wing, State.wing, State.addFld_wing0, State.addFld_wing1]
@[simp] theorem State.wing_setTfld (s : State) (u : Site) (f : Fld) (v i : Nat) (w : Fin 2) : (s.setTfld u f v i).wing w = s.wing w := by
  rw [State.wing, State.wing, State.setTfld_wing0, State.setTfld_wing1]
@[simp] theorem State.wing_addTfld (s : State) (u : Site) (f : Fld) (v i : Nat) (w : Fin 2) : (s.addTfld u f v i).wing w = s.wing w := by
  rw [State.wing, State.wing, State.addTfld_wing0, State.addTfld_wing1]
@[simp] theorem State.wing_setTile (s : State) (u : Site) (t : Tile) (w : Fin 2) : (s.setTile u t).wing w = s.wing w := by
  rw [State.wing, State.wing, State.setTile_wing0, State.setTile_wing1]
@[simp] theorem State.wing_writeRun (s : State) (x : Fin 2) (off : Nat) (bs : List Byte) (w : Fin 2) : (s.writeRun x off bs).wing w = s.wing w := by
  rw [State.wing, State.wing, State.writeRun_wing0, State.writeRun_wing1]
@[simp] theorem State.wing_setPending (s : State) (x : List Instr) (w : Fin 2) : (s.setPending x).wing w = s.wing w := by
  rw [State.wing, State.wing, State.setPending_wing0, State.setPending_wing1]
@[simp] theorem State.wing_setRegs (s : State) (x : Sparse Word) (w : Fin 2) : (s.setRegs x).wing w = s.wing w := by
  rw [State.wing, State.wing, State.setRegs_wing0, State.setRegs_wing1]
@[simp] theorem State.wing_setMem (s : State) (x : List Host.Cell) (w : Fin 2) : (s.setMem x).wing w = s.wing w := by
  rw [State.wing, State.wing, State.setMem_wing0, State.setMem_wing1]
@[simp] theorem State.wing_setTiles (s : State) (x : Sparse Tile) (w : Fin 2) : (s.setTiles x).wing w = s.wing w := by
  rw [State.wing, State.wing, State.setTiles_wing0, State.setTiles_wing1]
@[simp] theorem State.wing_setHost (s : State) (x : HostPort) (w : Fin 2) : (s.setHost x).wing w = s.wing w := by
  rw [State.wing, State.wing, State.setHost_wing0, State.setHost_wing1]
@[simp] theorem State.wing_setPower (s : State) (x : Power) (w : Fin 2) : (s.setPower x).wing w = s.wing w := by
  rw [State.wing, State.wing, State.setPower_wing0, State.setPower_wing1]
@[simp] theorem State.wing_setCocoon (s : State) (x : Cocoon) (w : Fin 2) : (s.setCocoon x).wing w = s.wing w := by
  rw [State.wing, State.wing, State.setCocoon_wing0, State.setCocoon_wing1]
@[simp] theorem State.wing_setBoard (s : State) (x : Board) (w : Fin 2) : (s.setBoard x).wing w = s.wing w := by
  rw [State.wing, State.wing, State.setBoard_wing0, State.setBoard_wing1]
@[simp] theorem State.wing_setJob (s : State) (x : Job) (w : Fin 2) : (s.setJob x).wing w = s.wing w := by
  rw [State.wing, State.wing, State.setJob_wing0, State.setJob_wing1]
@[simp] theorem State.wing_setFreeTick (s : State) (x : Nat) (w : Fin 2) : (s.setFreeTick x).wing w = s.wing w := by
  rw [State.wing, State.wing, State.setFreeTick_wing0, State.setFreeTick_wing1]

/-! ### Fields of a register -/

theorem two_pow_split {lo width : Nat} (h : lo + width ≤ 64) : 2 ^ 64 = 2 ^ lo * 2 ^ width * 2 ^ (64 - (lo + width)) := by
  rw [← Nat.pow_add, ← Nat.pow_add]; congr 1; omega

/-- Bit by bit: the replaced field holds `x`, every other bit is as before. -/
theorem testBit_setBits (v : Word) {lo width : Nat} (h : lo + width ≤ 64) (x k : Nat) :
    (setBits v lo width x).toNat.testBit k =
      if lo ≤ k ∧ k < lo + width then x.testBit (k - lo) else v.toNat.testBit k := by
  have hv := v.isLt
  have e1 : v.toNat % 2 ^ lo + x % 2 ^ width * 2 ^ lo = 2 ^ lo * (x % 2 ^ width) + v.toNat % 2 ^ lo := by
    rw [Nat.add_comm, Nat.mul_comm]
  have hb : 2 ^ lo * (x % 2 ^ width) + v.toNat % 2 ^ lo < 2 ^ (lo + width) := by
    have h1 : x % 2 ^ width < 2 ^ width := Nat.mod_lt _ (Nat.two_pow_pos _)
    have h2 : v.toNat % 2 ^ lo < 2 ^ lo := Nat.mod_lt _ (Nat.two_pow_pos _)
    have h3 : 2 ^ lo * (x % 2 ^ width + 1) ≤ 2 ^ lo * 2 ^ width := Nat.mul_le_mul_left _ h1
    rw [Nat.pow_add]; rw [Nat.mul_add] at h3; omega
  have e2 : v.toNat % 2 ^ lo + x % 2 ^ width * 2 ^ lo + v.toNat / 2 ^ (lo + width) * 2 ^ (lo + width) =
      2 ^ (lo + width) * (v.toNat / 2 ^ (lo + width)) + (2 ^ lo * (x % 2 ^ width) + v.toNat % 2 ^ lo) := by
    rw [e1, Nat.add_comm, Nat.mul_comm (v.toNat / _)]
  have hlt : v.toNat % 2 ^ lo + x % 2 ^ width * 2 ^ lo + v.toNat / 2 ^ (lo + width) * 2 ^ (lo + width) < 2 ^ 64 := by
    rw [e2]
    have h4 : v.toNat / 2 ^ (lo + width) < 2 ^ (64 - (lo + width)) := by
      rw [Nat.div_lt_iff_lt_mul (Nat.two_pow_pos _), ← Nat.pow_add]; rw [show 64 - (lo + width) + (lo + width) = 64 by omega]; exact hv
    have h5 : 2 ^ (lo + width) * (v.toNat / 2 ^ (lo + width) + 1) ≤ 2 ^ (lo + width) * 2 ^ (64 - (lo + width)) :=
      Nat.mul_le_mul_left _ h4
    rw [← Nat.pow_add, show lo + width + (64 - (lo + width)) = 64 by omega, Nat.mul_add] at h5
    omega
  rw [setBits, BitVec.toNat_ofNat, Nat.mod_eq_of_lt hlt, e2, Nat.testBit_two_pow_mul_add _ hb]
  by_cases h1 : k < lo + width
  · rw [if_pos h1, Nat.testBit_two_pow_mul_add _ (Nat.mod_lt _ (Nat.two_pow_pos _))]
    by_cases h2 : k < lo
    · rw [if_pos h2, if_neg (by omega), Nat.testBit_mod_two_pow]; simp [h2]
    · rw [if_neg h2, if_pos ⟨by omega, h1⟩, Nat.testBit_mod_two_pow]
      simp [show k - lo < width by omega]
  · rw [if_neg h1, if_neg (by omega), ← Nat.shiftRight_eq_div_pow, Nat.testBit_shiftRight]
    congr 1; omega

theorem testBit_getBits (v : Word) (lo width k : Nat) :
    (getBits v lo width).testBit k = (decide (k < width) && v.toNat.testBit (lo + k)) := by
  rw [getBits, ← Nat.shiftRight_eq_div_pow, Nat.testBit_mod_two_pow, Nat.testBit_shiftRight]

/-- A field just written holds the value, cut to its width. -/
theorem getBits_setBits_same (v : Word) {lo width : Nat} (h : lo + width ≤ 64) (x : Nat) :
    getBits (setBits v lo width x) lo width = x % 2 ^ width := by
  apply Nat.eq_of_testBit_eq
  intro k
  rw [testBit_getBits, testBit_setBits v h, Nat.testBit_mod_two_pow]
  by_cases hk : k < width
  · simp [hk]
  · simp [hk]

/-- A field that shares no bit with the one written holds its old value. -/
theorem getBits_setBits_ne (v : Word) {lo width lo' width' : Nat} (h : lo + width ≤ 64) (x : Nat)
    (hd : lo' + width' ≤ lo ∨ lo + width ≤ lo') : getBits (setBits v lo width x) lo' width' = getBits v lo' width' := by
  apply Nat.eq_of_testBit_eq
  intro k
  rw [testBit_getBits, testBit_getBits, testBit_setBits v h]
  by_cases hk : k < width'
  · rw [if_neg (by omega)]
  · simp [hk]

theorem getBits_lt (v : Word) (lo width : Nat) : getBits v lo width < 2 ^ width := Nat.mod_lt _ (Nat.two_pow_pos _)

theorem State.fld_setFld_same (s : State) (f : Fld) (w : Fin 2) (v i : Nat) (h : f.lo + f.width ≤ 64) :
    (s.setFld f w v i).fld f w i = v % 2 ^ f.width := by
  simp only [State.fld, State.setFld, State.reg_setReg_same, getBits_setBits_same _ h]

theorem State.tfld_setTfld_same (s : State) (u : Site) (f : Fld) (v i : Nat) (h : f.lo + f.width ≤ 64) :
    (s.setTfld u f v i).tfld u f i = v % 2 ^ f.width := by
  simp only [State.tfld, State.setTfld, State.reg_setReg_same, getBits_setBits_same _ h]

/-- A field of another register, or one that shares no bit with the one written. -/
theorem State.fld_setFld_ne (s : State) {f g : Fld} {w w' : Fin 2} {i j : Nat} (v : Nat) (h : f.lo + f.width ≤ 64)
    (hd : g.at w' j ≠ f.at w i ∨ g.lo + g.width ≤ f.lo ∨ f.lo + f.width ≤ g.lo) :
    (s.setFld f w v i).fld g w' j = s.fld g w' j := by
  simp only [State.fld, State.setFld]
  by_cases he : g.at w' j = f.at w i
  · rw [he, State.reg_setReg_same]
    exact getBits_setBits_ne _ h _ (hd.resolve_left (fun n => n he))
  · rw [State.reg_setReg_ne _ he]

theorem State.tfld_setTfld_ne (s : State) {f g : Fld} {u u' : Site} {i j : Nat} (v : Nat) (h : f.lo + f.width ≤ 64)
    (hd : g.on u' j ≠ f.on u i ∨ g.lo + g.width ≤ f.lo ∨ f.lo + f.width ≤ g.lo) :
    (s.setTfld u f v i).tfld u' g j = s.tfld u' g j := by
  simp only [State.tfld, State.setTfld]
  by_cases he : g.on u' j = f.on u i
  · rw [he, State.reg_setReg_same]
    exact getBits_setBits_ne _ h _ (hd.resolve_left (fun n => n he))
  · rw [State.reg_setReg_ne _ he]

/-! ### Memory -/

theorem memRead_cellsOf (a : Nat) (bs : List Byte) (k : Nat) :
    sget memDefault (cellsOf a bs) k = if a ≤ k ∧ k < a + bs.length then bs.getD (k - a) 0 else 0 := by
  induction bs generalizing a with
  | nil => simp [cellsOf, memDefault]
  | cons b r ih =>
    have hr : sget memDefault (cellsOf (a + 1) r) k =
        if a + 1 ≤ k ∧ k < a + 1 + r.length then r.getD (k - (a + 1)) 0 else 0 := ih (a + 1)
    by_cases hk : k = a
    · subst hk
      by_cases hb : b = 0
      · rw [cellsOf, if_pos hb, hr, if_neg (by omega), if_pos ⟨Nat.le_refl _, by simp⟩, Nat.sub_self]; exact hb.symm
      · rw [cellsOf, if_neg hb, sget_cons]; simp
    · have e : sget memDefault (cellsOf a (b :: r)) k = sget memDefault (cellsOf (a + 1) r) k := by
        by_cases hb : b = 0
        · rw [cellsOf, if_pos hb]
        · rw [cellsOf, if_neg hb, sget_cons, if_neg hk]
      rw [e, hr]
      by_cases h1 : a + 1 ≤ k ∧ k < a + 1 + r.length
      · have h2 : a ≤ k ∧ k < a + (b :: r).length := ⟨by omega, by simp only [List.length_cons]; omega⟩
        rw [if_pos h1, if_pos h2, show k - a = (k - (a + 1)) + 1 by omega]; rfl
      · have h2 : ¬ (a ≤ k ∧ k < a + (b :: r).length) := by simp only [List.length_cons]; omega
        rw [if_neg h1, if_neg h2]

theorem sget_append (d : Nat → α) (l m : Sparse α) (k : Nat) :
    sget d (l ++ m) k = if l.any (fun e => e.1 == k) then sget d l k else sget d m k := by
  induction l with
  | nil => simp
  | cons e r ih =>
    obtain ⟨j, v⟩ := e
    rw [List.cons_append, sget_cons, sget_cons, ih, List.any_cons]
    by_cases h : k = j
    · simp [h]
    · have h' : (j == k) = false := beq_eq_false_iff_ne.mpr (fun c => h c.symm)
      rw [if_neg h, h', Bool.false_or, if_neg h]

theorem sget_of_any (d : Nat → α) {l : Sparse α} {k : Nat} (h : l.any (fun e => e.1 == k) = false) : sget d l k = d k := by
  induction l with
  | nil => rfl
  | cons e r ih =>
    obtain ⟨j, v⟩ := e
    simp only [List.any_cons, Bool.or_eq_false_iff, beq_eq_false_iff_ne] at h
    rw [sget_cons, if_neg (fun c => h.1 c.symm), ih h.2]

theorem sget_filter (d : Nat → α) (p : Nat → Bool) (l : Sparse α) (k : Nat) :
    sget d (l.filter (fun e => p e.1)) k = if p k then sget d l k else d k := by
  induction l with
  | nil => simp
  | cons e r ih =>
    obtain ⟨j, v⟩ := e
    by_cases hj : p j
    · rw [List.filter_cons_of_pos (by simpa using hj), sget_cons, sget_cons, ih]
      by_cases h : k = j
      · simp [h, hj]
      · simp [h]
    · rw [List.filter_cons_of_neg (by simpa using hj), sget_cons, ih]
      by_cases h : k = j
      · subst h; simp [hj]
      · simp [h]

/-- R26: a byte read after a run of bytes is written: the byte written there, or the byte as before. -/
theorem memRead_memWrite (m : List Host.Cell) (a : Nat) (bs : List Byte) (k : Nat) :
    memRead (memWrite m a bs) k = if a ≤ k ∧ k < a + bs.length then bs.getD (k - a) 0 else memRead m k := by
  have h1 : sget memDefault (m.filter (fun c => decide (c.1 < a))) k = if k < a then memRead m k else 0 := by
    have := sget_filter memDefault (fun j => decide (j < a)) m k
    simpa [memDefault, memRead] using this
  have h3 : sget memDefault (m.filter (fun c => decide (a + bs.length ≤ c.1))) k =
      if a + bs.length ≤ k then memRead m k else 0 := by
    have := sget_filter memDefault (fun j => decide (a + bs.length ≤ j)) m k
    simpa [memDefault, memRead] using this
  have h2 := memRead_cellsOf a bs k
  have a1 : ¬ k < a → (m.filter (fun c => decide (c.1 < a))).any (fun e => e.1 == k) = false := by
    intro hk
    rw [List.any_eq_false]
    intro e he
    have := (List.mem_filter.mp he).2
    simp only [decide_eq_true_eq] at this
    simp only [beq_iff_eq]; omega
  have a2 : ¬ (a ≤ k ∧ k < a + bs.length) → (cellsOf a bs).any (fun e => e.1 == k) = false := by
    intro hk
    rw [List.any_eq_false]
    intro e he
    have := cellsOf_bounds a bs e he
    simp only [beq_iff_eq]; omega
  have e : memRead (memWrite m a bs) k = if (((m.filter (fun c => decide (c.1 < a))).any (fun e => e.1 == k)) ||
      ((cellsOf a bs).any (fun e => e.1 == k))) = true then
        (if (m.filter (fun c => decide (c.1 < a))).any (fun e => e.1 == k) = true then
          sget memDefault (m.filter (fun c => decide (c.1 < a))) k else sget memDefault (cellsOf a bs) k)
      else sget memDefault (m.filter (fun c => decide (a + bs.length ≤ c.1))) k := by
    rw [memRead, memWrite, sget_append, sget_append, List.any_append]
  rw [e]
  by_cases c1 : k < a
  · have c2 : ¬ (a ≤ k ∧ k < a + bs.length) := by omega
    rw [if_neg c2, a2 c2, Bool.or_false]
    by_cases c3 : (m.filter (fun c => decide (c.1 < a))).any (fun e => e.1 == k) = true
    · rw [if_pos c3, if_pos c3, h1, if_pos c1]
    · rw [if_neg c3, h3, if_neg (by omega)]
      have := sget_of_any memDefault (Bool.eq_false_iff.mpr c3)
      rw [h1, if_pos c1] at this
      exact this.symm
  · rw [a1 c1, Bool.false_or, if_neg (show ¬ (false = true) by decide)]
    by_cases c2 : a ≤ k ∧ k < a + bs.length
    · rw [if_pos c2]
      by_cases c3 : (cellsOf a bs).any (fun e => e.1 == k) = true
      · rw [if_pos c3, h2, if_pos c2]
      · rw [if_neg c3, h3, if_neg (by omega)]
        have := sget_of_any memDefault (Bool.eq_false_iff.mpr c3)
        rw [h2, if_pos c2] at this
        exact this.symm
    · rw [if_neg c2, a2 c2, if_neg (show ¬ (false = true) by decide), h3, if_pos (by omega)]

theorem State.byte_writeRun (s : State) (w : Fin 2) (off : Nat) (bs : List Byte) (k : Nat) :
    memRead (s.writeRun w off bs).mem k =
      if wingAddr w off ≤ k ∧ k < wingAddr w off + bs.length then bs.getD (k - wingAddr w off) 0 else memRead s.mem k := by
  rw [State.writeRun, State.setMem_mem]; exact memRead_memWrite _ _ _ _

/-! ### Addresses of registers -/

/-- Two registers of tile blocks differ when their tiles or their offsets do. -/
theorem tileAddr_inj {u v : Site} {o p : Nat} (ho : o < 0x2000) (hp : p < 0x2000) (h : tileAddr u o = tileAddr v p) :
    u = v ∧ o = p := by
  cases u with | mk w t => cases v with | mk w' t' =>
  simp only [tileAddr] at h
  have h1 := t.isLt; have h2 := t'.isLt
  have hw : w = w' := Fin.ext (by omega)
  have ht : t = t' := BitVec.eq_of_toNat_eq (by omega)
  exact ⟨by rw [hw, ht], by subst hw; subst ht; omega⟩

/-- A register of a wing's block below the tiles' blocks is no register of a tile. -/
theorem regAddr_ne_tileAddr {w : Fin 2} {b : Block} {o p : Nat} {u : Site} (ho : b.base + o < 0x1000000) (hp : p < 0x2000) :
    regAddr w b o ≠ tileAddr u p := by
  intro h
  simp only [regAddr, tileAddr] at h
  have h1 := u.tile.isLt
  omega

/-- Registers of two wings, or of one at different places, differ. -/
theorem regAddr_inj {w v : Fin 2} {b c : Block} {o p : Nat} (ho : b.base + o < 0x2000000) (hp : c.base + p < 0x2000000)
    (h : regAddr w b o = regAddr v c p) : w = v ∧ b.base + o = c.base + p := by
  simp only [regAddr] at h
  have hw : w = v := Fin.ext (by omega)
  exact ⟨hw, by subst hw; omega⟩

end Sys2Proof.Machine
end

