-- ==== Sys2Proof/Laws/Bundle.lean ====
section
/-!
SUPPORT. The issue of a bundle: which of its cases takes place, what an issue leaves in the program counter, the wait state
and the results on their way, and when those results become visible.
-/
namespace Sys2Proof.Machine

/-! ### The cases of an issue -/

theorem State.issue_of_fetch {s : State} {u : Site} {b : Bundle} {c : Nat × Bool} (hp : s.presents u = true)
    (hg : (s.settle u).fetchBad u b = some c) :
    s.issue u b = (s.settle u).eccStop u ((s.settle u).pc u / 8) c.1 false c.2 := by
  rw [State.issue, if_pos hp, State.issueSettled, hg]

theorem State.issue_of_fault {s : State} {u : Site} {b : Bundle} {c : Nat} (hp : s.presents u = true)
    (hg : (s.settle u).fetchBad u b = none) (hf : (s.settle u).bundleFault u b = some c) :
    s.issue u b = (s.settle u).tileFault u stTagFault c ((s.settle u).pc u) := by
  rw [State.issue, if_pos hp, State.issueSettled, hg, hf]

theorem State.issue_of_wait {s : State} {u : Site} {b : Bundle} {c : Nat} (hp : s.presents u = true)
    (hg : (s.settle u).fetchBad u b = none) (hf : (s.settle u).bundleFault u b = none)
    (hw : (s.settle u).bundleWait u b = some c) : s.issue u b = (s.settle u).markWait u b c := by
  rw [State.issue, if_pos hp, State.issueSettled, hg, hf, hw]

theorem State.issue_of_issues {s : State} {u : Site} {b : Bundle} (h : s.Issues u b) :
    s.issue u b = (s.atIssue u b).issueNow u b := by
  obtain ⟨hp, hg, hf, hw, hb, hbar⟩ := h
  rw [State.issue, if_pos hp, State.issueSettled, hg, hf, hw, hb, State.atIssue]
  rw [State.atIssue] at hbar
  cases hc : bundleBar b with
  | none => rfl
  | some bid =>
    have := hbar bid hc
    rw [hc] at this
    simp only [State.issueBar, this, if_true]

/-! ### Results on their way -/

theorem mem_insertPend {p q : PendWrite} {l : List PendWrite} : q ∈ insertPend p l ↔ q = p ∨ q ∈ l := by
  induction l with
  | nil => simp [insertPend]
  | cons a r ih =>
    rw [insertPend]
    split
    · rw [List.mem_cons, ih, List.mem_cons]
      constructor
      · rintro (h | h | h)
        · exact .inr (.inl h)
        · exact .inl h
        · exact .inr (.inr h)
      · rintro (h | h | h)
        · exact .inr (.inl h)
        · exact .inl h
        · exact .inr (.inr h)
    · rw [List.mem_cons]

theorem mem_addPends {l : List PendWrite} {t : Tile} {p : PendWrite} (h : p ∈ l ∨ p ∈ t.pend) :
    p ∈ (l.foldl (fun t p => t.addPend p.due p.eff) t).pend := by
  induction l generalizing t with
  | nil => exact h.resolve_left (by simp)
  | cons a r ih =>
    apply ih
    rcases h with h | h
    · rcases List.mem_cons.mp h with h | h
      · exact .inr (mem_insertPend.mpr (.inl h))
      · exact .inl h
    · exact .inr (mem_insertPend.mpr (.inr h))

/-! ### What an issue leaves -/

@[simp] theorem State.tile_countTdc (s : State) (w : Fin 2) (b : Bool) (u : Site) : (s.countTdc w b).tile u = s.tile u := by
  unfold State.countTdc; split <;> simp

@[simp] theorem State.tile_checkBreak (s : State) (u v : Site) : (s.checkBreak u).tile v = s.tile v := by
  unfold State.checkBreak; simp only; split <;> simp

theorem State.reg_countTdc (s : State) (w : Fin 2) (b : Bool) {a : Nat} (h1 : a ≠ Reg.AU_TDC.PENDING.at w 0)
    (h2 : a ≠ Reg.AU_TDC_TOTAL.TOTAL.at w 0) : (s.countTdc w b).reg a = s.reg a := by
  unfold State.countTdc; split
  · rw [State.reg_setFld_ne _ h2, State.reg_addFld_ne _ h1]
  · rfl

theorem State.reg_checkBreak (s : State) (u : Site) {a : Nat} (h : a ≠ Reg.AU_REPLAY.BROKEN.at u.wing 0) :
    (s.checkBreak u).reg a = s.reg a := by
  unfold State.checkBreak; simp only; split
  · rw [State.reg_setFld_ne _ h]
  · rfl

/-- A register of a tile's block is none of the choice counters, nor the replay register. -/
theorem tileAddr_ne_au {u : Site} {o : Nat} (ho : o < 0x2000) (w : Fin 2) :
    tileAddr u o ≠ Reg.AU_TDC.PENDING.at w 0 ∧ tileAddr u o ≠ Reg.AU_TDC_TOTAL.TOTAL.at w 0 ∧
      tileAddr u o ≠ Reg.AU_REPLAY.BROKEN.at w 0 :=
  ⟨(regAddr_ne_tileAddr (by decide) ho).symm, (regAddr_ne_tileAddr (by decide) ho).symm,
    (regAddr_ne_tileAddr (by decide) ho).symm⟩

end Sys2Proof.Machine
end

