-- ==== Sys2Proof/Laws/Keeps.lean ====
section
/-!
SUPPORT. What every operation keeps: the queue as it stands, and the canonical form of registers, memory and tiles. The
lemmas of the other Keeps files say it of each operation and of each command, in the order of the model's files; a proof
over all commands cites them and unfolds nothing.
-/
namespace Sys2Proof.Machine

/-- The state's queue is `cs`, and its registers, memory and tiles are canonical. -/
def State.Keeps (cs : List Instr) (s : State) : Prop := s.pending = cs ∧ s.Canonical

/-- The same of the state of a pair. -/
abbrev FstKeeps {α : Type} (cs : List Instr) (p : State × α) : Prop := p.1.Keeps cs

abbrev SndKeeps {α : Type} (cs : List Instr) (p : α × State) : Prop := p.2.Keeps cs

/-- The same of the next state of an outcome. -/
def ResKeeps (cs : List Instr) (r : Res) : Prop := ∀ t, r = .next t → t.Keeps cs

variable {cs : List Instr} {s : State}

/-! ### Control -/

theorem Keeps.ite {c : Prop} [Decidable c] {a b : State} (ha : a.Keeps cs) (hb : b.Keeps cs) :
    (if c then a else b).Keeps cs := by split <;> assumption

theorem FstKeeps.ite {α : Type} {c : Prop} [Decidable c] {a b : State × α} (ha : FstKeeps cs a) (hb : FstKeeps cs b) :
    FstKeeps cs (if c then a else b) := by split <;> assumption

theorem SndKeeps.ite {α : Type} {c : Prop} [Decidable c] {a b : α × State} (ha : SndKeeps cs a) (hb : SndKeeps cs b) :
    SndKeeps cs (if c then a else b) := by split <;> assumption

theorem ResKeeps.ite {c : Prop} [Decidable c] {a b : Res} (ha : ResKeeps cs a) (hb : ResKeeps cs b) :
    ResKeeps cs (if c then a else b) := by split <;> assumption

theorem ResKeeps.next (h : s.Keeps cs) : ResKeeps cs (.next s) := fun _ ht => by cases ht; exact h

theorem Keeps.foldl {α : Type} {f : State → α → State} {l : List α} (hf : ∀ s a, s.Keeps cs → (f s a).Keeps cs)
    (h : s.Keeps cs) : (l.foldl f s).Keeps cs := by
  induction l generalizing s with
  | nil => exact h
  | cons a r ih => exact ih (hf s a h)

theorem Keeps.opt {α : Type} {f : State → α → State} {o : Option α} (hf : ∀ s a, s.Keeps cs → (f s a).Keeps cs)
    (h : s.Keeps cs) : (optEffect f o s).Keeps cs := by
  cases o with
  | none => exact h
  | some a => exact hf s a h

/-! ### Setters -/

theorem State.setRegs_keeps {x : Sparse Word} (h : s.Keeps cs) (hx : SparseWf resetVal x) : (s.setRegs x).Keeps cs :=
  ⟨h.1, h.2.1, hx, h.2.2.2⟩

theorem State.setMem_keeps {x : List Host.Cell} (h : s.Keeps cs) (hx : Memory.wf x) : (s.setMem x).Keeps cs :=
  ⟨h.1, hx, h.2.2⟩

theorem State.setTiles_keeps {x : Sparse Tile} (h : s.Keeps cs) (hx : SparseWf (fun _ => ({} : Tile)) x) :
    (s.setTiles x).Keeps cs :=
  ⟨h.1, h.2.1, h.2.2.1, hx⟩

theorem State.setWing0_keeps {x : Wing} (h : s.Keeps cs) : (s.setWing0 x).Keeps cs := h
theorem State.setWing1_keeps {x : Wing} (h : s.Keeps cs) : (s.setWing1 x).Keeps cs := h
theorem State.setHost_keeps {x : HostPort} (h : s.Keeps cs) : (s.setHost x).Keeps cs := h
theorem State.setPower_keeps {x : Power} (h : s.Keeps cs) : (s.setPower x).Keeps cs := h
theorem State.setCocoon_keeps {x : Cocoon} (h : s.Keeps cs) : (s.setCocoon x).Keeps cs := h
theorem State.setBoard_keeps {x : Board} (h : s.Keeps cs) : (s.setBoard x).Keeps cs := h
theorem State.setJob_keeps {x : Job} (h : s.Keeps cs) : (s.setJob x).Keeps cs := h
theorem State.setFreeTick_keeps {x : Nat} (h : s.Keeps cs) : (s.setFreeTick x).Keeps cs := h

/-! ### Operations that write a list whole -/

theorem State.setReg_keeps {a : Nat} {v : Word} (h : s.Keeps cs) : (s.setReg a v).Keeps cs :=
  State.setRegs_keeps h (sparseWf_sset _ h.2.2.1 _ _)

theorem State.writeRun_keeps {w : Fin 2} {off : Nat} {bs : List Byte} (h : s.Keeps cs) : (s.writeRun w off bs).Keeps cs :=
  State.setMem_keeps h (memWrite_wf h.2.1 _ _)

theorem State.setTile_keeps {u : Site} {t : Tile} (h : s.Keeps cs) : (s.setTile u t).Keeps cs :=
  State.setTiles_keeps h (sparseWf_sset _ h.2.2.2 _ _)

theorem State.clearRun_keeps {w : Fin 2} (h : s.Keeps cs) : (s.clearRun w).Keeps cs :=
  State.setRegs_keeps h (sparseWf_smap _ _ h.2.2.1)

end Sys2Proof.Machine
end

