-- ==== Sys2Proof/Laws/KeepsOps.lean ====
section
/-!
SUPPORT. Keeps (Laws/Keeps.lean) for the shared operations, the scratchpad and the silk mesh.
-/
namespace Sys2Proof.Machine

variable {cs : List Instr}

/-! ### Ops.lean -/

theorem State.setFld_keeps {s : State} {f : Fld} {w : Fin 2} {v : Nat} {i : optParam Nat 0} (hk : s.Keeps cs) :
    State.Keeps cs (s.setFld f w v i) := by
  unfold State.setFld
  exact (State.setReg_keeps hk)

theorem State.addFld_keeps {s : State} {f : Fld} {w : Fin 2} {n : Nat} {i : optParam Nat 0} (hk : s.Keeps cs) :
    State.Keeps cs (s.addFld f w n i) := by
  unfold State.addFld
  exact (State.setFld_keeps hk)

theorem State.setTfld_keeps {s : State} {u : Site} {f : Fld} {v : Nat} {i : optParam Nat 0} (hk : s.Keeps cs) :
    State.Keeps cs (s.setTfld u f v i) := by
  unfold State.setTfld
  exact (State.setReg_keeps hk)

theorem State.addTfld_keeps {s : State} {u : Site} {f : Fld} {n : Nat} {i : optParam Nat 0} (hk : s.Keeps cs) :
    State.Keeps cs (s.addTfld u f n i) := by
  unfold State.addTfld
  exact (State.setTfld_keeps hk)

theorem State.writeRow_keeps {s : State} {u : Site} {r : Nat} {bs : List Byte} (hk : s.Keeps cs) :
    State.Keeps cs (s.writeRow u r bs) := by
  unfold State.writeRow
  exact (State.writeRun_keeps hk)

theorem State.setWing_keeps {s : State} {w : Fin 2} {x : Wing} (hk : s.Keeps cs) :
    State.Keeps cs (s.setWing w x) := by
  unfold State.setWing
  exact (Keeps.ite (State.setWing0_keeps hk) (State.setWing1_keeps hk))

theorem State.free_keeps {s : State} (hk : s.Keeps cs) :
    SndKeeps cs (s.free) := by
  unfold State.free
  exact (State.setFreeTick_keeps hk)

theorem State.countTdc_keeps {s : State} {w : Fin 2} {tie : Bool} (hk : s.Keeps cs) :
    State.Keeps cs (s.countTdc w tie) := by
  unfold State.countTdc
  exact (Keeps.ite (State.setFld_keeps (State.addFld_keeps hk)) hk)

theorem State.signal_keeps {s : State} {n : Nat} (hk : s.Keeps cs) :
    State.Keeps cs (s.signal n) := by
  unfold State.signal
  exact (Keeps.ite (State.setHost_keeps hk) (Keeps.ite (State.setHost_keeps hk) (State.setHost_keeps hk)))

theorem State.writeCompletion_keeps {s : State} {c : Completion} (hk : s.Keeps cs) :
    State.Keeps cs (s.writeCompletion c) := by
  unfold State.writeCompletion
  exact (State.signal_keeps (State.setFld_keeps (State.setHost_keeps hk)))

theorem State.pumpN_keeps {n : Nat} {s : State} (h : s.Keeps cs) : (State.pumpN n s).Keeps cs := by
  induction n generalizing s with
  | zero => exact h
  | succ n ih =>
    unfold State.pumpN
    split
    · exact h
    · split
      · exact ih (State.writeCompletion_keeps (State.setHost_keeps h))
      · exact h

theorem State.pump_keeps {s : State} (hk : s.Keeps cs) :
    State.Keeps cs (s.pump) := by
  unfold State.pump
  exact (State.setFld_keeps (State.pumpN_keeps hk))

theorem State.postCompletion_keeps {s : State} {c : Completion} (hk : s.Keeps cs) :
    State.Keeps cs (s.postCompletion c) := by
  unfold State.postCompletion
  exact (State.pump_keeps (State.setHost_keeps hk))

theorem State.event_keeps {s : State} {code : Nat} {status : Nat} {payload : List Byte} (hk : s.Keeps cs) :
    State.Keeps cs (s.event code status payload) := by
  unfold State.event
  exact (State.postCompletion_keeps hk)

theorem State.cmdCompletion_keeps {s : State} {vector : Nat} {opcode : Nat} {tag : BitVec 64} {status : Nat} {payload : optParam (List Byte) []} (hk : s.Keeps cs) :
    State.Keeps cs (s.cmdCompletion vector opcode tag status payload) := by
  unfold State.cmdCompletion
  exact (State.postCompletion_keeps hk)

theorem State.pumpPort_keeps {s : State} {w : Fin 2} {p : Nat} (hk : s.Keeps cs) :
    State.Keeps cs (s.pumpPort w p) := by
  unfold State.pumpPort
  exact (Keeps.ite (State.setWing_keeps hk) hk)

theorem State.sendControl_keeps {s : State} {w : Fin 2} {p : Nat} {c : Control} (hk : s.Keeps cs) :
    State.Keeps cs (s.sendControl w p c) := by
  unfold State.sendControl
  exact (State.pumpPort_keeps (State.setWing_keeps hk))

theorem State.whenUp_keeps {s : State} {t : State} (h0 : s.Keeps cs) (hk : t.Keeps cs) :
    State.Keeps cs (s.whenUp t) := by
  unfold State.whenUp
  exact (Keeps.ite hk h0)

theorem State.report_keeps {s : State} {w : Fin 2} {status : Nat} {off : Nat} (hk : s.Keeps cs) :
    State.Keeps cs (s.report w status off) := by
  unfold State.report
  exact (State.setWing_keeps hk)

theorem State.recordStop_keeps {s : State} {w : Fin 2} {status : Nat} {source : Nat} {locus : Nat} {chip : Nat} (hk : s.Keeps cs) :
    State.Keeps cs (s.recordStop w status source locus chip) := by
  unfold State.recordStop
  exact (Keeps.ite hk (State.setReg_keeps (State.setReg_keeps (State.setReg_keeps hk))))

theorem State.refreshOrder_keeps {s : State} {w : Fin 2} (hk : s.Keeps cs) :
    State.Keeps cs (s.refreshOrder w) := by
  unfold State.refreshOrder
  exact (State.setFld_keeps (State.setFld_keeps (State.setFld_keeps hk)))

theorem State.lateDrop_keeps {s : State} {w : Fin 2} (hk : s.Keeps cs) :
    State.Keeps cs (s.lateDrop w) := by
  unfold State.lateDrop
  exact (State.addFld_keeps hk)

theorem State.dropQueued_keeps {s : State} {w : Fin 2} (hk : s.Keeps cs) :
    State.Keeps cs (s.dropQueued w) := by
  unfold State.dropQueued
  exact (State.refreshOrder_keeps (State.addFld_keeps (State.setWing_keeps hk)))

theorem State.stopWing_keeps {s : State} {w : Fin 2} {status : Nat} {source : Nat} {locus : Nat} {chip : Nat} (hk : s.Keeps cs) :
    State.Keeps cs (s.stopWing w status source locus chip) := by
  unfold State.stopWing
  exact (Keeps.ite (Keeps.foldl (fun _ _ h1 => (State.sendControl_keeps h1)) (State.event_keeps (State.recordStop_keeps (State.dropQueued_keeps (State.setFld_keeps (State.clearRun_keeps hk)))))) (State.clearRun_keeps hk))

theorem State.stopHere_keeps {s : State} {w : Fin 2} {status : Nat} {source : Nat} {locus : Nat} (hk : s.Keeps cs) :
    State.Keeps cs (s.stopHere w status source locus) := by
  unfold State.stopHere
  exact (State.stopWing_keeps hk)

/-! ### Flags.lean -/

theorem State.refreshOver_keeps {s : State} {u : Site} (hk : s.Keeps cs) :
    State.Keeps cs (s.refreshOver u) := by
  unfold State.refreshOver
  exact (State.setTfld_keeps hk)

theorem State.addEv_keeps {s : State} {u : Site} {iss : Nat} {e : Ev} (hk : s.Keeps cs) :
    State.Keeps cs (s.addEv u iss e) := by
  unfold State.addEv
  exact (Keeps.ite hk (Keeps.ite (State.setReg_keeps hk) (State.refreshOver_keeps (State.addTfld_keeps (State.setReg_keeps hk)))))

theorem State.clearSat_keeps {s : State} {u : Site} {b : Nat} (hk : s.Keeps cs) :
    State.Keeps cs (s.clearSat u b) := by
  unfold State.clearSat
  exact (State.refreshOver_keeps (State.setTfld_keeps (State.setTile_keeps hk)))

theorem State.flagUpdate_keeps {s : State} {u : Site} {f : Nat} {op : Nat} {v : Nat} (hk : s.Keeps cs) :
    State.Keeps cs (s.flagUpdate u f op v) := by
  unfold State.flagUpdate
  exact (Keeps.ite (State.setTfld_keeps hk) hk)

/-! ### Scratch.lean -/

theorem State.tileFault_keeps {s : State} {u : Site} {status : Nat} {cause : Nat} {pc : Nat} (hk : s.Keeps cs) :
    State.Keeps cs (s.tileFault u status cause pc) := by
  unfold State.tileFault
  exact (State.stopHere_keeps (Keeps.ite hk (State.setReg_keeps hk)))

theorem State.eccStop_keeps {s : State} {u : Site} {row : Nat} {codeword : Nat} {scrub : Bool} {parity : Bool} (hk : s.Keeps cs) :
    State.Keeps cs (s.eccStop u row codeword scrub parity) := by
  unfold State.eccStop
  exact (State.stopHere_keeps (Keeps.ite hk (State.setTfld_keeps (State.setTfld_keeps (State.setTfld_keeps (State.setTfld_keeps (State.setTfld_keeps hk)))))))

theorem State.countCorrected_keeps {s : State} {u : Site} {found : RowErr} (hk : s.Keeps cs) :
    State.Keeps cs (s.countCorrected u found) := by
  unfold State.countCorrected
  exact (State.addTfld_keeps hk)

theorem State.emptyNow_keeps {s : State} {u : Site} {r : Nat} (hk : s.Keeps cs) :
    State.Keeps cs (s.emptyNow u r) := by
  unfold State.emptyNow
  exact (State.setTile_keeps hk)

theorem State.emptyRow_keeps {s : State} {u : Site} {r : Nat} (hk : s.Keeps cs) :
    State.Keeps cs (s.emptyRow u r) := by
  unfold State.emptyRow
  exact (Keeps.ite (State.setTile_keeps hk) (State.emptyNow_keeps hk))

theorem State.stepEmpty_keeps {s : State} {u : Site} {r : Nat} (hk : s.Keeps cs) :
    State.Keeps cs (s.stepEmpty u r) := by
  unfold State.stepEmpty
  exact (Keeps.ite (State.setTile_keeps hk) (State.emptyRow_keeps hk))

theorem State.settleRow_keeps {s : State} {u : Site} {r : Nat} (hk : s.Keeps cs) :
    State.Keeps cs (s.settleRow u r) := by
  unfold State.settleRow
  exact (Keeps.ite (State.emptyNow_keeps hk) hk)

theorem State.fillRow_keeps {s : State} {u : Site} {r : Nat} {data : List Byte} (hk : s.Keeps cs) :
    State.Keeps cs (s.fillRow u r data) := by
  unfold State.fillRow
  exact (State.setTile_keeps (State.writeRow_keeps hk))

theorem State.endClaim_keeps {s : State} {u : Site} {r : Nat} (hk : s.Keeps cs) :
    State.Keeps cs (s.endClaim u r) := by
  unfold State.endClaim
  exact (State.settleRow_keeps (State.setTile_keeps hk))

theorem State.claimTarget_keeps {s : State} {u : Site} {r : Nat} {c : Claim} (hk : s.Keeps cs) :
    State.Keeps cs (s.claimTarget u r c) := by
  unfold State.claimTarget
  exact (State.setTile_keeps (State.emptyNow_keeps hk))

theorem State.countRead_keeps {s : State} {u : Site} {x : RowRef} (hk : s.Keeps cs) :
    State.Keeps cs (s.countRead u x) := by
  unfold State.countRead
  exact (Keeps.ite hk (Keeps.ite (State.emptyRow_keeps (State.setTile_keeps hk)) (State.setTile_keeps hk)))

theorem State.countReads_keeps {s : State} {u : Site} {xs : List RowRef} (hk : s.Keeps cs) :
    State.Keeps cs (s.countReads u xs) := by
  unfold State.countReads
  exact (Keeps.foldl (fun _ _ h1 => (State.countRead_keeps h1)) hk)

theorem State.completeEntry_keeps {s : State} {u : Site} {b : Nat} {g : Gather} (hk : s.Keeps cs) :
    State.Keeps cs (s.completeEntry u b g) := by
  unfold State.completeEntry
  exact (State.setTile_keeps hk)

theorem State.narrowWrite_keeps {s : State} {u : Site} {b : Nat} {row : Nat} {off : Nat} {bs : List Byte} (hk : s.Keeps cs) :
    State.Keeps cs (s.narrowWrite u b row off bs) := by
  unfold State.narrowWrite
  exact (Keeps.ite (State.completeEntry_keeps (State.setTile_keeps hk)) (State.setTile_keeps hk))

theorem State.seal_keeps {s : State} {u : Site} {b : Nat} {row : Nat} (hk : s.Keeps cs) :
    State.Keeps cs (s.seal u b row) := by
  unfold State.seal
  exact (by (try extract_lets); split; exact (State.completeEntry_keeps hk); exact hk)

theorem State.landFills_keeps {s : State} {u : Site} {sel : Nat → Bool} (hk : s.Keeps cs) :
    State.Keeps cs (s.landFills u sel) := by
  unfold State.landFills
  exact (Keeps.foldl (fun _ _ h1 => (by (try extract_lets); split; exact (State.endClaim_keeps (State.fillRow_keeps h1)); exact h1)) (State.setTile_keeps hk))

theorem State.discardRow_keeps {s : State} {u : Site} {row : Nat} (hk : s.Keeps cs) :
    State.Keeps cs (s.discardRow u row) := by
  unfold State.discardRow
  exact (State.emptyRow_keeps (State.setTile_keeps hk))

theorem State.setWindow_keeps {s : State} {u : Site} {w : Nat} {x : Window} (hk : s.Keeps cs) :
    State.Keeps cs (s.setWindow u w x) := by
  unfold State.setWindow
  exact (State.setReg_keeps (State.setTile_keeps hk))

theorem State.notify_keeps {s : State} {u : Site} {x : Window} (hk : s.Keeps cs) :
    State.Keeps cs (s.notify u x) := by
  unfold State.notify
  exact (Keeps.ite (State.flagUpdate_keeps hk) hk)

theorem State.openNow_keeps {s : State} {u : Site} {w : Nat} {notify : Bool} {fid : BitVec 6} (hk : s.Keeps cs) :
    State.Keeps cs (s.openNow u w notify fid) := by
  unfold State.openNow
  exact (State.setTfld_keeps (State.setTfld_keeps (State.setWindow_keeps hk)))

theorem State.tryClose_keeps {s : State} {u : Site} {w : Nat} (hk : s.Keeps cs) :
    State.Keeps cs (s.tryClose u w) := by
  unfold State.tryClose
  exact (Keeps.ite hk (by (try extract_lets); split; exact (State.setWindow_keeps (State.notify_keeps hk)); exact (State.openNow_keeps (State.notify_keeps hk)); exact hk))

theorem State.windowOpen_keeps {s : State} {u : Site} {w : Nat} {notify : Bool} {fid : BitVec 6} (hk : s.Keeps cs) :
    State.Keeps cs (s.windowOpen u w notify fid) := by
  unfold State.windowOpen
  exact (by (try extract_lets); split; exact (State.openNow_keeps hk); exact (State.openNow_keeps hk); exact (State.setWindow_keeps hk); exact (State.setWindow_keeps hk))

theorem State.windowClose_keeps {s : State} {u : Site} {w : Nat} (hk : s.Keeps cs) :
    State.Keeps cs (s.windowClose u w) := by
  unfold State.windowClose
  exact (by (try extract_lets); split; exact (State.notify_keeps hk); exact (State.tryClose_keeps (State.setWindow_keeps hk)); exact hk; exact (State.setWindow_keeps hk))

theorem State.dropWrite_keeps {s : State} {u : Site} {reason : Nat} {chip : Nat} {tile : Nat} {kind : Nat} {row : Nat} (hk : s.Keeps cs) :
    State.Keeps cs (s.dropWrite u reason chip tile kind row) := by
  unfold State.dropWrite
  exact (Keeps.ite (State.addTfld_keeps (State.report_keeps hk)) (State.setReg_keeps (State.addTfld_keeps (State.report_keeps hk))))

theorem State.countAdmitted_keeps {s : State} {u : Site} {w : Nat} (hk : s.Keeps cs) :
    State.Keeps cs (s.countAdmitted u w) := by
  unfold State.countAdmitted
  exact (Keeps.ite (State.setWindow_keeps (State.setTfld_keeps hk)) (State.setTfld_keeps hk))

theorem State.landRow_keeps {s : State} {u : Site} {w : Nat} {row : Nat} {data : List Byte} (hk : s.Keeps cs) :
    State.Keeps cs (s.landRow u w row data) := by
  unfold State.landRow
  exact (State.tryClose_keeps (State.setTfld_keeps (State.settleRow_keeps (State.fillRow_keeps hk))))

theorem State.giveVerdict_keeps {s : State} {w : Fin 2} {v : Option Verdict} (hk : s.Keeps cs) :
    State.Keeps cs (s.giveVerdict w v) := by
  unfold State.giveVerdict
  exact (by (try extract_lets); split; exact hk; exact (State.setWing_keeps hk))

theorem State.landIn_keeps {s : State} {u : Site} {h : Inbound} (hk : s.Keeps cs) :
    State.Keeps cs (s.landIn u h) := by
  unfold State.landIn
  exact (Keeps.ite (State.emptyRow_keeps (State.giveVerdict_keeps (State.landRow_keeps hk))) (State.giveVerdict_keeps (State.landRow_keeps hk)))

theorem State.landOrHold_keeps {s : State} {u : Site} {h : Inbound} (hk : s.Keeps cs) :
    State.Keeps cs (s.landOrHold u h) := by
  unfold State.landOrHold
  exact (Keeps.ite (State.landIn_keeps hk) (State.setTile_keeps hk))

theorem State.arriveRow_keeps {s : State} {u : Site} {row : Nat} {kind : Nat} {chip : Nat} {tile : Nat} {named : Option Nat} {aligned : Bool} {src : Option (Nat × Nat × Nat)} {data : List Byte} {v : Option Verdict} (hk : s.Keeps cs) :
    State.Keeps cs (s.arriveRow u row kind chip tile named aligned src data v) := by
  unfold State.arriveRow
  exact (by (try extract_lets); split; exact (State.giveVerdict_keeps (State.dropWrite_keeps hk)); exact (State.landOrHold_keeps (State.countAdmitted_keeps hk)))

theorem State.completeOutside_keeps {s : State} {u : Site} {g : Gather} (hk : s.Keeps cs) :
    State.Keeps cs (s.completeOutside u g) := by
  unfold State.completeOutside
  exact (by (try extract_lets); split; exact (State.landOrHold_keeps (State.countAdmitted_keeps (State.settleRow_keeps (State.setTile_keeps hk)))); exact (State.settleRow_keeps (State.setTile_keeps hk)))

theorem State.arriveWord_keeps {s : State} {u : Site} {row : Nat} {word : Nat} {kind : Nat} {chip : Nat} {aligned : Bool} {bs : List Byte} {v : Option Verdict} (hk : s.Keeps cs) :
    State.Keeps cs (s.arriveWord u row word kind chip aligned bs v) := by
  unfold State.arriveWord
  exact (by (try extract_lets); split; exact (State.giveVerdict_keeps (State.dropWrite_keeps hk)); exact (Keeps.ite (State.completeOutside_keeps (State.giveVerdict_keeps (State.setTile_keeps hk))) (State.giveVerdict_keeps (State.setTile_keeps hk))))

/-! ### Mesh.lean -/

theorem State.enqueue_keeps {s : State} {u : Site} {d : Dir} {p : Packet} (hk : s.Keeps cs) :
    State.Keeps cs (s.enqueue u d p) := by
  unfold State.enqueue
  exact (State.setTile_keeps hk)

theorem State.inject_keeps {s : State} {u : Site} {p : Packet} (hk : s.Keeps cs) :
    State.Keeps cs (s.inject u p) := by
  unfold State.inject
  exact (State.enqueue_keeps hk)

theorem State.badArrival_keeps {s : State} {u : Site} (hk : s.Keeps cs) :
    State.Keeps cs (s.badArrival u) := by
  unfold State.badArrival
  exact (State.addTfld_keeps hk)

theorem State.sendBar_keeps {s : State} {u : Site} {d : Dir} {kind : Nat} {b : Nat} (hk : s.Keeps cs) :
    State.Keeps cs (s.sendBar u d kind b) := by
  unfold State.sendBar
  exact (Keeps.ite (State.badArrival_keeps hk) (State.inject_keeps hk))

theorem State.setBar_keeps {s : State} {u : Site} {b : Nat} {x : BarTrack} (hk : s.Keeps cs) :
    State.Keeps cs (s.setBar u b x) := by
  unfold State.setBar
  exact (State.setTile_keeps hk)

theorem State.barComplete_keeps {s : State} {u : Site} {b : Nat} (hk : s.Keeps cs) :
    State.Keeps cs (s.barComplete u b) := by
  unfold State.barComplete
  exact (Keeps.foldl (fun _ _ h1 => (State.sendBar_keeps h1)) (State.setBar_keeps (State.setTfld_keeps (State.setTfld_keeps (State.setTfld_keeps hk)))))

theorem State.barArrival_keeps {s : State} {u : Site} {b : Nat} {own : Bool} (hk : s.Keeps cs) :
    State.Keeps cs (s.barArrival u b own) := by
  unfold State.barArrival
  exact (Keeps.ite (State.setBar_keeps (State.setTfld_keeps hk)) (Keeps.ite (State.setTfld_keeps (State.setBar_keeps hk)) (Keeps.ite (State.barComplete_keeps (State.setTfld_keeps (State.setBar_keeps hk))) (State.sendBar_keeps (State.setTfld_keeps (State.setTfld_keeps (State.setBar_keeps hk)))))))

theorem State.barApply_keeps {u : Site} {b : Nat} {l : List Bool} {s : State} (h : s.Keeps cs) :
    (State.barApply u b l s).Keeps cs := by
  induction l generalizing s with
  | nil => exact h
  | cons own r ih => exact ih (State.barArrival_keeps (State.setBar_keeps h))

theorem State.barRelease_keeps {s : State} {u : Site} {b : Nat} (hk : s.Keeps cs) :
    State.Keeps cs (s.barRelease u b) := by
  unfold State.barRelease
  exact (State.barApply_keeps (State.setBar_keeps (State.setTfld_keeps (State.barComplete_keeps hk))))

theorem State.barLocal_keeps {s : State} {u : Site} {b : Nat} (hk : s.Keeps cs) :
    State.Keeps cs (s.barLocal u b) := by
  unfold State.barLocal
  exact (Keeps.ite (State.barArrival_keeps hk) (State.setBar_keeps (State.badArrival_keeps hk)))

theorem State.sendReplies_keeps {s : State} {u : Site} {data : List Byte} {x : List Packet} (hk : s.Keeps cs) :
    State.Keeps cs (s.sendReplies u data x) := by
  unfold State.sendReplies
  exact (by (try extract_lets); split; exact hk; exact (State.inject_keeps hk); exact (State.inject_keeps hk))

theorem State.serveReads_keeps {u : Site} {n : Nat} {s : State} (h : s.Keeps cs) : (State.serveReads u n s).Keeps cs := by
  induction n generalizing s with
  | zero => exact h
  | succ n ih =>
    unfold State.serveReads
    extract_lets
    split
    · exact h
    · (try extract_lets)
      split
      · exact State.eccStop_keeps (State.setTile_keeps h)
      · refine ih ?_
        dsimp +zetaDelta only
        split
        · exact Keeps.foldl (fun _ _ h1 => State.countRead_keeps h1) (State.sendReplies_keeps (State.countCorrected_keeps (State.setTile_keeps h)))
        · exact State.sendReplies_keeps (State.countCorrected_keeps (State.setTile_keeps h))

theorem State.serveWords_keeps {u : Site} {n : Nat} {s : State} (h : s.Keeps cs) : (State.serveWords u n s).Keeps cs := by
  induction n generalizing s with
  | zero => exact h
  | succ n ih =>
    unfold State.serveWords
    split
    · exact h
    · (try extract_lets)
      split
      · exact h
      · exact ih (State.arriveWord_keeps (State.setTile_keeps h))

theorem State.pumpTile_keeps {s : State} {u : Site} (hk : s.Keeps cs) :
    State.Keeps cs (s.pumpTile u) := by
  unfold State.pumpTile
  exact (State.serveReads_keeps (State.serveWords_keeps (Keeps.ite (State.landFills_keeps hk) hk)))

theorem State.dropAtDisabled_keeps {s : State} {u : Site} {p : Packet} (hk : s.Keeps cs) :
    State.Keeps cs (s.dropAtDisabled u p) := by
  unfold State.dropAtDisabled
  exact (by (try extract_lets); split; exact (Keeps.ite (State.addTfld_keeps (State.giveVerdict_keeps (State.report_keeps hk))) (State.giveVerdict_keeps (State.report_keeps hk))); exact (Keeps.ite (State.addTfld_keeps (State.giveVerdict_keeps (State.report_keeps hk))) (State.giveVerdict_keeps (State.report_keeps hk))); exact (Keeps.ite (State.addTfld_keeps (State.giveVerdict_keeps (State.report_keeps hk))) (State.giveVerdict_keeps (State.report_keeps hk))); exact (Keeps.ite (State.addTfld_keeps (State.giveVerdict_keeps (State.report_keeps hk))) (State.giveVerdict_keeps (State.report_keeps hk))); exact (State.inject_keeps hk); exact (State.inject_keeps hk); exact hk)

theorem State.arriveRead_keeps {s : State} {u : Site} {dir : Dir} {p : Packet} (hk : s.Keeps cs) :
    State.Keeps cs (s.arriveRead u dir p) := by
  unfold State.arriveRead
  exact (Keeps.ite (State.inject_keeps hk) (by (try extract_lets); split; exact (State.inject_keeps hk); exact (Keeps.ite (State.inject_keeps hk) (State.pumpTile_keeps (State.setTile_keeps hk)))))

theorem State.arriveData_keeps {s : State} {u : Site} {row : Nat} {data : List Byte} (hk : s.Keeps cs) :
    State.Keeps cs (s.arriveData u row data) := by
  unfold State.arriveData
  exact (State.pumpTile_keeps (State.endClaim_keeps (State.fillRow_keeps hk)))

theorem State.arriveStatus_keeps {s : State} {u : Site} {row : Nat} {status : Nat} (hk : s.Keeps cs) :
    State.Keeps cs (s.arriveStatus u row status) := by
  unfold State.arriveStatus
  exact (State.stopHere_keeps (State.endClaim_keeps hk))

theorem State.arriveWordRead_keeps {s : State} {u : Site} {p : Packet} (hk : s.Keeps cs) :
    State.Keeps cs (s.arriveWordRead u p) := by
  unfold State.arriveWordRead
  exact (Keeps.ite (State.inject_keeps hk) (by (try extract_lets); split; exact (State.eccStop_keeps hk); exact (State.inject_keeps (State.countCorrected_keeps hk))))

theorem State.arriveBar_keeps {s : State} {u : Site} {dir : Dir} {b : Nat} (hk : s.Keeps cs) :
    State.Keeps cs (s.arriveBar u dir b) := by
  unfold State.arriveBar
  exact (Keeps.ite (State.barArrival_keeps hk) (State.badArrival_keeps hk))

theorem State.arriveRelease_keeps {s : State} {u : Site} {dir : Dir} {b : Nat} (hk : s.Keeps cs) :
    State.Keeps cs (s.arriveRelease u dir b) := by
  unfold State.arriveRelease
  exact (Keeps.ite (State.barRelease_keeps hk) (State.badArrival_keeps hk))

theorem State.badPacket_keeps {s : State} {u : Site} {dir : Dir} (hk : s.Keeps cs) :
    State.Keeps cs (s.badPacket u dir) := by
  unfold State.badPacket
  exact (State.stopHere_keeps (Keeps.ite hk (State.setTfld_keeps (State.setTfld_keeps (State.setTfld_keeps hk)))))

theorem State.deliver_keeps {s : State} {u : Site} {dir : Dir} {p : Packet} (hk : s.Keeps cs) :
    State.Keeps cs (s.deliver u dir p) := by
  unfold State.deliver
  exact (by (try extract_lets); split; exact (State.arriveBar_keeps hk); exact (State.arriveRelease_keeps hk); exact (Keeps.ite (Keeps.ite hk (State.dropAtDisabled_keeps hk)) (Keeps.ite (State.lateDrop_keeps hk) (by (try extract_lets); split; exact (State.pumpTile_keeps (State.arriveRow_keeps hk)); exact (State.pumpTile_keeps (State.arriveRow_keeps hk)); exact (State.pumpTile_keeps (State.arriveWord_keeps hk)); exact (State.arriveRead_keeps hk); exact (State.arriveData_keeps hk); exact (Keeps.foldl (fun _ _ h4 => (State.arriveData_keeps h4)) hk); exact (State.arriveStatus_keeps hk); exact (State.arriveWordRead_keeps hk); exact hk; exact (State.giveVerdict_keeps (State.flagUpdate_keeps hk)); exact (State.badPacket_keeps hk)))))

theorem State.linkBad_keeps {s : State} {u : Site} {input : Dir} (hk : s.Keeps cs) :
    State.Keeps cs (s.linkBad u input) := by
  unfold State.linkBad
  exact (State.stopHere_keeps (Keeps.ite hk (State.setTfld_keeps (State.setTfld_keeps (State.setTfld_keeps hk)))))

theorem State.bridgeBad_keeps {s : State} {w : Fin 2} {row : Nat} (hk : s.Keeps cs) :
    State.Keeps cs (s.bridgeBad w row) := by
  unfold State.bridgeBad
  exact (State.stopHere_keeps (Keeps.ite hk (State.setFld_keeps (State.setFld_keeps hk))))

theorem State.cross_keeps {s : State} {u : Site} {out : Dir} {p : Packet} {e : LinkErr} (hk : s.Keeps cs) :
    State.Keeps cs (s.cross u out p e) := by
  unfold State.cross
  exact (Keeps.ite (Keeps.ite (State.bridgeBad_keeps (State.addFld_keeps hk)) (State.enqueue_keeps (State.addFld_keeps hk))) (Keeps.ite (State.linkBad_keeps (State.addTfld_keeps hk)) (State.enqueue_keeps (State.addTfld_keeps hk))))

theorem State.passTo_keeps {s : State} {u : Site} {dir : Dir} {p : Packet} {out : Dir} (hk : s.Keeps cs) :
    State.Keeps cs (s.passTo u dir p out) := by
  unfold State.passTo
  exact (by (try extract_lets); split; exact (State.deliver_keeps (State.setTile_keeps hk)); exact (State.cross_keeps (State.setTile_keeps hk)))

theorem State.arrive_keeps {s : State} {u : Site} {dir : Dir} {p : Packet} {tie : Bool} (hk : s.Keeps cs) :
    State.Keeps cs (s.arrive u dir p tie) := by
  unfold State.arrive
  exact (Keeps.ite (State.badPacket_keeps hk) (Keeps.ite (Keeps.foldl (fun _ _ h1 => (State.passTo_keeps h1)) (State.countTdc_keeps hk)) (State.enqueue_keeps hk)))

end Sys2Proof.Machine
end

