-- ==== Sys2Proof/Laws/KeepsTile.lean ====
section
/-!
SUPPORT. Keeps (Laws/Keeps.lean) for a tile, its array, the HBM path and their events.
-/
namespace Sys2Proof.Machine

variable {cs : List Instr}

/-! ### Array.lean -/

theorem State.refreshArray_keeps {s : State} {u : Site} (hk : s.Keeps cs) :
    State.Keeps cs (s.refreshArray u) := by
  unfold State.refreshArray
  exact (State.setReg_keeps hk)

theorem State.unlockRows_keeps {s : State} {u : Site} {xs : List (Nat × Nat)} (hk : s.Keeps cs) :
    State.Keeps cs (s.unlockRows u xs) := by
  unfold State.unlockRows
  exact (Keeps.foldl (fun _ _ h1 => (State.settleRow_keeps (State.countRead_keeps h1))) hk)

theorem State.streamBegin_keeps {s : State} {u : Site} (hk : s.Keeps cs) :
    State.Keeps cs (s.streamBegin u) := by
  unfold State.streamBegin
  exact (by (try extract_lets); split; exact (Keeps.ite hk (State.refreshArray_keeps (State.setTile_keeps hk))); exact hk)

theorem State.vectorFeed_keeps {s : State} {u : Site} {found : RowErr} (hk : s.Keeps cs) :
    State.Keeps cs (s.vectorFeed u found) := by
  unfold State.vectorFeed
  exact (by (try extract_lets); split; exact (Keeps.ite hk (by (try extract_lets); split; exact hk; exact (by (try extract_lets); split; exact (State.eccStop_keeps hk); exact (State.pumpTile_keeps (State.refreshArray_keeps (State.unlockRows_keeps (Keeps.ite (State.addTfld_keeps (State.setTile_keeps (State.countCorrected_keeps hk))) (State.addEv_keeps (State.addTfld_keeps (State.setTile_keeps (State.countCorrected_keeps hk))))))))))); exact hk)

theorem State.accRowWrite_keeps {s : State} {u : Site} (hk : s.Keeps cs) :
    State.Keeps cs (s.accRowWrite u) := by
  unfold State.accRowWrite
  exact (by (try extract_lets); split; exact hk; exact (Keeps.ite (State.tileFault_keeps (State.setTile_keeps hk)) (by (try extract_lets); split <;> exact (State.addEv_keeps (State.setTile_keeps hk)))))

theorem State.fillComplete_keeps {s : State} {u : Site} (hk : s.Keeps cs) :
    State.Keeps cs (s.fillComplete u) := by
  unfold State.fillComplete
  exact (by (try extract_lets); split; exact hk; exact (State.pumpTile_keeps (State.refreshArray_keeps (State.unlockRows_keeps (State.setTile_keeps hk)))))

/-! ### Tile.lean -/

theorem State.writeAccess_keeps {s : State} {b : Block} {o : Nat} {a : Nat} {v : Word} (hk : s.Keeps cs) :
    State.Keeps cs (s.writeAccess b o a v) := by
  unfold State.writeAccess
  exact (by (try extract_lets); split; exact (State.setReg_keeps hk); exact hk)

theorem State.applyEffect_keeps {s : State} {u : Site} {x : Effect} (hk : s.Keeps cs) :
    State.Keeps cs (s.applyEffect u x) := by
  unfold State.applyEffect
  exact (by (try extract_lets); split; exact (State.setTile_keeps hk); exact (State.setTile_keeps hk); exact (State.setTile_keeps hk); exact (State.setTile_keeps (State.writeAccess_keeps hk)); exact (State.endClaim_keeps (State.fillRow_keeps hk)))

theorem State.settle_keeps {s : State} {u : Site} (hk : s.Keeps cs) :
    State.Keeps cs (s.settle u) := by
  unfold State.settle
  exact (Keeps.foldl (fun _ _ h1 => (State.applyEffect_keeps h1)) (State.setTile_keeps hk))

theorem State.markWait_keeps {s : State} {u : Site} {b : Bundle} {cause : Nat} (hk : s.Keeps cs) :
    State.Keeps cs (s.markWait u b cause) := by
  unfold State.markWait
  exact (State.pumpTile_keeps (State.landFills_keeps (State.setReg_keeps hk)))

theorem State.addResults_keeps {s : State} {u : Site} {l : List PendWrite} (hk : s.Keeps cs) :
    State.Keeps cs (s.addResults u l) := by
  unfold State.addResults
  exact (State.setTile_keeps hk)

theorem State.swapTable_keeps {s : State} {u : Site} {v : Nat} {n : Nat} (hk : s.Keeps cs) :
    State.Keeps cs (s.swapTable u v n) := by
  unfold State.swapTable
  exact (Keeps.ite (State.setReg_keeps (State.setReg_keeps hk)) hk)

theorem State.beginStep_keeps {s : State} {u : Site} (hk : s.Keeps cs) :
    State.Keeps cs (s.beginStep u) := by
  unfold State.beginStep
  exact (Keeps.foldl (fun _ _ h1 => (State.swapTable_keeps h1)) (State.setTile_keeps (State.setTfld_keeps (State.setTfld_keeps (State.setTfld_keeps (State.setTfld_keeps (State.setTfld_keeps hk)))))))

theorem State.endStep_keeps {s : State} {u : Site} (hk : s.Keeps cs) :
    State.Keeps cs (s.endStep u) := by
  unfold State.endStep
  exact (Keeps.foldl (fun _ _ h1 => (State.stepEmpty_keeps h1)) (State.setWing_keeps (State.setTile_keeps hk)))

theorem State.ctlEffect_keeps {s0 s : State} {u : Site} {x : CtlOp} (h : s.Keeps cs) : (s0.ctlEffect u s x).Keeps cs := by
  cases x with
  | brc cond sa sb target =>
    show State.Keeps cs (if cond = 7 ∧ s0.satOver u then s.addTfld u Reg.TC_WIDE_RUNS.RUNS 1 else s)
    exact Keeps.ite (State.addTfld_keeps h) h
  | stepBegin =>
    show State.Keeps cs (s.beginStep u)
    exact State.beginStep_keeps h
  | stepEnd =>
    show State.Keeps cs (s.endStep u)
    exact State.endStep_keeps h
  | loop => exact h
  | twait => exact h
  | reserved => exact h

theorem State.winCtl_keeps {s : State} {u : Site} {v : Word} (hk : s.Keeps cs) :
    State.Keeps cs (s.winCtl u v) := by
  unfold State.winCtl
  exact (by (try extract_lets); split; exact (State.windowOpen_keeps hk); exact (State.windowClose_keeps hk); exact hk)

theorem State.runWrite_keeps {s : State} {u : Site} {v : Word} (hk : s.Keeps cs) :
    State.Keeps cs (s.runWrite u v) := by
  unfold State.runWrite
  exact (Keeps.ite (State.setFld_keeps (State.setTfld_keeps (Keeps.ite (State.setTfld_keeps (State.setTfld_keeps hk)) (State.setReg_keeps (State.setTfld_keeps (State.setTfld_keeps hk)))))) (Keeps.ite (State.setTfld_keeps (State.setTfld_keeps hk)) (State.setReg_keeps (State.setTfld_keeps (State.setTfld_keeps hk)))))

theorem State.tagEmpty_keeps {s : State} {u : Site} {v : Word} (hk : s.Keeps cs) :
    State.Keeps cs (s.tagEmpty u v) := by
  unfold State.tagEmpty
  exact (Keeps.foldl (fun _ _ h1 => (State.discardRow_keeps h1)) hk)

theorem State.sealWrite_keeps {s : State} {u : Site} {n : Nat} {v : Word} (hk : s.Keeps cs) :
    State.Keeps cs (s.sealWrite u n v) := by
  unfold State.sealWrite
  exact (Keeps.foldl (fun _ _ h1 => (State.seal_keeps h1)) hk)

theorem State.tcWrite_keeps {s : State} {u : Site} {own : Bool} {n : Nat} {o : Nat} {v : Word} (hk : s.Keeps cs) :
    State.Keeps cs (s.tcWrite u own n o v) := by
  unfold State.tcWrite
  exact (Keeps.ite (State.runWrite_keeps hk) (Keeps.ite hk (Keeps.ite (Keeps.ite hk (State.writeAccess_keeps hk)) (Keeps.ite (State.winCtl_keeps hk) (Keeps.ite (State.tagEmpty_keeps hk) (Keeps.ite (State.sealWrite_keeps hk) (Keeps.ite (Keeps.ite (State.clearSat_keeps (State.refreshOver_keeps (State.writeAccess_keeps hk))) (State.refreshOver_keeps (State.writeAccess_keeps hk))) (Keeps.ite (State.setTile_keeps (State.writeAccess_keeps hk)) (State.writeAccess_keeps hk)))))))))

theorem State.memEffect_keeps {s0 : State} {u : Site} {n : Nat} {s : State} {x : MemOp} (hk : s.Keeps cs) :
    State.Keeps cs (s0.memEffect u n s x) := by
  unfold State.memEffect
  exact (by (try extract_lets); split; exact (Keeps.ite (State.countReads_keeps hk) hk); exact (Keeps.ite (by (try extract_lets); split; exact (State.narrowWrite_keeps hk); exact hk) (State.tcWrite_keeps hk)); exact hk)

theorem State.refreshQ_keeps {s : State} {u : Site} (hk : s.Keeps cs) :
    State.Keeps cs (s.refreshQ u) := by
  unfold State.refreshQ
  exact (State.setTfld_keeps (State.setTfld_keeps hk))

theorem State.setLoad_keeps {s : State} {u : Site} {k : Nat} {x : Ticket} (hk : s.Keeps cs) :
    State.Keeps cs (s.setLoad u k x) := by
  unfold State.setLoad
  exact (State.refreshQ_keeps (State.setTile_keeps hk))

theorem State.setStore_keeps {s : State} {u : Site} {k : Nat} {x : Ticket} (hk : s.Keeps cs) :
    State.Keeps cs (s.setStore u k x) := by
  unfold State.setStore
  exact (State.refreshQ_keeps (State.setTile_keeps hk))

theorem State.releaseLoad_keeps {s : State} {u : Site} {k : Nat} (hk : s.Keeps cs) :
    State.Keeps cs (s.releaseLoad u k) := by
  unfold State.releaseLoad
  exact (Keeps.ite hk (Keeps.ite (Keeps.foldl (fun _ _ h1 => (State.endClaim_keeps (Keeps.ite (State.setTile_keeps h1) h1))) (State.setLoad_keeps hk)) (State.stopHere_keeps (Keeps.foldl (fun _ _ h2 => (State.endClaim_keeps (Keeps.ite (State.setTile_keeps h2) h2))) (State.setLoad_keeps hk)))))

theorem State.releaseStore_keeps {s : State} {u : Site} {k : Nat} (hk : s.Keeps cs) :
    State.Keeps cs (s.releaseStore u k) := by
  unfold State.releaseStore
  exact (Keeps.ite hk (Keeps.ite (State.setStore_keeps hk) (State.stopHere_keeps (State.setStore_keeps hk))))

theorem State.takeTicket_keeps {s : State} {u : Site} (hk : s.Keeps cs) :
    State.Keeps cs (s.takeTicket u) := by
  unfold State.takeTicket
  exact (State.setTile_keeps hk)

theorem State.qEffect_keeps {s0 : State} {u : Site} {s : State} {x : QOp} (hk : s.Keeps cs) :
    State.Keeps cs (s0.qEffect u s x) := by
  unfold State.qEffect
  exact (by (try extract_lets); split; exact (State.setLoad_keeps (State.takeTicket_keeps (Keeps.foldl (fun _ _ h3 => (State.claimTarget_keeps h3)) hk))); exact (State.setStore_keeps (State.takeTicket_keeps (State.countReads_keeps hk))); exact (Keeps.foldl (fun _ _ h4 => (Keeps.ite (State.releaseStore_keeps h4) (State.releaseLoad_keeps h4))) hk); exact hk)

theorem State.sendTo_keeps {s : State} {u : Site} {off : Nat} {p : Packet} (hk : s.Keeps cs) :
    State.Keeps cs (s.sendTo u off p) := by
  unfold State.sendTo
  exact (Keeps.ite (State.report_keeps hk) (State.inject_keeps hk))

theorem State.sendRow_keeps {s : State} {u : Site} {p : Packet} (hk : s.Keeps cs) :
    State.Keeps cs (s.sendRow u p) := by
  unfold State.sendRow
  exact (Keeps.ite hk (by (try extract_lets); split; exact (Keeps.ite (State.inject_keeps hk) (State.sendTo_keeps hk)); exact (Keeps.ite (State.inject_keeps hk) (State.report_keeps hk))))

theorem State.netEffect_keeps {s0 : State} {u : Site} {s : State} {x : NetOp} (hk : s.Keeps cs) :
    State.Keeps cs (s0.netEffect u s x) := by
  unfold State.netEffect
  exact (by (try extract_lets); split; exact (Keeps.foldl (fun _ _ h5 => (State.sendRow_keeps h5)) (State.countReads_keeps hk)); exact (Keeps.foldl (fun _ _ h6 => (State.sendTo_keeps h6)) (State.countReads_keeps hk)); exact (Keeps.foldl (fun _ _ h7 => (by (try extract_lets); split; exact (Keeps.ite (State.arriveStatus_keeps h7) (State.inject_keeps h7)); exact (Keeps.ite (State.inject_keeps h7) (State.arriveStatus_keeps h7)))) (Keeps.foldl (fun _ _ h8 => (State.claimTarget_keeps h8)) hk)); exact (Keeps.ite hk (State.barLocal_keeps hk)); exact (Keeps.ite hk (Keeps.ite (State.sendTo_keeps hk) (State.flagUpdate_keeps hk))); exact hk)

theorem State.release_keeps {s : State} {u : Site} {f : VForm} (hk : s.Keeps cs) :
    State.Keeps cs (s.release u f) := by
  unfold State.release
  exact (Keeps.ite (State.setTile_keeps hk) hk)

theorem State.addLaneEv_keeps {s : State} {u : Site} {n : Nat} {r : Option (List Lane × Ev)} (hk : s.Keeps cs) :
    State.Keeps cs (s.addLaneEv u n r) := by
  unfold State.addLaneEv
  exact (by (try extract_lets); split; exact (State.addEv_keeps hk); exact hk)

theorem State.vecEffect_keeps {s0 : State} {u : Site} {n : Nat} {s : State} {k : VKind} {f : VForm} (hk : s.Keeps cs) :
    State.Keeps cs (s0.vecEffect u n s k f) := by
  unfold State.vecEffect
  exact (by (try extract_lets); split; exact (State.countReads_keeps (State.addLaneEv_keeps hk)); exact (State.release_keeps (State.addLaneEv_keeps hk)); exact (by (try extract_lets); split; exact (State.addEv_keeps (State.narrowWrite_keeps (State.addLaneEv_keeps hk))); exact (State.addLaneEv_keeps hk)); exact (by (try extract_lets); split; exact (State.narrowWrite_keeps (State.addLaneEv_keeps hk)); exact (State.addLaneEv_keeps hk)); exact (State.release_keeps (State.countReads_keeps (State.addLaneEv_keeps hk))); exact (State.addLaneEv_keeps hk))

theorem State.vecSlot_keeps {s0 : State} {u : Site} {n : Nat} {s : State} {x : VecOp} (hk : s.Keeps cs) :
    State.Keeps cs (s0.vecSlot u n s x) := by
  unfold State.vecSlot
  exact (by (try extract_lets); split; exact (State.vecEffect_keeps hk); exact hk; exact hk)

theorem State.loadEffect_keeps {s0 : State} {u : Site} {s : State} {w : Nat} {sparse : Bool} {l : LoadRows} {side : Bool} (hk : s.Keeps cs) :
    State.Keeps cs (s0.loadEffect u s w sparse l side) := by
  unfold State.loadEffect
  exact (State.refreshArray_keeps (State.setTile_keeps hk))

theorem State.arrEffect_keeps {s0 : State} {u : Site} {n : Nat} {s : State} {x : ArrOp} (hk : s.Keeps cs) :
    State.Keeps cs (s0.arrEffect u n s x) := by
  unfold State.arrEffect
  exact (by (try extract_lets); split; exact (by (try extract_lets); split; exact (State.loadEffect_keeps hk); exact hk); exact (by (try extract_lets); split; exact (State.loadEffect_keeps hk); exact hk); exact (State.refreshArray_keeps (State.setTile_keeps hk)); exact hk)

theorem State.advance_keeps {s0 : State} {u : Site} {gs : List Nat} {s : State} (hk : s.Keeps cs) :
    State.Keeps cs (s0.advance u gs s) := by
  unfold State.advance
  exact (Keeps.foldl (fun _ _ h1 => (State.setTile_keeps h1)) hk)

theorem State.checkBreak_keeps {s : State} {u : Site} (hk : s.Keeps cs) :
    State.Keeps cs (s.checkBreak u) := by
  unfold State.checkBreak
  exact (Keeps.ite (State.setFld_keeps hk) hk)

theorem State.slotEffects_keeps {s0 : State} {u : Site} {b : Bundle} (hk : s0.Keeps cs) :
    State.Keeps cs (s0.slotEffects u b) := by
  unfold State.slotEffects
  exact (Keeps.opt (fun _ _ h1 => (State.arrEffect_keeps h1)) (Keeps.opt (fun _ _ h2 => (State.vecSlot_keeps h2)) (Keeps.opt (fun _ _ h3 => (State.netEffect_keeps h3)) (Keeps.opt (fun _ _ h4 => (State.qEffect_keeps h4)) (Keeps.opt (fun _ _ h5 => (State.memEffect_keeps h5)) (Keeps.opt (fun _ _ h6 => (State.ctlEffect_keeps h6)) (State.advance_keeps hk)))))))

theorem State.retire_keeps {s0 : State} {u : Site} {b : Bundle} {s : State} (hk : s.Keeps cs) :
    State.Keeps cs (s0.retire u b s) := by
  unfold State.retire
  exact (State.checkBreak_keeps (State.countTdc_keeps (State.setTile_keeps (State.setReg_keeps (State.setTfld_keeps (State.addTfld_keeps (State.countCorrected_keeps (Keeps.ite hk (State.countCorrected_keeps hk)))))))))

theorem State.issueNow_keeps {s0 : State} {u : Site} {b : Bundle} (hk : s0.Keeps cs) :
    State.Keeps cs (s0.issueNow u b) := by
  unfold State.issueNow
  exact (State.retire_keeps (State.addResults_keeps (State.pumpTile_keeps (State.slotEffects_keeps hk))))

theorem State.barAwait_keeps {s : State} {u : Site} {bid : Nat} (hk : s.Keeps cs) :
    State.Keeps cs (s.barAwait u bid) := by
  unfold State.barAwait
  exact (Keeps.ite hk (State.setTile_keeps (State.barLocal_keeps hk)))

theorem State.issueBar_keeps {s : State} {u : Site} {b : Bundle} {bid : Nat} (hk : s.Keeps cs) :
    State.Keeps cs (s.issueBar u b bid) := by
  unfold State.issueBar
  exact (Keeps.ite (State.issueNow_keeps (State.barAwait_keeps hk)) (State.markWait_keeps (State.barAwait_keeps hk)))

theorem State.issueSettled_keeps {s : State} {u : Site} {b : Bundle} (hk : s.Keeps cs) :
    State.Keeps cs (s.issueSettled u b) := by
  unfold State.issueSettled
  exact (by (try extract_lets); split; exact (State.eccStop_keeps hk); exact (by (try extract_lets); split; exact (State.tileFault_keeps hk); exact (by (try extract_lets); split; exact (State.markWait_keeps hk); exact (by (try extract_lets); split; exact (State.eccStop_keeps hk); exact (by (try extract_lets); split; exact (State.issueBar_keeps hk); exact (State.issueNow_keeps hk))))))

theorem State.issue_keeps {s : State} {u : Site} {b : Bundle} (hk : s.Keeps cs) :
    State.Keeps cs (s.issue u b) := by
  unfold State.issue
  exact (Keeps.ite (State.issueSettled_keeps (State.settle_keeps hk)) hk)

/-! ### Hbm.lean -/

theorem State.hbmViolation_keeps {s : State} {w : Fin 2} {reason : Nat} {kind : Nat} {chip : Nat} {tile : Nat} (hk : s.Keeps cs) :
    State.Keeps cs (s.hbmViolation w reason kind chip tile) := by
  unfold State.hbmViolation
  exact (Keeps.ite (State.addFld_keeps hk) (State.setFld_keeps (State.setFld_keeps (State.setFld_keeps (State.setFld_keeps (State.setFld_keeps (State.addFld_keeps hk)))))))

theorem State.clearPoison_keeps {s : State} {w : Fin 2} {off : Nat} {n : Nat} (hk : s.Keeps cs) :
    State.Keeps cs (s.clearPoison w off n) := by
  unfold State.clearPoison
  exact (State.setWing_keeps hk)

theorem State.poisonGranule_keeps {s : State} {w : Fin 2} {g : Nat} {block : Nat} {source : Nat} (hk : s.Keeps cs) :
    State.Keeps cs (s.poisonGranule w g block source) := by
  unfold State.poisonGranule
  exact (Keeps.ite (Keeps.ite hk (State.addFld_keeps (State.setWing_keeps hk))) (State.setFld_keeps (State.setFld_keeps (State.setFld_keeps (State.setFld_keeps (Keeps.ite hk (State.addFld_keeps (State.setWing_keeps hk))))))))

theorem State.hbmCommand_keeps {s : State} {w : Fin 2} {off : Nat} {n : Nat} {o : HbmOut} (hk : s.Keeps cs) :
    FstKeeps cs (s.hbmCommand w off n o) := by
  unfold State.hbmCommand
  exact (FstKeeps.ite hk (FstKeeps.ite (State.setFld_keeps (State.addFld_keeps (Keeps.ite (State.addFld_keeps hk) hk))) (State.addFld_keeps (Keeps.ite (State.addFld_keeps hk) hk))))

theorem State.hbmReadCheck_keeps {s : State} {w : Fin 2} {off : Nat} {n : Nat} {source : Nat} {o : HbmOut} (hk : s.Keeps cs) :
    FstKeeps cs (s.hbmReadCheck w off n source o) := by
  unfold State.hbmReadCheck
  exact (FstKeeps.ite (State.hbmCommand_keeps hk) (FstKeeps.ite (State.addFld_keeps (State.addFld_keeps (State.hbmCommand_keeps hk))) (by (try extract_lets); split; exact (State.poisonGranule_keeps (State.addFld_keeps (State.addFld_keeps (State.hbmCommand_keeps hk)))); exact (State.addFld_keeps (State.addFld_keeps (State.hbmCommand_keeps hk))))))

theorem State.markDirty_keeps {s : State} {w : Fin 2} {off : Nat} {n : Nat} (hk : s.Keeps cs) :
    State.Keeps cs (s.markDirty w off n) := by
  unfold State.markDirty
  exact (by (try extract_lets); split; exact (Keeps.ite (State.setWing_keeps hk) hk); exact hk)

theorem State.hbmStore_keeps {s : State} {w : Fin 2} {off : Nat} {data : List Byte} (hk : s.Keeps cs) :
    State.Keeps cs (s.hbmStore w off data) := by
  unfold State.hbmStore
  exact (State.markDirty_keeps (State.clearPoison_keeps (State.writeRun_keeps hk)))

theorem State.hbmPut_keeps {s : State} {w : Fin 2} {off : Nat} {data : List Byte} {o : HbmOut} (hk : s.Keeps cs) :
    FstKeeps cs (s.hbmPut w off data o) := by
  unfold State.hbmPut
  exact (Keeps.ite (State.hbmStore_keeps (State.hbmCommand_keeps hk)) (State.hbmCommand_keeps hk))

theorem State.hbmGet_keeps {s : State} {w : Fin 2} {off : Nat} {n : Nat} {o : HbmOut} (hk : s.Keeps cs) :
    FstKeeps cs (s.hbmGet w off n o) := by
  unfold State.hbmGet
  exact (State.hbmReadCheck_keeps hk)

theorem State.overPieces_keeps {f : State → Nat → Nat → Nat → State × Nat × List Byte} {s : State} {l : List (Nat × Nat)}
    (hf : ∀ s a b c, s.Keeps cs → FstKeeps cs (f s a b c)) (h : s.Keeps cs) : FstKeeps cs (State.overPieces f s l) := by
  unfold State.overPieces
  suffices H : ∀ (l : List ((Nat × Nat) × Nat)) (r : State × Nat × List Byte), r.1.Keeps cs →
      (l.foldl (fun r p =>
        let x := f r.1 p.2 p.1.1 p.1.2
        (x.1, if r.2.1 = stOk then x.2.1 else r.2.1, r.2.2 ++ x.2.2)) r).1.Keeps cs from H _ _ h
  intro l
  induction l with
  | nil => exact fun _ hr => hr
  | cons a r ih => exact fun x hx => ih _ (hf x.1 _ _ _ hx)

theorem State.setCancelBit_keeps {s : State} {w : Fin 2} {slot : Nat} {b : Bool} (hk : s.Keeps cs) :
    State.Keeps cs (s.setCancelBit w slot b) := by
  unfold State.setCancelBit
  exact (State.setReg_keeps hk)

theorem State.flipSpans_keeps {s : State} {w : Fin 2} {step : Nat} (hk : s.Keeps cs) :
    State.Keeps cs (s.flipSpans w step) := by
  unfold State.flipSpans
  exact (Keeps.ite (State.setFld_keeps (State.setFld_keeps hk)) hk)

theorem State.spanCtl_keeps {s : State} {w : Fin 2} {v : Word} (hk : s.Keeps cs) :
    State.Keeps cs (s.spanCtl w v) := by
  unfold State.spanCtl
  exact (Keeps.ite (Keeps.ite (State.setFld_keeps (Keeps.ite (State.setFld_keeps hk) hk)) (State.setFld_keeps (Keeps.ite (State.setFld_keeps hk) hk))) (Keeps.ite (State.setFld_keeps (Keeps.ite (State.setFld_keeps (Keeps.ite (State.setFld_keeps hk) hk)) (State.setFld_keeps (Keeps.ite (State.setFld_keeps hk) hk)))) (State.stopHere_keeps (State.setFld_keeps (Keeps.ite (State.setFld_keeps (Keeps.ite (State.setFld_keeps hk) hk)) (State.setFld_keeps (Keeps.ite (State.setFld_keeps hk) hk)))))))

theorem State.loadRowsInto_keeps {s : State} {u : Site} {rows : List Nat} {off : Nat} (hk : s.Keeps cs) :
    State.Keeps cs (s.loadRowsInto u rows off) := by
  unfold State.loadRowsInto
  exact (Keeps.foldl (fun _ _ h1 => (State.setTile_keeps (State.writeRow_keeps h1))) hk)

theorem State.completeLoad_keeps {s : State} {u : Site} {k : Nat} {o : HbmOut} (hk : s.Keeps cs) :
    State.Keeps cs (s.completeLoad u k o) := by
  unfold State.completeLoad
  exact (Keeps.ite hk (by (try extract_lets); split; exact (State.setLoad_keeps (State.hbmViolation_keeps hk)); exact (Keeps.ite (State.loadRowsInto_keeps (State.setLoad_keeps (State.hbmReadCheck_keeps hk))) (State.setLoad_keeps (State.hbmReadCheck_keeps hk)))))

theorem State.completeStore_keeps {s : State} {u : Site} {k : Nat} {o : HbmOut} (hk : s.Keeps cs) :
    State.Keeps cs (s.completeStore u k o) := by
  unfold State.completeStore
  exact (Keeps.ite hk (by (try extract_lets); split; exact (State.setStore_keeps (State.hbmViolation_keeps hk)); exact (Keeps.ite (State.setStore_keeps (State.addFld_keeps hk)) (Keeps.ite (State.hbmStore_keeps (State.setStore_keeps (State.hbmCommand_keeps hk))) (State.setStore_keeps (State.hbmCommand_keeps hk))))))

theorem State.hbmAccess_keeps {s : State} {w : Fin 2} {src : HbmSrc} {kind : Nat} {chip : Nat} {off : Nat} {n : Nat} {data : List Byte} {o : HbmOut} (hk : s.Keeps cs) :
    FstKeeps cs (s.hbmAccess w src kind chip off n data o) := by
  unfold State.hbmAccess
  exact (by (try extract_lets); split; exact (State.hbmViolation_keeps hk); exact (by (try extract_lets); split; exact (State.hbmGet_keeps hk); exact (State.hbmGet_keeps hk); exact (State.hbmGet_keeps hk); exact (State.hbmPut_keeps hk)))

theorem State.hawkAccess_keeps {s : State} {w : Fin 2} {write : Bool} {off : Nat} {n : Nat} {data : List Byte} {outs : List HbmOut} (hk : s.Keeps cs) :
    FstKeeps cs (s.hawkAccess w write off n data outs) := by
  unfold State.hawkAccess
  exact (by (try extract_lets); split; exact (State.hbmViolation_keeps hk); exact (FstKeeps.ite (State.overPieces_keeps (fun _ _ _ _ h3 => (State.hbmPut_keeps h3)) hk) (State.overPieces_keeps (fun _ _ _ _ h4 => (State.hbmGet_keeps h4)) hk)))

theorem State.hawkAnswer_keeps {s : State} {w : Fin 2} {status : Nat} {data : List Byte} (hk : s.Keeps cs) :
    State.Keeps cs (s.hawkAnswer w status data) := by
  unfold State.hawkAnswer
  exact (State.setWing_keeps hk)

theorem execQldComplete_keeps {u : Site} {ticket : BitVec 5} {o : HbmOut} {s : State} (hk : s.Keeps cs) :
    ResKeeps cs (execQldComplete u ticket o s) := by
  unfold execQldComplete
  exact (ResKeeps.next (State.completeLoad_keeps hk))

theorem execQstComplete_keeps {u : Site} {ticket : BitVec 5} {o : HbmOut} {tie : Bool} {s : State} (hk : s.Keeps cs) :
    ResKeeps cs (execQstComplete u ticket o tie s) := by
  unfold execQstComplete
  exact (ResKeeps.next (State.completeStore_keeps (State.countTdc_keeps hk)))

theorem execHbmRefresh_keeps {w : Fin 2} {stack : Fin 10} {bank : BitVec 8} {ends : Bool} {s : State} (hk : s.Keeps cs) :
    ResKeeps cs (execHbmRefresh w stack bank ends s) := by
  unfold execHbmRefresh
  exact (ResKeeps.next (State.setWing_keeps hk))

theorem execCmScrub_keeps {w : Fin 2} {granule : BitVec 28} {o : HbmOut} {s : State} (hk : s.Keeps cs) :
    ResKeeps cs (execCmScrub w granule o s) := by
  unfold execCmScrub
  exact (ResKeeps.ite (ResKeeps.next hk) (ResKeeps.ite (ResKeeps.next (State.hbmCommand_keeps hk)) (by (try extract_lets); split; exact (ResKeeps.next (State.event_keeps (State.poisonGranule_keeps (State.addFld_keeps (State.addFld_keeps (State.hbmCommand_keeps hk)))))); exact (ResKeeps.next (State.addFld_keeps (State.addFld_keeps (State.hbmCommand_keeps hk)))))))

theorem execHawkHbmAccess_keeps {w : Fin 2} {write : Bool} {off : BitVec 48} {len : Nat} {data : List Byte} {outs : List HbmOut} {tie : Bool} {s : State} (hk : s.Keeps cs) :
    ResKeeps cs (execHawkHbmAccess w write off len data outs tie s) := by
  unfold execHawkHbmAccess
  exact (ResKeeps.next (State.hawkAnswer_keeps (State.hawkAccess_keeps (State.countTdc_keeps hk))))

theorem State.fabricStore_keeps {s : State} {w : Fin 2} {p : FPacket} {o : HbmOut} (hk : s.Keeps cs) :
    State.Keeps cs (s.fabricStore w p o) := by
  unfold State.fabricStore
  exact (State.giveVerdict_keeps (State.hbmAccess_keeps hk))

theorem execHbmWrite_keeps {w : Fin 2} {p : FPacket} {o : HbmOut} {tie : Bool} {s : State} (hk : s.Keeps cs) :
    ResKeeps cs (execHbmWrite w p o tie s) := by
  unfold execHbmWrite
  exact (ResKeeps.ite (ResKeeps.next (State.setWing_keeps hk)) (ResKeeps.next (State.fabricStore_keeps (State.setWing_keeps (State.countTdc_keeps hk)))))

theorem execCmCancelSet_keeps {w : Fin 2} {slot : BitVec 14} {tie : Bool} {s : State} (hk : s.Keeps cs) :
    ResKeeps cs (execCmCancelSet w slot tie s) := by
  unfold execCmCancelSet
  exact (ResKeeps.next (State.whenUp_keeps hk (State.setCancelBit_keeps (State.countTdc_keeps hk))))

theorem execCmCancelClr_keeps {w : Fin 2} {slot : BitVec 14} {s : State} (hk : s.Keeps cs) :
    ResKeeps cs (execCmCancelClr w slot s) := by
  unfold execCmCancelClr
  exact (ResKeeps.next (State.whenUp_keeps hk (State.setCancelBit_keeps hk)))

theorem execSpanArm_keeps {w : Fin 2} {value : BitVec 64} {tie : Bool} {s : State} (hk : s.Keeps cs) :
    ResKeeps cs (execSpanArm w value tie s) := by
  unfold execSpanArm
  exact (ResKeeps.next (State.whenUp_keeps hk (State.spanCtl_keeps (State.countTdc_keeps hk))))

theorem execHbmStackTrained_keeps {w : Fin 2} {stack : Fin 10} {s : State} (hk : s.Keeps cs) :
    ResKeeps cs (execHbmStackTrained w stack s) := by
  unfold execHbmStackTrained
  exact (ResKeeps.next (State.setFld_keeps hk))

theorem execHbmStackHot_keeps {w : Fin 2} {stack : Fin 10} {hot : Bool} {s : State} (hk : s.Keeps cs) :
    ResKeeps cs (execHbmStackHot w stack hot s) := by
  unfold execHbmStackHot
  exact (ResKeeps.next (State.setFld_keeps hk))

/-! ### TileEvents.lean -/

theorem execStreamBeginFeed_keeps {u : Site} {s : State} (hk : s.Keeps cs) :
    ResKeeps cs (execStreamBeginFeed u s) := by
  unfold execStreamBeginFeed
  exact (ResKeeps.next (State.streamBegin_keeps hk))

theorem execVectorFeed_keeps {u : Site} {found : RowErr} {s : State} (hk : s.Keeps cs) :
    ResKeeps cs (execVectorFeed u found s) := by
  unfold execVectorFeed
  exact (ResKeeps.next (State.vectorFeed_keeps hk))

theorem execAccRowWrite_keeps {u : Site} {s : State} (hk : s.Keeps cs) :
    ResKeeps cs (execAccRowWrite u s) := by
  unfold execAccRowWrite
  exact (ResKeeps.next (State.accRowWrite_keeps hk))

theorem execWeightFillComplete_keeps {u : Site} {s : State} (hk : s.Keeps cs) :
    ResKeeps cs (execWeightFillComplete u s) := by
  unfold execWeightFillComplete
  exact (ResKeeps.next (State.fillComplete_keeps hk))

theorem State.waitExpires_keeps {s : State} {u : Site} {tie : Bool} (hk : s.Keeps cs) :
    State.Keeps cs (s.waitExpires u tie) := by
  unfold State.waitExpires
  exact (Keeps.ite (State.tileFault_keeps (State.countTdc_keeps hk)) hk)

theorem execWaitTimeout_keeps {u : Site} {tie : Bool} {s : State} (hk : s.Keeps cs) :
    ResKeeps cs (execWaitTimeout u tie s) := by
  unfold execWaitTimeout
  exact (ResKeeps.next (State.waitExpires_keeps hk))

theorem State.landHeld_keeps {s : State} {u : Site} (h : s.Keeps cs) : State.Keeps cs (s.landHeld u) := by
  unfold State.landHeld
  cases (s.tile u).inbound with
  | none => exact h
  | some x =>
    refine Keeps.ite h (State.pumpTile_keeps ?_)
    have h1 : ((s.setTile u { s.tile u with inbound := none }).landIn u x).Keeps cs :=
      State.landIn_keeps (State.setTile_keeps h)
    generalize (s.setTile u { s.tile u with inbound := none }).landIn u x = s1 at h1 ⊢
    cases (s1.tile u).outsideEntry with
    | none => exact h1
    | some g => exact Keeps.ite (State.completeOutside_keeps h1) h1

theorem execInboundRowLand_keeps {u : Site} {s : State} (hk : s.Keeps cs) :
    ResKeeps cs (execInboundRowLand u s) := by
  unfold execInboundRowLand
  exact (ResKeeps.next (State.landHeld_keeps hk))

theorem execInboundHoldTimeout_keeps {u : Site} {tie : Bool} {s : State} (hk : s.Keeps cs) :
    ResKeeps cs (execInboundHoldTimeout u tie s) := by
  unfold execInboundHoldTimeout
  exact (ResKeeps.ite (ResKeeps.next hk) (ResKeeps.next (State.tileFault_keeps (State.countTdc_keeps hk))))

theorem execMergeHoldExpiry_keeps {u : Site} {row : BitVec 14} {s : State} (hk : s.Keeps cs) :
    ResKeeps cs (execMergeHoldExpiry u row s) := by
  unfold execMergeHoldExpiry
  exact (ResKeeps.next (State.pumpTile_keeps (State.setTile_keeps hk)))

theorem State.scrubRow_keeps {s : State} {u : Site} {row : Nat} {found : RowErr} (hk : s.Keeps cs) :
    State.Keeps cs (s.scrubRow u row found) := by
  unfold State.scrubRow
  exact (Keeps.ite (State.eccStop_keeps (State.countCorrected_keeps hk)) (by (try extract_lets); split; exact (State.countCorrected_keeps hk); exact (Keeps.ite (State.eccStop_keeps (State.setTile_keeps (State.countCorrected_keeps hk))) (State.addTfld_keeps (State.setTile_keeps (State.writeRow_keeps (State.countCorrected_keeps hk)))))))

theorem execSpScrub_keeps {u : Site} {row : BitVec 14} {found : RowErr} {s : State} (hk : s.Keeps cs) :
    ResKeeps cs (execSpScrub u row found s) := by
  unfold execSpScrub
  exact (ResKeeps.ite (ResKeeps.next hk) (ResKeeps.next (State.scrubRow_keeps hk)))

theorem State.tcAccess_keeps {s : State} {u : Site} {src : Src} {o : Nat} {v : Word} (hk : s.Keeps cs) :
    State.Keeps cs (s.tcAccess u src o v) := by
  unfold State.tcAccess
  exact (Keeps.ite hk (Keeps.ite (Keeps.ite hk (by (try extract_lets); split; exact (State.tileFault_keeps hk); exact (State.pumpTile_keeps (State.tcWrite_keeps hk)))) (Keeps.ite hk (by (try extract_lets); split; exact (State.tileFault_keeps hk); exact (State.pumpTile_keeps (State.tcWrite_keeps hk))))))

theorem execTcRun_keeps {u : Site} {src : Src} {value : BitVec 64} {s : State} (hk : s.Keeps cs) :
    ResKeeps cs (execTcRun u src value s) := by
  unfold execTcRun
  exact (ResKeeps.next (State.tcAccess_keeps hk))

theorem execSatClear_keeps {u : Site} {src : Src} {value : BitVec 64} {s : State} (hk : s.Keeps cs) :
    ResKeeps cs (execSatClear u src value s) := by
  unfold execSatClear
  exact (ResKeeps.next (State.tcAccess_keeps hk))

theorem execWinOpen_keeps {u : Site} {src : Src} {win : BitVec 4} {notify : Bool} {fid : BitVec 6} {tie : Bool} {s : State} (hk : s.Keeps cs) :
    ResKeeps cs (execWinOpen u src win notify fid tie s) := by
  unfold execWinOpen
  exact (ResKeeps.next (State.whenUp_keeps hk (State.tcAccess_keeps (State.countTdc_keeps hk))))

theorem execWinClose_keeps {u : Site} {src : Src} {win : BitVec 4} {tie : Bool} {s : State} (hk : s.Keeps cs) :
    ResKeeps cs (execWinClose u src win tie s) := by
  unfold execWinClose
  exact (ResKeeps.next (State.whenUp_keeps hk (State.tcAccess_keeps (State.countTdc_keeps hk))))

theorem execTcTagEmpty_keeps {u : Site} {src : Src} {value : BitVec 64} {s : State} (hk : s.Keeps cs) :
    ResKeeps cs (execTcTagEmpty u src value s) := by
  unfold execTcTagEmpty
  exact (ResKeeps.next (State.tcAccess_keeps hk))

theorem execTcGatherSeal_keeps {u : Site} {src : Src} {value : BitVec 64} {s : State} (hk : s.Keeps cs) :
    ResKeeps cs (execTcGatherSeal u src value s) := by
  unfold execTcGatherSeal
  exact (ResKeeps.next (State.tcAccess_keeps hk))

theorem execViolCountClear_keeps {u : Site} {value : BitVec 64} {s : State} (hk : s.Keeps cs) :
    ResKeeps cs (execViolCountClear u value s) := by
  unfold execViolCountClear
  exact (ResKeeps.ite (ResKeeps.next (State.setTfld_keeps hk)) (ResKeeps.next hk))

theorem execRowWrite_keeps {u : Site} {dir : Dir} {p : Packet} {tie : Bool} {s : State} (hk : s.Keeps cs) :
    ResKeeps cs (execRowWrite u dir p tie s) := by
  unfold execRowWrite
  exact (ResKeeps.next (State.arrive_keeps hk))

theorem execRowPost_keeps {u : Site} {dir : Dir} {p : Packet} {tie : Bool} {s : State} (hk : s.Keeps cs) :
    ResKeeps cs (execRowPost u dir p tie s) := by
  unfold execRowPost
  exact (ResKeeps.next (State.arrive_keeps hk))

theorem execWordWrite_keeps {u : Site} {dir : Dir} {p : Packet} {tie : Bool} {s : State} (hk : s.Keeps cs) :
    ResKeeps cs (execWordWrite u dir p tie s) := by
  unfold execWordWrite
  exact (ResKeeps.next (State.arrive_keeps hk))

theorem execReadReq_keeps {u : Site} {dir : Dir} {p : Packet} {tie : Bool} {s : State} (hk : s.Keeps cs) :
    ResKeeps cs (execReadReq u dir p tie s) := by
  unfold execReadReq
  exact (ResKeeps.next (State.arrive_keeps hk))

theorem execReadData_keeps {u : Site} {dir : Dir} {p : Packet} {tie : Bool} {s : State} (hk : s.Keeps cs) :
    ResKeeps cs (execReadData u dir p tie s) := by
  unfold execReadData
  exact (ResKeeps.next (State.arrive_keeps hk))

theorem execReadStatus_keeps {u : Site} {dir : Dir} {p : Packet} {tie : Bool} {s : State} (hk : s.Keeps cs) :
    ResKeeps cs (execReadStatus u dir p tie s) := by
  unfold execReadStatus
  exact (ResKeeps.next (State.arrive_keeps hk))

theorem execWordRead_keeps {u : Site} {dir : Dir} {p : Packet} {tie : Bool} {s : State} (hk : s.Keeps cs) :
    ResKeeps cs (execWordRead u dir p tie s) := by
  unfold execWordRead
  exact (ResKeeps.next (State.arrive_keeps hk))

theorem execBarArrive_keeps {u : Site} {dir : Dir} {p : Packet} {tie : Bool} {s : State} (hk : s.Keeps cs) :
    ResKeeps cs (execBarArrive u dir p tie s) := by
  unfold execBarArrive
  exact (ResKeeps.next (State.arrive_keeps hk))

theorem execBarRelease_keeps {u : Site} {dir : Dir} {p : Packet} {tie : Bool} {s : State} (hk : s.Keeps cs) :
    ResKeeps cs (execBarRelease u dir p tie s) := by
  unfold execBarRelease
  exact (ResKeeps.next (State.arrive_keeps hk))

theorem execFlagOp_keeps {u : Site} {dir : Dir} {p : Packet} {tie : Bool} {s : State} (hk : s.Keeps cs) :
    ResKeeps cs (execFlagOp u dir p tie s) := by
  unfold execFlagOp
  exact (ResKeeps.next (State.arrive_keeps hk))

end Sys2Proof.Machine
end

