-- ==== Sys2Proof/Laws/KeepsBundle.lean ====
section
/-!
SUPPORT. Keeps (Laws/Keeps.lean) for the commands that issue a bundle.
-/
namespace Sys2Proof.Machine

variable {cs : List Instr}

/-! ### TileControl.lean -/

theorem execNop_keeps {u : Site} {s : State} (hk : s.Keeps cs) :
    ResKeeps cs (execNop u s) := by
  unfold execNop
  exact (ResKeeps.next (State.issue_keeps hk))

theorem execBrc_keeps {u : Site} {cond : BitVec 4} {sa : BitVec 6} {sb : BitVec 6} {target : BitVec 17} {co : Bundle} {s : State} (hk : s.Keeps cs) :
    ResKeeps cs (execBrc u cond sa sb target co s) := by
  unfold execBrc
  exact (ResKeeps.next (State.issue_keeps hk))

theorem execLoop_keeps {u : Site} {csrc : Bool} {sc : BitVec 6} {imm : BitVec 16} {last : BitVec 17} {co : Bundle} {s : State} (hk : s.Keeps cs) :
    ResKeeps cs (execLoop u csrc sc imm last co s) := by
  unfold execLoop
  exact (ResKeeps.next (State.issue_keeps hk))

theorem execTwait_keeps {u : Site} {kind : BitVec 4} {rowop : RowOp} {fid : BitVec 6} {sv : BitVec 6} {co : Bundle} {s : State} (hk : s.Keeps cs) :
    ResKeeps cs (execTwait u kind rowop fid sv co s) := by
  unfold execTwait
  exact (ResKeeps.next (State.issue_keeps hk))

theorem execStepBegin_keeps {u : Site} {co : Bundle} {s : State} (hk : s.Keeps cs) :
    ResKeeps cs (execStepBegin u co s) := by
  unfold execStepBegin
  exact (ResKeeps.next (State.issue_keeps hk))

theorem execStepEnd_keeps {u : Site} {co : Bundle} {s : State} (hk : s.Keeps cs) :
    ResKeeps cs (execStepEnd u co s) := by
  unfold execStepEnd
  exact (ResKeeps.next (State.issue_keeps hk))

theorem execLdw_keeps {u : Site} {tkind : BitVec 2} {tgt : BitVec 6} {skind : BitVec 2} {src : BitVec 16} {woff : BitVec 6} {co : Bundle} {s : State} (hk : s.Keeps cs) :
    ResKeeps cs (execLdw u tkind tgt skind src woff co s) := by
  unfold execLdw
  exact (ResKeeps.next (State.issue_keeps hk))

theorem execStw_keeps {u : Site} {src : BitVec 6} {dkind : BitVec 2} {dst : BitVec 16} {woff : BitVec 6} {co : Bundle} {s : State} (hk : s.Keeps cs) :
    ResKeeps cs (execStw u src dkind dst woff co s) := by
  unfold execStw
  exact (ResKeeps.next (State.issue_keeps hk))

theorem execQld_keeps {u : Site} {ticket : BitVec 5} {nrows : BitVec 2} {rowop : RowOp} {addr : BitVec 6} {inc : Bool} {co : Bundle} {s : State} (hk : s.Keeps cs) :
    ResKeeps cs (execQld u ticket nrows rowop addr inc co s) := by
  unfold execQld
  exact (ResKeeps.next (State.issue_keeps hk))

theorem execQst_keeps {u : Site} {ticket : BitVec 5} {nrows : BitVec 2} {rowop : RowOp} {addr : BitVec 6} {inc : Bool} {co : Bundle} {s : State} (hk : s.Keeps cs) :
    ResKeeps cs (execQst u ticket nrows rowop addr inc co s) := by
  unfold execQst
  exact (ResKeeps.next (State.issue_keeps hk))

theorem execQwait_keeps {u : Site} {queue : Bool} {mask : BitVec 32} {co : Bundle} {s : State} (hk : s.Keeps cs) :
    ResKeeps cs (execQwait u queue mask co s) := by
  unfold execQwait
  exact (ResKeeps.next (State.issue_keeps hk))

theorem execSend_keeps {u : Site} {rowop : RowOp} {nrows : BitVec 4} {dst : BitVec 6} {chan : BitVec 4} {flaglast : Bool} {mcast : Bool} {mgroup : BitVec 4} {co : Bundle} {s : State} (hk : s.Keeps cs) :
    ResKeeps cs (execSend u rowop nrows dst chan flaglast mcast mgroup co s) := by
  unfold execSend
  exact (ResKeeps.next (State.issue_keeps hk))

theorem execPost_keeps {u : Site} {rowop : RowOp} {nrows : BitVec 4} {dst : BitVec 6} {chan : BitVec 4} {seq : BitVec 6} {co : Bundle} {s : State} (hk : s.Keeps cs) :
    ResKeeps cs (execPost u rowop nrows dst chan seq co s) := by
  unfold execPost
  exact (ResKeeps.next (State.issue_keeps hk))

theorem execRdrem_keeps {u : Site} {rowop : RowOp} {nrows : BitVec 4} {src : BitVec 6} {merge : Bool} {co : Bundle} {s : State} (hk : s.Keeps cs) :
    ResKeeps cs (execRdrem u rowop nrows src merge co s) := by
  unfold execRdrem
  exact (ResKeeps.next (State.issue_keeps hk))

theorem execBar_keeps {u : Site} {bid : BitVec 4} {wait : Bool} {co : Bundle} {s : State} (hk : s.Keeps cs) :
    ResKeeps cs (execBar u bid wait co s) := by
  unfold execBar
  exact (ResKeeps.next (State.issue_keeps hk))

theorem execFlagSet_keeps {u : Site} {fid : BitVec 6} {sv : BitVec 6} {dst : BitVec 6} {remote : Bool} {chan : BitVec 4} {co : Bundle} {s : State} (hk : s.Keeps cs) :
    ResKeeps cs (execFlagSet u fid sv dst remote chan co s) := by
  unfold execFlagSet
  exact (ResKeeps.next (State.issue_keeps hk))

theorem execFlagAdd_keeps {u : Site} {fid : BitVec 6} {sv : BitVec 6} {dst : BitVec 6} {remote : Bool} {chan : BitVec 4} {co : Bundle} {s : State} (hk : s.Keeps cs) :
    ResKeeps cs (execFlagAdd u fid sv dst remote chan co s) := by
  unfold execFlagAdd
  exact (ResKeeps.next (State.issue_keeps hk))

theorem execFlagWaitAtLeast_keeps {u : Site} {fid : BitVec 6} {sv : BitVec 6} {dst : BitVec 6} {remote : Bool} {chan : BitVec 4} {co : Bundle} {s : State} (hk : s.Keeps cs) :
    ResKeeps cs (execFlagWaitAtLeast u fid sv dst remote chan co s) := by
  unfold execFlagWaitAtLeast
  exact (ResKeeps.next (State.issue_keeps hk))

theorem execFlagWaitEqual_keeps {u : Site} {fid : BitVec 6} {sv : BitVec 6} {dst : BitVec 6} {remote : Bool} {chan : BitVec 4} {co : Bundle} {s : State} (hk : s.Keeps cs) :
    ResKeeps cs (execFlagWaitEqual u fid sv dst remote chan co s) := by
  unfold execFlagWaitEqual
  exact (ResKeeps.next (State.issue_keeps hk))

/-! ### TileScalar.lean -/

theorem execVsadd_keeps {u : Site} {f : SForm} {co : Bundle} {s : State} (hk : s.Keeps cs) :
    ResKeeps cs (execVsadd u f co s) := by
  unfold execVsadd
  exact (ResKeeps.next (State.issue_keeps hk))

theorem execVssub_keeps {u : Site} {f : SForm} {co : Bundle} {s : State} (hk : s.Keeps cs) :
    ResKeeps cs (execVssub u f co s) := by
  unfold execVssub
  exact (ResKeeps.next (State.issue_keeps hk))

theorem execVsmul_keeps {u : Site} {f : SForm} {co : Bundle} {s : State} (hk : s.Keeps cs) :
    ResKeeps cs (execVsmul u f co s) := by
  unfold execVsmul
  exact (ResKeeps.next (State.issue_keeps hk))

theorem execVsand_keeps {u : Site} {f : SForm} {co : Bundle} {s : State} (hk : s.Keeps cs) :
    ResKeeps cs (execVsand u f co s) := by
  unfold execVsand
  exact (ResKeeps.next (State.issue_keeps hk))

theorem execVsor_keeps {u : Site} {f : SForm} {co : Bundle} {s : State} (hk : s.Keeps cs) :
    ResKeeps cs (execVsor u f co s) := by
  unfold execVsor
  exact (ResKeeps.next (State.issue_keeps hk))

theorem execVsxor_keeps {u : Site} {f : SForm} {co : Bundle} {s : State} (hk : s.Keeps cs) :
    ResKeeps cs (execVsxor u f co s) := by
  unfold execVsxor
  exact (ResKeeps.next (State.issue_keeps hk))

theorem execVsshl_keeps {u : Site} {f : SForm} {co : Bundle} {s : State} (hk : s.Keeps cs) :
    ResKeeps cs (execVsshl u f co s) := by
  unfold execVsshl
  exact (ResKeeps.next (State.issue_keeps hk))

theorem execVsshr_keeps {u : Site} {f : SForm} {co : Bundle} {s : State} (hk : s.Keeps cs) :
    ResKeeps cs (execVsshr u f co s) := by
  unfold execVsshr
  exact (ResKeeps.next (State.issue_keeps hk))

theorem execVsmin_keeps {u : Site} {f : SForm} {co : Bundle} {s : State} (hk : s.Keeps cs) :
    ResKeeps cs (execVsmin u f co s) := by
  unfold execVsmin
  exact (ResKeeps.next (State.issue_keeps hk))

theorem execVsmax_keeps {u : Site} {f : SForm} {co : Bundle} {s : State} (hk : s.Keeps cs) :
    ResKeeps cs (execVsmax u f co s) := by
  unfold execVsmax
  exact (ResKeeps.next (State.issue_keeps hk))

theorem execVsli_keeps {u : Site} {f : SForm} {co : Bundle} {s : State} (hk : s.Keeps cs) :
    ResKeeps cs (execVsli u f co s) := by
  unfold execVsli
  exact (ResKeeps.next (State.issue_keeps hk))

theorem execMload_keeps {u : Site} {wfmt : BitVec 3} {rowop : RowOp} {xrowop : RowOp} {srowop : RowOp} {side : Bool} {co : Bundle} {s : State} (hk : s.Keeps cs) :
    ResKeeps cs (execMload u wfmt rowop xrowop srowop side co s) := by
  unfold execMload
  exact (ResKeeps.next (State.issue_keeps hk))

theorem execMsparse_keeps {u : Site} {wfmt : BitVec 3} {rowop : RowOp} {xrowop : RowOp} {co : Bundle} {s : State} (hk : s.Keeps cs) :
    ResKeeps cs (execMsparse u wfmt rowop xrowop co s) := by
  unfold execMsparse
  exact (ResKeeps.next (State.issue_keeps hk))

theorem execMstream_keeps {u : Site} {afmt : BitVec 3} {rowop : RowOp} {xhandle : BitVec 8} {acc : AccOp} {count : BitVec 20} {hrowop : RowOp} {swap : Bool} {walk : Bool} {inl : Bool} {co : Bundle} {s : State} (hk : s.Keeps cs) :
    ResKeeps cs (execMstream u afmt rowop xhandle acc count hrowop swap walk inl co s) := by
  unfold execMstream
  exact (ResKeeps.next (State.issue_keeps hk))

/-! ### TileVector.lean -/

theorem execVld_keeps {u : Site} {f : VForm} {co : Bundle} {s : State} (hk : s.Keeps cs) :
    ResKeeps cs (execVld u f co s) := by
  unfold execVld
  exact (ResKeeps.next (State.issue_keeps hk))

theorem execVlda_keeps {u : Site} {f : VForm} {co : Bundle} {s : State} (hk : s.Keeps cs) :
    ResKeeps cs (execVlda u f co s) := by
  unfold execVlda
  exact (ResKeeps.next (State.issue_keeps hk))

theorem execVst_keeps {u : Site} {f : VForm} {co : Bundle} {s : State} (hk : s.Keeps cs) :
    ResKeeps cs (execVst u f co s) := by
  unfold execVst
  exact (ResKeeps.next (State.issue_keeps hk))

theorem execVqnt_keeps {u : Site} {f : VForm} {co : Bundle} {s : State} (hk : s.Keeps cs) :
    ResKeeps cs (execVqnt u f co s) := by
  unfold execVqnt
  exact (ResKeeps.next (State.issue_keeps hk))

theorem execVste_keeps {u : Site} {f : VForm} {co : Bundle} {s : State} (hk : s.Keeps cs) :
    ResKeeps cs (execVste u f co s) := by
  unfold execVste
  exact (ResKeeps.next (State.issue_keeps hk))

theorem execVbcast_keeps {u : Site} {f : VForm} {co : Bundle} {s : State} (hk : s.Keeps cs) :
    ResKeeps cs (execVbcast u f co s) := by
  unfold execVbcast
  exact (ResKeeps.next (State.issue_keeps hk))

theorem execVmovs_keeps {u : Site} {f : VForm} {co : Bundle} {s : State} (hk : s.Keeps cs) :
    ResKeeps cs (execVmovs u f co s) := by
  unfold execVmovs
  exact (ResKeeps.next (State.issue_keeps hk))

theorem execVresc_keeps {u : Site} {f : VForm} {co : Bundle} {s : State} (hk : s.Keeps cs) :
    ResKeeps cs (execVresc u f co s) := by
  unfold execVresc
  exact (ResKeeps.next (State.issue_keeps hk))

theorem execVadd_keeps {u : Site} {f : VForm} {co : Bundle} {s : State} (hk : s.Keeps cs) :
    ResKeeps cs (execVadd u f co s) := by
  unfold execVadd
  exact (ResKeeps.next (State.issue_keeps hk))

theorem execVsub_keeps {u : Site} {f : VForm} {co : Bundle} {s : State} (hk : s.Keeps cs) :
    ResKeeps cs (execVsub u f co s) := by
  unfold execVsub
  exact (ResKeeps.next (State.issue_keeps hk))

theorem execVmul_keeps {u : Site} {f : VForm} {co : Bundle} {s : State} (hk : s.Keeps cs) :
    ResKeeps cs (execVmul u f co s) := by
  unfold execVmul
  exact (ResKeeps.next (State.issue_keeps hk))

theorem execVfma_keeps {u : Site} {f : VForm} {co : Bundle} {s : State} (hk : s.Keeps cs) :
    ResKeeps cs (execVfma u f co s) := by
  unfold execVfma
  exact (ResKeeps.next (State.issue_keeps hk))

theorem execVmax_keeps {u : Site} {f : VForm} {co : Bundle} {s : State} (hk : s.Keeps cs) :
    ResKeeps cs (execVmax u f co s) := by
  unfold execVmax
  exact (ResKeeps.next (State.issue_keeps hk))

theorem execVmin_keeps {u : Site} {f : VForm} {co : Bundle} {s : State} (hk : s.Keeps cs) :
    ResKeeps cs (execVmin u f co s) := by
  unfold execVmin
  exact (ResKeeps.next (State.issue_keeps hk))

theorem execVabs_keeps {u : Site} {f : VForm} {co : Bundle} {s : State} (hk : s.Keeps cs) :
    ResKeeps cs (execVabs u f co s) := by
  unfold execVabs
  exact (ResKeeps.next (State.issue_keeps hk))

theorem execVneg_keeps {u : Site} {f : VForm} {co : Bundle} {s : State} (hk : s.Keeps cs) :
    ResKeeps cs (execVneg u f co s) := by
  unfold execVneg
  exact (ResKeeps.next (State.issue_keeps hk))

theorem execVcmplt_keeps {u : Site} {f : VForm} {co : Bundle} {s : State} (hk : s.Keeps cs) :
    ResKeeps cs (execVcmplt u f co s) := by
  unfold execVcmplt
  exact (ResKeeps.next (State.issue_keeps hk))

theorem execVcmpeq_keeps {u : Site} {f : VForm} {co : Bundle} {s : State} (hk : s.Keeps cs) :
    ResKeeps cs (execVcmpeq u f co s) := by
  unfold execVcmpeq
  exact (ResKeeps.next (State.issue_keeps hk))

theorem execViadd_keeps {u : Site} {f : VForm} {co : Bundle} {s : State} (hk : s.Keeps cs) :
    ResKeeps cs (execViadd u f co s) := by
  unfold execViadd
  exact (ResKeeps.next (State.issue_keeps hk))

theorem execVisub_keeps {u : Site} {f : VForm} {co : Bundle} {s : State} (hk : s.Keeps cs) :
    ResKeeps cs (execVisub u f co s) := by
  unfold execVisub
  exact (ResKeeps.next (State.issue_keeps hk))

theorem execVimul_keeps {u : Site} {f : VForm} {co : Bundle} {s : State} (hk : s.Keeps cs) :
    ResKeeps cs (execVimul u f co s) := by
  unfold execVimul
  exact (ResKeeps.next (State.issue_keeps hk))

theorem execVshl_keeps {u : Site} {f : VForm} {co : Bundle} {s : State} (hk : s.Keeps cs) :
    ResKeeps cs (execVshl u f co s) := by
  unfold execVshl
  exact (ResKeeps.next (State.issue_keeps hk))

theorem execVshr_keeps {u : Site} {f : VForm} {co : Bundle} {s : State} (hk : s.Keeps cs) :
    ResKeeps cs (execVshr u f co s) := by
  unfold execVshr
  exact (ResKeeps.next (State.issue_keeps hk))

theorem execVand_keeps {u : Site} {f : VForm} {co : Bundle} {s : State} (hk : s.Keeps cs) :
    ResKeeps cs (execVand u f co s) := by
  unfold execVand
  exact (ResKeeps.next (State.issue_keeps hk))

theorem execVor_keeps {u : Site} {f : VForm} {co : Bundle} {s : State} (hk : s.Keeps cs) :
    ResKeeps cs (execVor u f co s) := by
  unfold execVor
  exact (ResKeeps.next (State.issue_keeps hk))

theorem execVxor_keeps {u : Site} {f : VForm} {co : Bundle} {s : State} (hk : s.Keeps cs) :
    ResKeeps cs (execVxor u f co s) := by
  unfold execVxor
  exact (ResKeeps.next (State.issue_keeps hk))

theorem execVsel_keeps {u : Site} {f : VForm} {co : Bundle} {s : State} (hk : s.Keeps cs) :
    ResKeeps cs (execVsel u f co s) := by
  unfold execVsel
  exact (ResKeeps.next (State.issue_keeps hk))

theorem execVcvtif_keeps {u : Site} {f : VForm} {co : Bundle} {s : State} (hk : s.Keeps cs) :
    ResKeeps cs (execVcvtif u f co s) := by
  unfold execVcvtif
  exact (ResKeeps.next (State.issue_keeps hk))

theorem execVcvtfi_keeps {u : Site} {f : VForm} {co : Bundle} {s : State} (hk : s.Keeps cs) :
    ResKeeps cs (execVcvtfi u f co s) := by
  unfold execVcvtfi
  exact (ResKeeps.next (State.issue_keeps hk))

theorem execVexp2_keeps {u : Site} {f : VForm} {co : Bundle} {s : State} (hk : s.Keeps cs) :
    ResKeeps cs (execVexp2 u f co s) := by
  unfold execVexp2
  exact (ResKeeps.next (State.issue_keeps hk))

theorem execVrcp_keeps {u : Site} {f : VForm} {co : Bundle} {s : State} (hk : s.Keeps cs) :
    ResKeeps cs (execVrcp u f co s) := by
  unfold execVrcp
  exact (ResKeeps.next (State.issue_keeps hk))

theorem execVrsq_keeps {u : Site} {f : VForm} {co : Bundle} {s : State} (hk : s.Keeps cs) :
    ResKeeps cs (execVrsq u f co s) := by
  unfold execVrsq
  exact (ResKeeps.next (State.issue_keeps hk))

theorem execVsigm_keeps {u : Site} {f : VForm} {co : Bundle} {s : State} (hk : s.Keeps cs) :
    ResKeeps cs (execVsigm u f co s) := by
  unfold execVsigm
  exact (ResKeeps.next (State.issue_keeps hk))

theorem execVrsum_keeps {u : Site} {f : VForm} {co : Bundle} {s : State} (hk : s.Keeps cs) :
    ResKeeps cs (execVrsum u f co s) := by
  unfold execVrsum
  exact (ResKeeps.next (State.issue_keeps hk))

theorem execVrmax_keeps {u : Site} {f : VForm} {co : Bundle} {s : State} (hk : s.Keeps cs) :
    ResKeeps cs (execVrmax u f co s) := by
  unfold execVrmax
  exact (ResKeeps.next (State.issue_keeps hk))

theorem execVtopk_keeps {u : Site} {f : VForm} {co : Bundle} {s : State} (hk : s.Keeps cs) :
    ResKeeps cs (execVtopk u f co s) := by
  unfold execVtopk
  exact (ResKeeps.next (State.issue_keeps hk))

end Sys2Proof.Machine
end

