-- ==== Sys2Proof/Laws/KeepsFabric.lean ====
section
/-!
SUPPORT. Keeps (Laws/Keeps.lean) for the fabric, the mesh links, the topology and the timebase.
-/
namespace Sys2Proof.Machine

variable {cs : List Instr}

/-! ### Fabric.lean -/

theorem State.discard_keeps {s : State} {w : Fin 2} (hk : s.Keeps cs) :
    State.Keeps cs (s.discard w) := by
  unfold State.discard
  exact (State.addFld_keeps hk)

theorem State.toHawkCores_keeps {s : State} {w : Fin 2} {p : FPacket} (hk : s.Keeps cs) :
    State.Keeps cs (s.toHawkCores w p) := by
  unfold State.toHawkCores
  exact (State.setWing_keeps hk)

theorem State.enterMesh_keeps {s : State} {w : Fin 2} {p : Packet} (hk : s.Keeps cs) :
    State.Keeps cs (s.enterMesh w p) := by
  unfold State.enterMesh
  exact (State.enqueue_keeps hk)

theorem State.setEdgeCtr_keeps {s : State} {w : Fin 2} {d : Nat} {v : Nat} (hk : s.Keeps cs) :
    State.Keeps cs (s.setEdgeCtr w d v) := by
  unfold State.setEdgeCtr
  exact (State.setCocoon_keeps hk)

theorem State.leave_keeps {s : State} {w : Fin 2} {input : Nat} {p : FPacket} (hk : s.Keeps cs) :
    State.Keeps cs (s.leave w input p) := by
  unfold State.leave
  exact (State.setWing_keeps hk)

theorem State.queueOut_keeps {s : State} {w : Fin 2} {input : Nat} {port : Nat} {p : FPacket} (hk : s.Keeps cs) :
    State.Keeps cs (s.queueOut w input port p) := by
  unfold State.queueOut
  exact (State.pumpPort_keeps (State.setWing_keeps hk))

theorem State.putOut_keeps {s : State} {w : Fin 2} {input : Nat} {port : Nat} {p : FPacket} (hk : s.Keeps cs) :
    State.Keeps cs (s.putOut w input port p) := by
  unfold State.putOut
  exact (Keeps.ite (State.leave_keeps (State.setWing_keeps hk)) (Keeps.ite (State.leave_keeps (State.discard_keeps hk)) (Keeps.ite (Keeps.ite (State.leave_keeps (State.discard_keeps (State.addFld_keeps hk))) (State.queueOut_keeps (State.setEdgeCtr_keeps hk))) (State.queueOut_keeps hk))))

theorem State.sendOn_keeps {s : State} {w : Fin 2} {input : Nat} {p : FPacket} (hk : s.Keeps cs) :
    State.Keeps cs (s.sendOn w input p) := by
  unfold State.sendOn
  exact (Keeps.ite (State.leave_keeps (State.discard_keeps hk)) (by (try extract_lets); split; exact (State.putOut_keeps hk); exact (State.leave_keeps (State.discard_keeps hk))))

theorem State.drawMid_keeps {s : State} {w : Fin 2} {p : FPacket} (hk : s.Keeps cs) : FstKeeps cs (s.drawMid w p) := by
  unfold State.drawMid
  refine FstKeeps.ite hk ?_
  dsimp only
  generalize List.find? _ _ = o
  cases o with
  | none => exact State.setWing_keeps hk
  | some c => exact State.setWing_keeps hk

theorem State.launch_keeps {s : State} {w : Fin 2} {p : FPacket} (hk : s.Keeps cs) :
    State.Keeps cs (s.launch w p) := by
  unfold State.launch
  exact (Keeps.ite (Keeps.ite (State.setWing_keeps hk) (State.discard_keeps hk)) (Keeps.ite (State.sendOn_keeps hk) (Keeps.ite (State.sendOn_keeps hk) (State.sendOn_keeps (State.drawMid_keeps hk)))))

theorem State.acceptSource_keeps {s : State} {w : Fin 2} {p : FPacket} (hk : s.Keeps cs) :
    State.Keeps cs (s.acceptSource w p) := by
  unfold State.acceptSource
  exact (Keeps.ite (State.launch_keeps hk) (Keeps.ite (Keeps.ite (State.stopHere_keeps hk) (Keeps.ite (State.launch_keeps (State.setWing_keeps hk)) (State.launch_keeps (State.setWing_keeps hk)))) (State.launch_keeps (State.setWing_keeps hk))))

theorem State.offerOne_keeps {s : State} {w : Fin 2} {p : FPacket} (hk : s.Keeps cs) :
    State.Keeps cs (s.offerOne w p) := by
  unfold State.offerOne
  exact (Keeps.ite (State.discard_keeps hk) (Keeps.ite (State.setWing_keeps hk) (State.acceptSource_keeps hk)))

theorem State.offer_keeps {s : State} {w : Fin 2} {p : FPacket} (hk : s.Keeps cs) :
    State.Keeps cs (s.offer w p) := by
  unfold State.offer
  exact (Keeps.ite hk (Keeps.ite (State.lateDrop_keeps hk) (Keeps.ite (by (try extract_lets); split; exact (State.stopHere_keeps hk); exact (Keeps.foldl (fun _ _ h2 => (State.offerOne_keeps h2)) hk)) (State.offerOne_keeps hk))))

theorem State.pumpWaiting_keeps {s : State} {w : Fin 2} (hk : s.Keeps cs) :
    State.Keeps cs (s.pumpWaiting w) := by
  unfold State.pumpWaiting
  exact (Keeps.foldl (fun _ _ h1 => (State.offerOne_keeps h1)) (State.setWing_keeps hk))

theorem State.refuseAt_keeps {s : State} {w : Fin 2} {p : FPacket} (hk : s.Keeps cs) :
    State.Keeps cs (s.refuseAt w p) := by
  unfold State.refuseAt
  exact (Keeps.ite (State.offer_keeps hk) (State.giveVerdict_keeps (State.report_keeps hk)))

theorem State.handOn_keeps {s : State} {w : Fin 2} {p : FPacket} (hk : s.Keeps cs) :
    State.Keeps cs (s.handOn w p) := by
  unfold State.handOn
  exact (by (try extract_lets); split; exact (Keeps.ite (State.refuseAt_keeps hk) (State.enterMesh_keeps hk)); exact (State.giveVerdict_keeps (State.toHawkCores_keeps hk)); exact (State.setWing_keeps hk))

theorem State.sendComplete_keeps {s : State} {w : Fin 2} {chip : Nat} {chan : Nat} {dstKind : Nat} {dstTile : Nat} {v : Nat} (hk : s.Keeps cs) :
    State.Keeps cs (s.sendComplete w chip chan dstKind dstTile v) := by
  unfold State.sendComplete
  exact (State.offer_keeps hk)

theorem State.strictDelivered_keeps {s : State} {w : Fin 2} {p : FPacket} (hk : s.Keeps cs) :
    State.Keeps cs (s.strictDelivered w p) := by
  unfold State.strictDelivered
  exact (Keeps.ite (State.sendComplete_keeps (State.setWing_keeps hk)) (State.setWing_keeps hk))

theorem State.drainEarly_keeps {w : Fin 2} {chip chan n : Nat} {s : State} (h : s.Keeps cs) :
    (State.drainEarly w chip chan n s).Keeps cs := by
  induction n generalizing s with
  | zero => exact h
  | succ n ih =>
    unfold State.drainEarly
    (try extract_lets)
    split
    · exact h
    · exact ih (State.strictDelivered_keeps (State.handOn_keeps (State.setWing_keeps h)))

theorem State.strictArrive_keeps {s : State} {w : Fin 2} {p : FPacket} (hk : s.Keeps cs) :
    State.Keeps cs (s.strictArrive w p) := by
  unfold State.strictArrive
  exact (Keeps.ite (State.refreshOrder_keeps (State.drainEarly_keeps (State.strictDelivered_keeps (State.handOn_keeps hk)))) (State.refreshOrder_keeps (State.setWing_keeps hk)))

theorem State.tryCloseMsg_keeps {s : State} {w : Fin 2} {m : FlagRx} (hk : s.Keeps cs) :
    State.Keeps cs (s.tryCloseMsg w m) := by
  unfold State.tryCloseMsg
  exact (by (try extract_lets); split; exact hk; exact (Keeps.ite hk (State.sendComplete_keeps (State.setWing_keeps hk))))

theorem State.releaseHeld_keeps {s : State} {w : Fin 2} {m : FlagRx} (hk : s.Keeps cs) :
    State.Keeps cs (s.releaseHeld w m) := by
  unfold State.releaseHeld
  exact (by (try extract_lets); split; exact (Keeps.ite (State.tryCloseMsg_keeps (State.handOn_keeps (State.setWing_keeps hk))) (State.setWing_keeps hk)); exact (State.setWing_keeps hk))

theorem State.flagArrive_keeps {s : State} {w : Fin 2} {p : FPacket} (hk : s.Keeps cs) :
    State.Keeps cs (s.flagArrive w p) := by
  unfold State.flagArrive
  exact (State.refreshOrder_keeps (Keeps.ite (State.releaseHeld_keeps hk) (State.releaseHeld_keeps (State.handOn_keeps hk))))

theorem State.sendFabricBar_keeps {s : State} {w : Fin 2} {kind : Nat} {chip : Nat} {tile : Nat} {fromTile : Nat} {bid : Nat} (hk : s.Keeps cs) :
    State.Keeps cs (s.sendFabricBar w kind chip tile fromTile bid) := by
  unfold State.sendFabricBar
  exact (State.offer_keeps hk)

theorem State.toRowPort_keeps {s : State} {w : Fin 2} {tile : Nat} {kind : Nat} {bid : Nat} (hk : s.Keeps cs) :
    State.Keeps cs (s.toRowPort w tile kind bid) := by
  unfold State.toRowPort
  exact (State.enqueue_keeps hk)

theorem State.fbArrival_keeps {s : State} {w : Fin 2} {n : Nat} (hk : s.Keeps cs) :
    State.Keeps cs (s.fbArrival w n) := by
  unfold State.fbArrival
  exact (Keeps.ite (State.setFld_keeps hk) (Keeps.ite (State.toRowPort_keeps (State.setFld_keeps (State.setFld_keeps hk))) (State.setFld_keeps hk)))

theorem State.fbApply_keeps {w : Fin 2} {n k : Nat} {s : State} (h : s.Keeps cs) : (State.fbApply w n k s).Keeps cs := by
  induction k generalizing s with
  | zero => exact h
  | succ k ih => exact ih (State.fbArrival_keeps h)

theorem State.fbChildArrive_keeps {s : State} {w : Fin 2} {p : FPacket} (hk : s.Keeps cs) :
    State.Keeps cs (s.fbChildArrive w p) := by
  unfold State.fbChildArrive
  exact (by (try extract_lets); split; exact (State.discard_keeps hk); exact (Keeps.ite (State.fbArrival_keeps hk) (State.discard_keeps hk)))

theorem State.fbParentRelease_keeps {s : State} {w : Fin 2} {p : FPacket} (hk : s.Keeps cs) :
    State.Keeps cs (s.fbParentRelease w p) := by
  unfold State.fbParentRelease
  exact (by (try extract_lets); split; exact (State.discard_keeps hk); exact (Keeps.ite (State.toRowPort_keeps hk) (State.discard_keeps hk)))

theorem State.completeArrive_keeps {s : State} {w : Fin 2} {p : FPacket} (hk : s.Keeps cs) :
    State.Keeps cs (s.completeArrive w p) := by
  unfold State.completeArrive
  exact (Keeps.ite (by (try extract_lets); split; exact hk; exact (State.pumpWaiting_keeps (State.setWing_keeps hk))) (Keeps.ite (State.pumpWaiting_keeps (State.setWing_keeps hk)) hk))

theorem State.arriveOwn_keeps {s : State} {w : Fin 2} {p : FPacket} (hk : s.Keeps cs) :
    State.Keeps cs (s.arriveOwn w p) := by
  unfold State.arriveOwn
  exact (Keeps.ite (State.discard_keeps hk) (by (try extract_lets); split; exact (State.fbChildArrive_keeps hk); exact (State.fbParentRelease_keeps hk); exact (State.completeArrive_keeps hk); exact (Keeps.ite (State.handOn_keeps hk) (Keeps.ite (State.flagArrive_keeps hk) (State.strictArrive_keeps hk)))))

theorem State.takeOwn_keeps {s : State} {w : Fin 2} {port : Nat} {p : FPacket} (hk : s.Keeps cs) :
    State.Keeps cs (s.takeOwn w port p) := by
  unfold State.takeOwn
  exact (Keeps.ite (State.setWing_keeps hk) (State.leave_keeps (State.arriveOwn_keeps hk)))

theorem State.pumpHeldIn_keeps {s : State} {w : Fin 2} (hk : s.Keeps cs) :
    State.Keeps cs (s.pumpHeldIn w) := by
  unfold State.pumpHeldIn
  exact (Keeps.foldl (fun _ _ h1 => (State.takeOwn_keeps h1)) (State.setWing_keeps hk))

theorem State.fbLocalArrive_keeps {s : State} {w : Fin 2} {tile : Nat} {bid : Nat} (hk : s.Keeps cs) :
    State.Keeps cs (s.fbLocalArrive w tile bid) := by
  unfold State.fbLocalArrive
  exact (by (try extract_lets); split; exact (State.discard_keeps hk); exact (Keeps.ite (State.pumpHeldIn_keeps (State.sendFabricBar_keeps hk)) hk))

theorem State.edgeCheck_keeps {s : State} {w : Fin 2} {p : FPacket} (hk : s.Keeps cs) :
    FstKeeps cs (s.edgeCheck w p) := by
  unfold State.edgeCheck
  exact (FstKeeps.ite (State.discard_keeps (State.addFld_keeps hk)) (FstKeeps.ite (State.discard_keeps (State.addFld_keeps hk)) (State.setEdgeCtr_keeps hk)))

theorem State.routePacket_keeps {s : State} {w : Fin 2} {port : Nat} {p : FPacket} (hk : s.Keeps cs) :
    State.Keeps cs (s.routePacket w port p) := by
  unfold State.routePacket
  exact (Keeps.ite (Keeps.ite (State.takeOwn_keeps hk) (State.leave_keeps (State.discard_keeps hk))) (Keeps.ite (State.sendOn_keeps hk) (State.sendOn_keeps hk)))

theorem State.sweepArrive_keeps {s : State} {w : Fin 2} {port : Nat} {p : FPacket} (hk : s.Keeps cs) :
    State.Keeps cs (s.sweepArrive w port p) := by
  unfold State.sweepArrive
  exact (Keeps.ite (State.toHawkCores_keeps (Keeps.ite hk (State.setWing_keeps hk))) (Keeps.ite (State.discard_keeps (Keeps.ite hk (State.setWing_keeps hk))) (State.putOut_keeps (Keeps.ite hk (State.setWing_keeps hk)))))

theorem State.acceptPacket_keeps {s : State} {w : Fin 2} {port : Nat} {p : FPacket} (hk : s.Keeps cs) :
    State.Keeps cs (s.acceptPacket w port p) := by
  unfold State.acceptPacket
  exact (Keeps.ite (State.leave_keeps hk) (Keeps.ite (State.leave_keeps (State.lateDrop_keeps hk)) (Keeps.ite (State.leave_keeps (Keeps.ite (State.discard_keeps hk) (State.sweepArrive_keeps hk))) (Keeps.ite (State.leave_keeps (State.discard_keeps hk)) (Keeps.ite (Keeps.ite (State.pumpHeldIn_keeps (State.routePacket_keeps (State.edgeCheck_keeps hk))) (State.leave_keeps (State.edgeCheck_keeps hk))) (State.pumpHeldIn_keeps (State.routePacket_keeps hk)))))))

theorem State.packetArrive_keeps {s : State} {w : Fin 2} {port : Nat} {p : FPacket} (hk : s.Keeps cs) :
    State.Keeps cs (s.packetArrive w port p) := by
  unfold State.packetArrive
  exact (Keeps.ite hk (Keeps.ite (Keeps.ite (State.sweepArrive_keeps hk) (State.pumpHeldIn_keeps (State.offer_keeps hk))) (State.acceptPacket_keeps hk)))

theorem State.checked_keeps {s : State} {w : Fin 2} {p : FPacket} {f : State → State}
    (hf : ∀ s, s.Keeps cs → (f s).Keeps cs) (h : s.Keeps cs) : (s.checked w p f).Keeps cs :=
  Keeps.ite h (Keeps.ite (State.lateDrop_keeps h) (Keeps.ite (State.discard_keeps h) (hf s h)))

theorem execFabricPacketReceive_keeps {w : Fin 2} {port : Fin 10} {p : FPacket} {s : State} (hk : s.Keeps cs) :
    ResKeeps cs (execFabricPacketReceive w port p s) := by
  unfold execFabricPacketReceive
  exact (ResKeeps.ite (ResKeeps.ite (ResKeeps.next (State.packetArrive_keeps (State.setWing_keeps hk))) (ResKeeps.next hk)) (ResKeeps.next (State.packetArrive_keeps hk)))

theorem execComplete_keeps {w : Fin 2} {p : FPacket} {s : State} (hk : s.Keeps cs) :
    ResKeeps cs (execComplete w p s) := by
  unfold execComplete
  exact (ResKeeps.next (State.checked_keeps (fun _ h1 => (State.pumpHeldIn_keeps (State.completeArrive_keeps h1))) hk))

theorem State.takeVerdict_keeps {s : State} {w : Fin 2} {v : Verdict} (hk : s.Keeps cs) :
    State.Keeps cs (s.takeVerdict w v) := by
  unfold State.takeVerdict
  exact (by (try extract_lets); split; exact (State.setWing_keeps hk); exact (State.pumpHeldIn_keeps (State.refreshOrder_keeps (State.tryCloseMsg_keeps (State.setWing_keeps (State.setWing_keeps hk))))))

theorem execVerdict_keeps {w : Fin 2} {chip : BitVec 16} {chan : BitVec 4} {dstKind : BitVec 2} {dstTile : BitVec 10} {msg : BitVec 8} {taken : Bool} {s : State} (hk : s.Keeps cs) :
    ResKeeps cs (execVerdict w chip chan dstKind dstTile msg taken s) := by
  unfold execVerdict
  exact (ResKeeps.next (Keeps.ite (State.takeVerdict_keeps hk) hk))

theorem execStrictAckTimer_keeps {w : Fin 2} {chip : BitVec 16} {chan : BitVec 4} {s : State} (hk : s.Keeps cs) :
    ResKeeps cs (execStrictAckTimer w chip chan s) := by
  unfold execStrictAckTimer
  exact (ResKeeps.ite (ResKeeps.next hk) (ResKeeps.next (State.sendComplete_keeps (State.setWing_keeps hk))))

theorem execFlagHoldTimeout_keeps {w : Fin 2} {chip : BitVec 16} {chan : BitVec 4} {dstKind : BitVec 2} {dstTile : BitVec 10} {msg : BitVec 8} {tie : Bool} {s : State} (hk : s.Keeps cs) :
    ResKeeps cs (execFlagHoldTimeout w chip chan dstKind dstTile msg tie s) := by
  unfold execFlagHoldTimeout
  exact (by (try extract_lets); split; exact (ResKeeps.ite (ResKeeps.next (State.stopHere_keeps (State.countTdc_keeps hk))) (ResKeeps.next (State.countTdc_keeps hk))); exact (ResKeeps.next hk))

theorem execFbBarLocalArrive_keeps {w : Fin 2} {tile : BitVec 10} {bid : BitVec 4} {s : State} (hk : s.Keeps cs) :
    ResKeeps cs (execFbBarLocalArrive w tile bid s) := by
  unfold execFbBarLocalArrive
  exact (ResKeeps.next (State.fbLocalArrive_keeps hk))

theorem execFbBarChildArrive_keeps {w : Fin 2} {p : FPacket} {s : State} (hk : s.Keeps cs) :
    ResKeeps cs (execFbBarChildArrive w p s) := by
  unfold execFbBarChildArrive
  exact (ResKeeps.next (State.checked_keeps (fun _ h1 => (State.takeOwn_keeps h1)) hk))

theorem execFbBarParentRelease_keeps {w : Fin 2} {p : FPacket} {s : State} (hk : s.Keeps cs) :
    ResKeeps cs (execFbBarParentRelease w p s) := by
  unfold execFbBarParentRelease
  exact (ResKeeps.next (State.checked_keeps (fun _ h1 => (State.fbParentRelease_keeps h1)) hk))

theorem State.fbLocalRelease_keeps {s : State} {w : Fin 2} {tile : Nat} {bid : Nat} (hk : s.Keeps cs) :
    State.Keeps cs (s.fbLocalRelease w tile bid) := by
  unfold State.fbLocalRelease
  exact (by (try extract_lets); split; exact (State.discard_keeps hk); exact (State.pumpHeldIn_keeps (State.fbApply_keeps (State.setFld_keeps (State.setFld_keeps (State.setFld_keeps (State.setFld_keeps (Keeps.foldl (fun _ _ h2 => (State.sendFabricBar_keeps h2)) hk))))))))

theorem execFbBarLocalRelease_keeps {w : Fin 2} {tile : BitVec 10} {bid : BitVec 4} {s : State} (hk : s.Keeps cs) :
    ResKeeps cs (execFbBarLocalRelease w tile bid s) := by
  unfold execFbBarLocalRelease
  exact (ResKeeps.next (State.fbLocalRelease_keeps hk))

/-! ### Forward.lean -/

theorem State.taken_keeps {s : State} {u : Site} {input : Dir} {out : Dir} {p : Packet} (hk : s.Keeps cs) :
    State.Keeps cs (s.taken u input out p) := by
  unfold State.taken
  exact (Keeps.ite (State.setTile_keeps hk) (State.setTile_keeps hk))

theorem State.leaveRowPort_keeps {s : State} {u : Site} {p : Packet} (hk : s.Keeps cs) :
    State.Keeps cs (s.leaveRowPort u p) := by
  unfold State.leaveRowPort
  exact (by (try extract_lets); split; exact (State.fbLocalArrive_keeps hk); exact (State.fbLocalRelease_keeps hk); exact (Keeps.ite (State.toHawkCores_keeps hk) (State.pumpHeldIn_keeps (State.offer_keeps hk))))

theorem State.meshForward_keeps {s : State} {u : Site} {out : Dir} {e : LinkErr} {tie : Bool} (hk : s.Keeps cs) :
    State.Keeps cs (s.meshForward u out e tie) := by
  unfold State.meshForward
  exact (Keeps.ite hk (by (try extract_lets); split; exact hk; exact (by (try extract_lets); split; exact hk; exact (Keeps.ite (State.badPacket_keeps (State.setTile_keeps hk)) (Keeps.ite hk (by (try extract_lets); split; exact (State.deliver_keeps (State.countTdc_keeps (State.taken_keeps hk))); exact (State.leaveRowPort_keeps (State.taken_keeps hk)); exact (State.cross_keeps (State.taken_keeps hk))))))))

theorem execMeshForward_keeps {u : Site} {out : Dir} {e : LinkErr} {tie : Bool} {s : State} (hk : s.Keeps cs) :
    ResKeeps cs (execMeshForward u out e tie s) := by
  unfold execMeshForward
  exact (ResKeeps.next (State.meshForward_keeps hk))

theorem execReadMerged_keeps {u : Site} {dir : Dir} {p : Packet} {tie : Bool} {s : State} (hk : s.Keeps cs) :
    ResKeeps cs (execReadMerged u dir p tie s) := by
  unfold execReadMerged
  exact (ResKeeps.next (State.arrive_keeps hk))

theorem execWordData_keeps {u : Site} {dir : Dir} {p : Packet} {tie : Bool} {s : State} (hk : s.Keeps cs) :
    ResKeeps cs (execWordData u dir p tie s) := by
  unfold execWordData
  exact (ResKeeps.ite (ResKeeps.next (State.badPacket_keeps hk)) (ResKeeps.ite (ResKeeps.next (State.toHawkCores_keeps (State.setTile_keeps (State.countTdc_keeps hk)))) (ResKeeps.next (State.enqueue_keeps hk))))

/-! ### Topology.lean -/

theorem State.delayReq_keeps {s : State} {w : Fin 2} {port : Nat} {t1 : Nat} (hk : s.Keeps cs) :
    State.Keeps cs (s.delayReq w port t1) := by
  unfold State.delayReq
  exact (Keeps.ite (State.setWing_keeps hk) hk)

theorem State.takeCrossing_keeps {s : State} {w : Fin 2} {port : Nat} {c : Control} (hk : s.Keeps cs) :
    State.Keeps cs (s.takeCrossing w port c) := by
  unfold State.takeCrossing
  exact (Keeps.ite (State.setWing_keeps hk) hk)

theorem State.syncTo_keeps {s : State} {w : Fin 2} {delay : Int} {offset : Int} (hk : s.Keeps cs) :
    State.Keeps cs (s.syncTo w delay offset) := by
  unfold State.syncTo
  exact (Keeps.ite (State.event_keeps (State.setFld_keeps (State.setFld_keeps (State.setFld_keeps (State.setFld_keeps (State.setFld_keeps (Keeps.ite (State.setWing_keeps hk) (State.setReg_keeps (State.setWing_keeps hk))))))))) (State.setFld_keeps (State.setFld_keeps (State.setFld_keeps (State.setFld_keeps (Keeps.ite (State.setWing_keeps hk) (State.setReg_keeps (State.setWing_keeps hk))))))))

theorem State.syncArrive_keeps {s : State} {w : Fin 2} {port : Nat} {t3 : BitVec 64} {t2 : BitVec 64} {t1 : BitVec 64} (hk : s.Keeps cs) :
    State.Keeps cs (s.syncArrive w port t3 t2 t1) := by
  unfold State.syncArrive
  exact (Keeps.ite (State.syncTo_keeps hk) hk)

theorem State.timesync_keeps {s : State} {w : Fin 2} (hk : s.Keeps cs) :
    State.Keeps cs (s.timesync w) := by
  unfold State.timesync
  exact (by (try extract_lets); split; exact (State.sendControl_keeps (Keeps.foldl (fun _ _ h3 => (by (try extract_lets); split; exact (State.sendControl_keeps h3); exact h3)) hk)); exact (Keeps.foldl (fun _ _ h4 => (by (try extract_lets); split; exact (State.sendControl_keeps h4); exact h4)) hk))

theorem State.swapPublications_keeps {s : State} {w : Fin 2} {step : Nat} (hk : s.Keeps cs) :
    State.Keeps cs (s.swapPublications w step) := by
  unfold State.swapPublications
  exact (Keeps.foldl (fun _ _ h1 => (Keeps.ite (State.setFld_keeps h1) h1)) hk)

theorem State.advanceStep_keeps {s : State} {w : Fin 2} {step : Nat} (hk : s.Keeps cs) :
    State.Keeps cs (s.advanceStep w step) := by
  unfold State.advanceStep
  exact (State.swapPublications_keeps (State.flipSpans_keeps (State.setWing_keeps (State.setFld_keeps hk))))

theorem State.forwardGo_keeps {s : State} {w : Fin 2} {step : Nat} {t : Nat} (hk : s.Keeps cs) :
    State.Keeps cs (s.forwardGo w step t) := by
  unfold State.forwardGo
  exact (Keeps.foldl (fun _ _ h1 => (State.sendControl_keeps h1)) hk)

theorem State.tryStepDone_keeps {s : State} {w : Fin 2} (hk : s.Keeps cs) :
    State.Keeps cs (s.tryStepDone w) := by
  unfold State.tryStepDone
  exact (Keeps.ite hk (Keeps.ite (State.forwardGo_keeps (State.setWing_keeps (State.setWing_keeps hk))) (by (try extract_lets); split; exact (State.sendControl_keeps (State.setWing_keeps hk)); exact hk)))

theorem State.stepDoneWrite_keeps {s : State} {w : Fin 2} {v : Nat} (hk : s.Keeps cs) :
    State.Keeps cs (s.stepDoneWrite w v) := by
  unfold State.stepDoneWrite
  exact (Keeps.ite (State.tryStepDone_keeps (State.setWing_keeps hk)) hk)

theorem State.childDone_keeps {s : State} {w : Fin 2} {port : Nat} {step : Nat} (hk : s.Keeps cs) :
    State.Keeps cs (s.childDone w port step) := by
  unfold State.childDone
  exact (Keeps.ite (State.tryStepDone_keeps (State.setWing_keeps hk)) hk)

theorem State.goArrive_keeps {s : State} {w : Fin 2} {port : Nat} {step : Nat} {t : Nat} (hk : s.Keeps cs) :
    State.Keeps cs (s.goArrive w port step t) := by
  unfold State.goArrive
  exact (Keeps.ite (Keeps.ite (State.advanceStep_keeps (State.addFld_keeps (State.forwardGo_keeps hk))) (State.setWing_keeps (State.forwardGo_keeps hk))) hk)

theorem State.reachGo_keeps {s : State} {w : Fin 2} (hk : s.Keeps cs) :
    State.Keeps cs (s.reachGo w) := by
  unfold State.reachGo
  exact (by (try extract_lets); split; exact (Keeps.ite (State.advanceStep_keeps hk) hk); exact hk)

theorem State.fabricStart_keeps {s : State} {w : Fin 2} (hk : s.Keeps cs) :
    State.Keeps cs (s.fabricStart w) := by
  unfold State.fabricStart
  exact (State.refreshOrder_keeps (State.setWing_keeps hk))

theorem State.fbJobWrite_keeps {s : State} {w : Fin 2} {v : Word} (hk : s.Keeps cs) :
    State.Keeps cs (s.fbJobWrite w v) := by
  unfold State.fbJobWrite
  exact (Keeps.ite (State.fabricStart_keeps (State.setFld_keeps (Keeps.ite (State.setFld_keeps (State.setFld_keeps (State.setFld_keeps hk))) (State.setFld_keeps hk)))) (State.setFld_keeps (Keeps.ite (State.setFld_keeps (State.setFld_keeps (State.setFld_keeps hk))) (State.setFld_keeps hk))))

theorem State.routeCtl_keeps {s : State} {w : Fin 2} {v : Word} (hk : s.Keeps cs) :
    State.Keeps cs (s.routeCtl w v) := by
  unfold State.routeCtl
  exact (Keeps.ite hk (Keeps.ite (State.setFld_keeps (State.setFld_keeps hk)) (State.setFld_keeps hk)))

theorem State.sample_keeps {s : State} {w : Fin 2} {out : Nat} (hk : s.Keeps cs) :
    State.Keeps cs (s.sample w out) := by
  unfold State.sample
  exact (State.addFld_keeps (State.setWing_keeps hk))

theorem State.occCtl_keeps {s : State} {w : Fin 2} {v : Word} (hk : s.Keeps cs) :
    State.Keeps cs (s.occCtl w v) := by
  unfold State.occCtl
  exact (Keeps.ite (Keeps.foldl (fun _ _ h1 => (State.setReg_keeps h1)) (State.setFld_keeps hk)) (State.setFld_keeps hk))

theorem State.stopArrive_keeps {s : State} {w : Fin 2} {p : Nat} {epoch : Nat} {status : Nat} {chip : Nat} (hk : s.Keeps cs) :
    State.Keeps cs (s.stopArrive w p epoch status chip) := by
  unfold State.stopArrive
  exact (Keeps.ite (State.stopWing_keeps hk) hk)

theorem State.stopAfterOther_keeps {s : State} {w : Fin 2} (hk : s.Keeps cs) :
    State.Keeps cs (s.stopAfterOther w) := by
  unfold State.stopAfterOther
  exact (Keeps.ite (State.stopWing_keeps hk) hk)

theorem execSweep_keeps {w : Fin 2} {port : Fin 10} {p : FPacket} {s : State} (hk : s.Keeps cs) :
    ResKeeps cs (execSweep w port p s) := by
  unfold execSweep
  exact (ResKeeps.next (State.packetArrive_keeps hk))

theorem execOccSample_keeps {w : Fin 2} {out : Fin 9} {s : State} (hk : s.Keeps cs) :
    ResKeeps cs (execOccSample w out s) := by
  unfold execOccSample
  exact (ResKeeps.next (State.sample_keeps hk))

theorem execOccClear_keeps {w : Fin 2} {value : BitVec 64} {s : State} (hk : s.Keeps cs) :
    ResKeeps cs (execOccClear w value s) := by
  unfold execOccClear
  exact (ResKeeps.next (State.whenUp_keeps hk (State.occCtl_keeps hk)))

theorem execRouteArm_keeps {w : Fin 2} {value : BitVec 64} {s : State} (hk : s.Keeps cs) :
    ResKeeps cs (execRouteArm w value s) := by
  unfold execRouteArm
  exact (ResKeeps.next (State.whenUp_keeps hk (State.routeCtl_keeps hk)))

theorem execTimesyncTimer_keeps {w : Fin 2} {s : State} (hk : s.Keeps cs) :
    ResKeeps cs (execTimesyncTimer w s) := by
  unfold execTimesyncTimer
  exact (ResKeeps.next (State.whenUp_keeps hk (State.timesync_keeps hk)))

theorem execDelayReq_keeps {w : Fin 2} {port : Fin 9} {t1 : BitVec 64} {s : State} (hk : s.Keeps cs) :
    ResKeeps cs (execDelayReq w port t1 s) := by
  unfold execDelayReq
  exact (ResKeeps.next (Keeps.ite hk (State.delayReq_keeps (State.takeCrossing_keeps hk))))

theorem execSync_keeps {w : Fin 2} {port : Fin 9} {t3 : BitVec 64} {t2 : BitVec 64} {t1 : BitVec 64} {s : State} (hk : s.Keeps cs) :
    ResKeeps cs (execSync w port t3 t2 t1 s) := by
  unfold execSync
  exact (ResKeeps.next (Keeps.ite hk (State.syncArrive_keeps (State.takeCrossing_keeps hk))))

theorem execTbTimeWrite_keeps {w : Fin 2} {value : BitVec 64} {s : State} (hk : s.Keeps cs) :
    ResKeeps cs (execTbTimeWrite w value s) := by
  unfold execTbTimeWrite
  exact (ResKeeps.next (Keeps.ite (State.setReg_keeps hk) hk))

theorem execTbStepDoneWrite_keeps {w : Fin 2} {value : BitVec 64} {s : State} (hk : s.Keeps cs) :
    ResKeeps cs (execTbStepDoneWrite w value s) := by
  unfold execTbStepDoneWrite
  exact (ResKeeps.next (State.whenUp_keeps hk (State.stepDoneWrite_keeps hk)))

theorem execStepDone_keeps {w : Fin 2} {port : Fin 9} {step : BitVec 64} {s : State} (hk : s.Keeps cs) :
    ResKeeps cs (execStepDone w port step s) := by
  unfold execStepDone
  exact (ResKeeps.next (State.childDone_keeps (State.takeCrossing_keeps hk)))

theorem execStepGo_keeps {w : Fin 2} {port : Fin 9} {step : BitVec 64} {t : BitVec 64} {s : State} (hk : s.Keeps cs) :
    ResKeeps cs (execStepGo w port step t s) := by
  unfold execStepGo
  exact (ResKeeps.next (State.goArrive_keeps (State.takeCrossing_keeps hk)))

theorem execStepAdvance_keeps {w : Fin 2} {s : State} (hk : s.Keeps cs) :
    ResKeeps cs (execStepAdvance w s) := by
  unfold execStepAdvance
  exact (ResKeeps.next (State.reachGo_keeps hk))

theorem execStop_keeps {w : Fin 2} {p : Fin 8} {epoch : BitVec 8} {status : BitVec 8} {chip : BitVec 16} {s : State} (hk : s.Keeps cs) :
    ResKeeps cs (execStop w p epoch status chip s) := by
  unfold execStop
  exact (ResKeeps.next (State.stopArrive_keeps hk))

theorem execJobStop_keeps {w : Fin 2} {status : BitVec 8} {source : BitVec 4} {locus : BitVec 16} {s : State} (hk : s.Keeps cs) :
    ResKeeps cs (execJobStop w status source locus s) := by
  unfold execJobStop
  exact (ResKeeps.next (Keeps.ite (State.stopHere_keeps hk) hk))

theorem execOtherWingStop_keeps {w : Fin 2} {s : State} (hk : s.Keeps cs) :
    ResKeeps cs (execOtherWingStop w s) := by
  unfold execOtherWingStop
  exact (ResKeeps.next (State.stopAfterOther_keeps hk))

/-! ### Link.lean -/

theorem State.portDown_keeps {s : State} {w : Fin 2} {p : Nat} (hk : s.Keeps cs) :
    State.Keeps cs (s.portDown w p) := by
  unfold State.portDown
  exact (Keeps.ite (State.stopHere_keeps (State.event_keeps (Keeps.ite (State.setFld_keeps (State.setFld_keeps (State.setFld_keeps (State.setWing_keeps hk)))) (State.setFld_keeps (State.setFld_keeps (State.setWing_keeps hk)))))) (State.event_keeps (Keeps.ite (State.setFld_keeps (State.setFld_keeps (State.setFld_keeps (State.setWing_keeps hk)))) (State.setFld_keeps (State.setFld_keeps (State.setWing_keeps hk))))))

theorem State.applyVerdicts_keeps {s : State} {w : Fin 2} (hk : s.Keeps cs) :
    State.Keeps cs (s.applyVerdicts w) := by
  unfold State.applyVerdicts
  exact (Keeps.foldl (fun _ _ h1 => (Keeps.ite h1 (State.setFld_keeps h1))) hk)

theorem State.applyRole_keeps {s : State} {w : Fin 2} {p : Nat} (hk : s.Keeps cs) :
    State.Keeps cs (s.applyRole w p) := by
  unfold State.applyRole
  exact (Keeps.ite (State.setFld_keeps (State.setFld_keeps hk)) (Keeps.ite (State.setFld_keeps hk) hk))

theorem State.applyRoles_keeps {s : State} {w : Fin 2} (hk : s.Keeps cs) :
    State.Keeps cs (s.applyRoles w) := by
  unfold State.applyRoles
  exact (Keeps.foldl (fun _ _ h1 => (State.applyRole_keeps h1)) hk)

theorem State.matchPlan_keeps {s : State} {w : Fin 2} {p : Nat} (hk : s.Keeps cs) :
    State.Keeps cs (s.matchPlan w p) := by
  unfold State.matchPlan
  exact (State.setFld_keeps hk)

theorem State.matchPlans_keeps {s : State} {w : Fin 2} (hk : s.Keeps cs) :
    State.Keeps cs (s.matchPlans w) := by
  unfold State.matchPlans
  exact (Keeps.foldl (fun _ _ h1 => (State.matchPlan_keeps h1)) hk)

theorem State.portTrained_keeps {s : State} {w : Fin 2} {p : Nat} {rtt : Nat} (hk : s.Keeps cs) :
    State.Keeps cs (s.portTrained w p rtt) := by
  unfold State.portTrained
  exact (Keeps.ite hk (State.sendControl_keeps (State.setWing_keeps (State.setFld_keeps (State.setFld_keeps (State.setFld_keeps (State.setReg_keeps (State.setReg_keeps hk))))))))

theorem State.helloArrive_keeps {s : State} {w : Fin 2} {p : Nat} {h : Hello} (hk : s.Keeps cs) :
    State.Keeps cs (s.helloArrive w p h) := by
  unfold State.helloArrive
  exact (Keeps.ite hk (Keeps.ite (State.matchPlan_keeps (State.setFld_keeps (State.setFld_keeps (State.setFld_keeps (State.setFld_keeps (State.setFld_keeps (State.setFld_keeps (State.setFld_keeps (State.setReg_keeps (State.setWing_keeps hk)))))))))) (State.portDown_keeps (State.setFld_keeps (State.matchPlan_keeps (State.setFld_keeps (State.setFld_keeps (State.setFld_keeps (State.setFld_keeps (State.setFld_keeps (State.setFld_keeps (State.setFld_keeps (State.setReg_keeps (State.setWing_keeps hk))))))))))))))

theorem State.ackArrive_keeps {s : State} {w : Fin 2} {p : Nat} {seq : BitVec 8} (hk : s.Keeps cs) :
    State.Keeps cs (s.ackArrive w p seq) := by
  unfold State.ackArrive
  exact (Keeps.ite (State.pumpPort_keeps (State.setWing_keeps hk)) hk)

theorem State.countPoison_keeps {s : State} {w : Fin 2} {p : Nat} (hk : s.Keeps cs) :
    State.Keeps cs (s.countPoison w p) := by
  unfold State.countPoison
  exact (Keeps.ite (State.portDown_keeps (State.addFld_keeps (State.setWing_keeps hk))) (State.addFld_keeps (State.setWing_keeps hk)))

theorem State.nakArrive_keeps {s : State} {w : Fin 2} {p : Nat} {seq : BitVec 8} (hk : s.Keeps cs) :
    State.Keeps cs (s.nakArrive w p seq) := by
  unfold State.nakArrive
  exact (Keeps.ite hk (by (try extract_lets); split; exact hk; exact (Keeps.ite (State.countPoison_keeps (State.addFld_keeps (State.setWing_keeps hk))) (State.addFld_keeps (State.setWing_keeps hk)))))

theorem State.flitLost_keeps {s : State} {w : Fin 2} {p : Nat} {vc : Nat} {tail : Bool} (hk : s.Keeps cs) :
    State.Keeps cs (s.flitLost w p vc tail) := by
  unfold State.flitLost
  exact (State.countPoison_keeps (Keeps.ite (State.setWing_keeps hk) (by (try extract_lets); split; exact (State.discard_keeps (State.setWing_keeps hk)); exact (Keeps.ite (State.packetArrive_keeps (State.setWing_keeps hk)) (State.setWing_keeps hk)))))

theorem State.flitArrive_keeps {s : State} {w : Fin 2} {p : Nat} {f : Frame} (hk : s.Keeps cs) :
    State.Keeps cs (s.flitArrive w p f) := by
  unfold State.flitArrive
  exact (Keeps.ite (State.setWing_keeps hk) (by (try extract_lets); split; exact (State.setWing_keeps hk); exact (Keeps.ite (State.packetArrive_keeps (State.setWing_keeps hk)) (State.setWing_keeps hk))))

theorem State.controlArrive_keeps {s : State} {w : Fin 2} {p : Nat} {f : Frame} {x : Control} (hk : s.Keeps cs) :
    State.Keeps cs (s.controlArrive w p f x) := by
  unfold State.controlArrive
  exact (by (try extract_lets); split; exact hk; exact (State.ackArrive_keeps hk); exact (State.nakArrive_keeps hk); exact (State.flitLost_keeps hk); exact (State.helloArrive_keeps hk); exact (State.syncArrive_keeps hk); exact (State.delayReq_keeps hk); exact (State.childDone_keeps hk); exact (State.goArrive_keeps hk); exact (State.stopArrive_keeps hk); exact hk)

theorem State.frameArrive_keeps {s : State} {w : Fin 2} {p : Nat} {f : Frame} {chk : FrameCheck} (hk : s.Keeps cs) :
    State.Keeps cs (s.frameArrive w p f chk) := by
  unfold State.frameArrive
  exact (Keeps.ite hk (Keeps.ite (Keeps.ite (Keeps.ite hk (State.addFld_keeps hk)) (State.sendControl_keeps (State.setWing_keeps (Keeps.ite hk (State.addFld_keeps hk))))) (Keeps.ite (Keeps.ite hk (State.addFld_keeps hk)) (State.pumpPort_keeps (Keeps.ite (State.sendControl_keeps (by (try extract_lets); split; exact (State.controlArrive_keeps (State.setWing_keeps (Keeps.ite hk (State.addFld_keeps hk)))); exact (State.flitArrive_keeps (State.setWing_keeps (Keeps.ite hk (State.addFld_keeps hk)))))) (by (try extract_lets); split; exact (State.controlArrive_keeps (State.setWing_keeps (Keeps.ite hk (State.addFld_keeps hk)))); exact (State.flitArrive_keeps (State.setWing_keeps (Keeps.ite hk (State.addFld_keeps hk))))))))))

theorem execFrameReceive_keeps {w : Fin 2} {p : Fin 8} {f : Frame} {chk : FrameCheck} {s : State} (hk : s.Keeps cs) :
    ResKeeps cs (execFrameReceive w p f chk s) := by
  unfold execFrameReceive
  exact (ResKeeps.next (State.frameArrive_keeps hk))

theorem execAck_keeps {w : Fin 2} {p : Fin 8} {seq : BitVec 8} {s : State} (hk : s.Keeps cs) :
    ResKeeps cs (execAck w p seq s) := by
  unfold execAck
  exact (ResKeeps.next (State.ackArrive_keeps hk))

theorem execNak_keeps {w : Fin 2} {p : Fin 8} {seq : BitVec 8} {s : State} (hk : s.Keeps cs) :
    ResKeeps cs (execNak w p seq s) := by
  unfold execNak
  exact (ResKeeps.next (State.nakArrive_keeps hk))

theorem execPoison_keeps {w : Fin 2} {p : Fin 8} {seq : BitVec 8} {vc : BitVec 2} {tail : Bool} {s : State} (hk : s.Keeps cs) :
    ResKeeps cs (execPoison w p seq vc tail s) := by
  unfold execPoison
  exact (ResKeeps.ite (ResKeeps.next (State.flitLost_keeps (State.setWing_keeps hk))) (ResKeeps.next hk))

theorem execLaneLockLoss_keeps {w : Fin 2} {p : Fin 8} {lane : Fin 4} {s : State} (hk : s.Keeps cs) :
    ResKeeps cs (execLaneLockLoss w p lane s) := by
  unfold execLaneLockLoss
  exact (ResKeeps.next (Keeps.ite (State.portDown_keeps (State.setFld_keeps hk)) (State.setFld_keeps hk)))

theorem execPortTrained_keeps {w : Fin 2} {p : Fin 8} {rtt : BitVec 12} {s : State} (hk : s.Keeps cs) :
    ResKeeps cs (execPortTrained w p rtt s) := by
  unfold execPortTrained
  exact (ResKeeps.next (State.portTrained_keeps hk))

theorem execHello_keeps {w : Fin 2} {p : Fin 8} {h : Hello} {s : State} (hk : s.Keeps cs) :
    ResKeeps cs (execHello w p h s) := by
  unfold execHello
  exact (ResKeeps.next (State.helloArrive_keeps hk))

theorem execHelloTimer_keeps {w : Fin 2} {p : Fin 8} {s : State} (hk : s.Keeps cs) :
    ResKeeps cs (execHelloTimer w p s) := by
  unfold execHelloTimer
  exact (ResKeeps.next (State.whenUp_keeps hk (Keeps.ite (State.sendControl_keeps hk) (State.applyRole_keeps hk))))

end Sys2Proof.Machine
end

