-- ==== Sys2Proof/Laws/KeepsServing.lean ====
section
/-!
SUPPORT. Keeps (Laws/Keeps.lean) for the serving engine and the ledger.
-/
namespace Sys2Proof.Machine

variable {cs : List Instr}

/-! ### Slots.lean -/

theorem State.enginePut_keeps {s : State} {w : Fin 2} {off : Nat} {bs : List Byte} (hk : s.Keeps cs) :
    State.Keeps cs (s.enginePut w off bs) := by
  unfold State.enginePut
  exact (Keeps.foldl (fun _ _ h1 => (Keeps.ite h1 (State.hbmStore_keeps h1))) hk)

theorem State.writeRegion_keeps {s : State} {w : Fin 2} {kind : Nat} {off : Nat} {bs : List Byte} (hk : s.Keeps cs) :
    State.Keeps cs (s.writeRegion w kind off bs) := by
  unfold State.writeRegion
  exact (by (try extract_lets); split; exact (Keeps.ite (State.enginePut_keeps hk) hk); exact hk)

theorem State.zeroRegion_keeps {s : State} {w : Fin 2} {kind off n : Nat} (h : s.Keeps cs) :
    (s.zeroRegion w kind off n).Keeps cs := by
  unfold State.zeroRegion
  split
  · exact Keeps.ite (State.clearPoison_keeps (State.setMem_keeps h (sparseWf_filter _ _ h.2.1))) h
  · exact h

theorem State.orStop_keeps {s : State} {w : Fin 2} {bad : Option (Nat × Nat)} {t : State} (h0 : s.Keeps cs) (hk : t.Keeps cs) :
    State.Keeps cs (s.orStop w bad t) := by
  unfold State.orStop
  exact (by (try extract_lets); split; exact (State.stopHere_keeps h0); exact hk)

theorem State.refreshSlots_keeps {s : State} {w : Fin 2} (hk : s.Keeps cs) :
    State.Keeps cs (s.refreshSlots w) := by
  unfold State.refreshSlots
  exact (State.setFld_keeps (State.setFld_keeps (State.setFld_keeps (State.setFld_keeps hk))))

theorem State.setSlot_keeps {s : State} {w : Fin 2} {n : Nat} {x : Slot} (hk : s.Keeps cs) :
    State.Keeps cs (s.setSlot w n x) := by
  unfold State.setSlot
  exact (State.refreshSlots_keeps (State.writeRegion_keeps (State.setWing_keeps hk)))

theorem State.setSlotBoth_keeps {s : State} {n : Nat} {x : Slot} (hk : s.Keeps cs) :
    State.Keeps cs (s.setSlotBoth n x) := by
  unfold State.setSlotBoth
  exact (Keeps.ite (State.setSlot_keeps (State.setSlot_keeps hk)) (Keeps.ite (State.setWing_keeps (State.setSlot_keeps hk)) (State.setWing_keeps (State.setSlot_keeps hk))))

theorem State.writePageList_keeps {s : State} {n : Nat} {groups : List Nat} (hk : s.Keeps cs) :
    State.Keeps cs (s.writePageList n groups) := by
  unfold State.writePageList
  exact (State.writeRegion_keeps (State.writeRegion_keeps hk))

theorem State.writeSpans_keeps {s : State} {w : Fin 2} {step : Nat} {pages : List (Nat × List Nat)} (hk : s.Keeps cs) :
    State.Keeps cs (s.writeSpans w step pages) := by
  unfold State.writeSpans
  exact (State.spanCtl_keeps (State.setFld_keeps (Keeps.foldl (fun _ _ h1 => (State.setReg_keeps h1)) hk)))

/-! ### Handoff.lean -/

theorem State.offerAll_keeps {s : State} {w : Fin 2} {l : List FPacket} (hk : s.Keeps cs) :
    State.Keeps cs (s.offerAll w l) := by
  unfold State.offerAll
  exact (Keeps.foldl (fun _ _ h1 => (State.offer_keeps h1)) hk)

theorem State.shipPage_keeps {s : State} {c : PageCopy} (hk : s.Keeps cs) :
    State.Keeps cs (s.shipPage c) := by
  unfold State.shipPage
  exact (State.orStop_keeps hk (State.offerAll_keeps hk))

theorem State.stopCopy_keeps {s : State} {c : PageCopy} (hk : s.Keeps cs) :
    State.Keeps cs (s.stopCopy c) := by
  unfold State.stopCopy
  exact (Keeps.ite (State.setWing_keeps hk) hk)

theorem State.cancelHandoff_keeps {s : State} {n : Nat} {reqId : BitVec 64} (hk : s.Keeps cs) :
    State.Keeps cs (s.cancelHandoff n reqId) := by
  unfold State.cancelHandoff
  exact (by (try extract_lets); split; exact hk; exact (Keeps.ite (State.setWing_keeps hk) (by (try extract_lets); split; exact (Keeps.foldl (fun _ _ h4 => (State.stopCopy_keeps h4)) (State.setWing_keeps hk)); exact (State.setWing_keeps hk))))

theorem State.offerSlot_keeps {s : State} {x : Slot} {tries : Nat} (hk : s.Keeps cs) :
    State.Keeps cs (s.offerSlot x tries) := by
  unfold State.offerSlot
  exact (by (try extract_lets); split; exact (State.setWing_keeps hk); exact hk)

theorem State.offerHandoff_keeps {s : State} {n : Nat} {x : Slot} (hk : s.Keeps cs) :
    State.Keeps cs (s.offerHandoff n x) := by
  unfold State.offerHandoff
  exact (by (try extract_lets); split; exact (State.offerSlot_keeps (State.setWing_keeps hk)); exact (Keeps.ite (State.offerSlot_keeps (State.setWing_keeps hk)) hk))

theorem State.offerHandoffs_keeps {s : State} (hk : s.Keeps cs) :
    State.Keeps cs (s.offerHandoffs) := by
  unfold State.offerHandoffs
  exact (Keeps.ite hk (Keeps.foldl (fun _ _ h1 => (State.offerHandoff_keeps h1)) hk))

theorem State.takeHandoff_keeps {s : State} {a : HandoffArgs} (hk : s.Keeps cs) :
    State.Keeps cs (s.takeHandoff a) := by
  unfold State.takeHandoff
  exact (Keeps.ite hk (by (try extract_lets); split; exact (State.setWing_keeps hk); exact (by (try extract_lets); split; exact (State.setWing_keeps hk); exact (State.setWing_keeps (State.writePageList_keeps (State.setSlotBoth_keeps (State.setWing_keeps hk)))))))

theorem State.handoffReplied_keeps {s : State} {reqId : BitVec 64} {status : Nat} {chip : Nat} {slot : Nat} {groups : List Nat} (hk : s.Keeps cs) :
    State.Keeps cs (s.handoffReplied reqId status chip slot groups) := by
  unfold State.handoffReplied
  exact (by (try extract_lets); split; exact hk; exact (Keeps.ite (State.setWing_keeps hk) (Keeps.ite (State.setWing_keeps hk) (Keeps.foldl (fun _ _ h2 => (State.shipPage_keeps h2)) (State.setWing_keeps hk)))))

theorem State.sendShipDone_keeps {s : State} {n : Nat} {x : Slot} {h : Handoff} {chip : Nat} {slot : Nat} (hk : s.Keeps cs) :
    State.Keeps cs (s.sendShipDone n x h chip slot) := by
  unfold State.sendShipDone
  exact (Keeps.ite (State.setWing_keeps hk) (State.setSlotBoth_keeps (State.setWing_keeps hk)))

theorem State.takeShipDone_keeps {s : State} {n : Nat} {x : Slot} {cancelled : Bool} (hk : s.Keeps cs) :
    State.Keeps cs (s.takeShipDone n x cancelled) := by
  unfold State.takeShipDone
  exact (Keeps.ite (State.setSlotBoth_keeps hk) (Keeps.ite (State.setSlotBoth_keeps hk) (State.setSlotBoth_keeps hk)))

theorem State.shipDone_keeps {s : State} {n : Nat} {cancelled : Bool} (hk : s.Keeps cs) :
    State.Keeps cs (s.shipDone n cancelled) := by
  unfold State.shipDone
  exact (by (try extract_lets); split; exact (by (try extract_lets); split; exact (Keeps.ite (State.sendShipDone_keeps hk) hk); exact hk); exact (Keeps.ite (State.takeShipDone_keeps hk) hk))

theorem State.filterSlot_keeps {s : State} {n : Nat} (hk : s.Keeps cs) :
    State.Keeps cs (s.filterSlot n) := by
  unfold State.filterSlot
  exact (Keeps.ite (State.setWing_keeps (State.setCancelBit_keeps (State.setCancelBit_keeps hk))) hk)

theorem State.resolveCancel_keeps {s : State} {vector : Nat} {tag : BitVec 64} {reqId : BitVec 64} (hk : s.Keeps cs) :
    State.Keeps cs (s.resolveCancel vector tag reqId) := by
  unfold State.resolveCancel
  exact (by (try extract_lets); split; exact (State.cmdCompletion_keeps hk); exact (State.setWing_keeps (State.setSlotBoth_keeps (State.cancelHandoff_keeps (State.filterSlot_keeps hk)))))

theorem State.serveCancel_keeps {s : State} {vector : Nat} {tag : BitVec 64} {reqId : BitVec 64} {late : Bool} (hk : s.Keeps cs) :
    State.Keeps cs (s.serveCancel vector tag reqId late) := by
  unfold State.serveCancel
  exact (Keeps.ite (State.cmdCompletion_keeps hk) (by (try extract_lets); split; exact (State.cmdCompletion_keeps hk); exact (Keeps.ite (State.setWing_keeps (State.filterSlot_keeps (State.countTdc_keeps hk))) (State.resolveCancel_keeps (State.countTdc_keeps hk)))))

theorem State.resolveLate_keeps {s : State} (hk : s.Keeps cs) :
    State.Keeps cs (s.resolveLate) := by
  unfold State.resolveLate
  exact (Keeps.foldl (fun _ _ h1 => (State.resolveCancel_keeps h1)) (State.setWing_keeps hk))

/-! ### Tables.lean -/

theorem State.hawkWord_keeps {s : State} {u : Site} {row : Nat} {word : Nat} {bs : List Byte} (hk : s.Keeps cs) :
    State.Keeps cs (s.hawkWord u row word bs) := by
  unfold State.hawkWord
  exact (Keeps.ite (State.setTile_keeps hk) (State.arriveWord_keeps hk))

theorem State.writeShadow_keeps {s : State} {t : TableImage} {data : List Byte} (hk : s.Keeps cs) :
    State.Keeps cs (s.writeShadow t data) := by
  unfold State.writeShadow
  exact (Keeps.foldl (fun _ _ h1 => (State.hawkWord_keeps h1)) hk)

theorem State.recordTable_keeps {s : State} {w : Fin 2} {n : Nat} {r : TableRec} (hk : s.Keeps cs) :
    State.Keeps cs (s.recordTable w n r) := by
  unfold State.recordTable
  exact (State.writeRegion_keeps (State.writeRegion_keeps hk))

theorem State.armRecord_keeps {s : State} {w : Fin 2} {n : Nat} (hk : s.Keeps cs) :
    State.Keeps cs (s.armRecord w n) := by
  unfold State.armRecord
  exact (by (try extract_lets); split; exact hk; exact (State.recordTable_keeps (State.setWing_keeps hk)))

theorem State.armSet_keeps {s : State} {w : Fin 2} {n : Nat} (hk : s.Keeps cs) :
    State.Keeps cs (s.armSet w n) := by
  unfold State.armSet
  exact (State.setFld_keeps (State.setFld_keeps hk))

theorem State.pubArm_keeps {s : State} {w : Fin 2} {n : Nat} (hk : s.Keeps cs) :
    State.Keeps cs (s.pubArm w n) := by
  unfold State.pubArm
  exact (Keeps.ite (State.armRecord_keeps (State.armSet_keeps hk)) (State.stopHere_keeps (State.setFld_keeps hk)))

theorem State.eraseRecords_keeps {s : State} {w : Fin 2} {n : Nat} {f : Nat} (hk : s.Keeps cs) :
    State.Keeps cs (s.eraseRecords w n f) := by
  unfold State.eraseRecords
  exact (Keeps.foldl (fun _ _ h1 => (by (try extract_lets); split; exact (Keeps.ite (State.writeRegion_keeps h1) h1); exact h1)) hk)

theorem State.pubCancel_keeps {s : State} {w : Fin 2} {n : Nat} (hk : s.Keeps cs) :
    State.Keeps cs (s.pubCancel w n) := by
  unfold State.pubCancel
  exact (Keeps.ite (State.eraseRecords_keeps (State.setFld_keeps hk)) hk)

theorem State.publishOn_keeps {s : State} {w : Fin 2} {n : Nat} {swap : Nat} {version : Nat} (hk : s.Keeps cs) :
    State.Keeps cs (s.publishOn w n swap version) := by
  unfold State.publishOn
  exact (State.pubArm_keeps (State.setWing_keeps (State.setReg_keeps hk)))

theorem State.armPublication_keeps {s : State} {a : Publication} (hk : s.Keeps cs) :
    State.Keeps cs (s.armPublication a) := by
  unfold State.armPublication
  exact (State.cmdCompletion_keeps (State.setWing_keeps (State.publishOn_keeps (State.publishOn_keeps hk))))

theorem State.dropPublication_keeps {s : State} {a : Publication} (hk : s.Keeps cs) :
    State.Keeps cs (s.dropPublication a) := by
  unfold State.dropPublication
  exact (State.setWing_keeps hk)

theorem State.settlePublication_keeps {s : State} {a : Publication} (hk : s.Keeps cs) :
    State.Keeps cs (s.settlePublication a) := by
  unfold State.settlePublication
  exact (Keeps.ite (State.armPublication_keeps (State.dropPublication_keeps hk)) (Keeps.ite (State.cmdCompletion_keeps (State.dropPublication_keeps hk)) hk))

theorem State.settlePublications_keeps {s : State} (hk : s.Keeps cs) :
    State.Keeps cs (s.settlePublications) := by
  unfold State.settlePublications
  exact (Keeps.foldl (fun _ _ h1 => (State.settlePublication_keeps h1)) hk)

theorem State.refusePublications_keeps {s : State} (hk : s.Keeps cs) :
    State.Keeps cs (s.refusePublications) := by
  unfold State.refusePublications
  exact (Keeps.foldl (fun _ _ h1 => (State.cmdCompletion_keeps (State.dropPublication_keeps h1))) hk)

theorem State.servePublish_keeps {s : State} {vector : Nat} {tag : BitVec 64} {a : PublishArgs} (hk : s.Keeps cs) :
    State.Keeps cs (s.servePublish vector tag a) := by
  unfold State.servePublish
  exact (Keeps.ite (State.cmdCompletion_keeps hk) (State.settlePublication_keeps (State.setWing_keeps (Keeps.foldl (fun _ _ h1 => (State.writeShadow_keeps h1)) hk))))

/-! ### Ledger.lean -/

theorem State.setBlock_keeps {s : State} {w : Fin 2} {b : LedgerBlock} (hk : s.Keeps cs) :
    State.Keeps cs (s.setBlock w b) := by
  unfold State.setBlock
  exact (Keeps.ite (State.writeRegion_keeps (State.writeRegion_keeps (State.setWing_keeps hk))) (State.writeRegion_keeps (State.setWing_keeps hk)))

theorem State.writeAudit_keeps {s : State} {w : Fin 2} (hk : s.Keeps cs) :
    State.Keeps cs (s.writeAudit w) := by
  unfold State.writeAudit
  exact (State.setBlock_keeps (State.writeRegion_keeps (State.setFld_keeps (State.setFld_keeps (State.setWing_keeps hk)))))

theorem State.closeBlock_keeps {s : State} {w : Fin 2} {n : Nat} (hk : s.Keeps cs) :
    State.Keeps cs (s.closeBlock w n) := by
  unfold State.closeBlock
  exact (by (try extract_lets); split; exact (Keeps.ite (State.addFld_keeps (State.setCocoon_keeps (State.setBlock_keeps hk))) hk); exact hk)

theorem State.closeBlocks_keeps {s : State} {w : Fin 2} (hk : s.Keeps cs) :
    State.Keeps cs (s.closeBlocks w) := by
  unfold State.closeBlocks
  exact (Keeps.foldl (fun _ _ h1 => (State.closeBlock_keeps h1)) hk)

theorem State.signOld_keeps {s : State} {w : Fin 2} {b : OldBlock} {sig : BitVec 768} (hk : s.Keeps cs) :
    State.Keeps cs (s.signOld w b sig) := by
  unfold State.signOld
  exact (Keeps.ite (State.enginePut_keeps hk) hk)

/-! ### Boundary.lean -/

theorem State.commitOne_keeps {s : State} {w : Fin 2} {step : Nat} {e : Nat × Slot} (hk : s.Keeps cs) :
    State.Keeps cs (s.commitOne w step e) := by
  unfold State.commitOne
  exact (Keeps.ite (State.setWing_keeps (State.setSlot_keeps hk)) (State.setSlot_keeps hk))

theorem State.commit_keeps {s : State} {w : Fin 2} (hk : s.Keeps cs) :
    State.Keeps cs (s.commit w) := by
  unfold State.commit
  exact (State.writeRegion_keeps (State.setReg_keeps (State.writeAudit_keeps (Keeps.foldl (fun _ _ h1 => (State.commitOne_keeps h1)) hk))))

theorem State.freezeWhole_keeps {s : State} {w : Fin 2} (hk : s.Keeps cs) :
    State.Keeps cs (s.freezeWhole w) := by
  unfold State.freezeWhole
  exact (Keeps.ite (State.writeSpans_keeps (State.writeRegion_keeps (State.setWing_keeps hk))) hk)

theorem State.holdPart_keeps {s : State} {w : Fin 2} {q : Nat} {es : List (Nat × Entry)} {clear : List (BitVec 14)} {pages : List (Nat × List Nat)} (hk : s.Keeps cs) :
    State.Keeps cs (s.holdPart w q es clear pages) := by
  unfold State.holdPart
  exact (State.freezeWhole_keeps (Keeps.foldl (fun _ _ h1 => (State.setCancelBit_keeps h1)) (State.setWing_keeps hk)))

theorem State.placeSlots_keeps {s : State} {w : Fin 2} {l : List (Nat × Slot)} (hk : s.Keeps cs) :
    State.Keeps cs (s.placeSlots w l) := by
  unfold State.placeSlots
  exact (Keeps.foldl (fun _ _ h1 => (State.setSlot_keeps h1)) hk)

theorem State.freezeOwn_keeps {s : State} (hk : s.Keeps cs) :
    State.Keeps cs (s.freezeOwn) := by
  unfold State.freezeOwn
  exact (Keeps.ite hk (State.orStop_keeps hk (State.holdPart_keeps (State.placeSlots_keeps (State.setWing_keeps hk)))))

theorem State.mirror_keeps {s : State} {w : Fin 2} (hk : s.Keeps cs) :
    State.Keeps cs (s.mirror w) := by
  unfold State.mirror
  exact (State.orStop_keeps hk (State.offerAll_keeps (State.setWing_keeps hk)))

theorem State.reclaim_keeps {s : State} {w : Fin 2} (hk : s.Keeps cs) :
    State.Keeps cs (s.reclaim w) := by
  unfold State.reclaim
  exact (State.setWing_keeps (Keeps.foldl (fun _ _ h1 => (State.setSlot_keeps h1)) hk))

theorem State.applyDecided_keeps {s : State} (hk : s.Keeps cs) :
    State.Keeps cs (s.applyDecided) := by
  unfold State.applyDecided
  exact (Keeps.foldl (fun _ _ h1 => (State.setSlot_keeps h1)) (State.setWing_keeps hk))

theorem State.copyLate_keeps {s : State} (hk : s.Keeps cs) :
    State.Keeps cs (s.copyLate) := by
  unfold State.copyLate
  exact (Keeps.ite (State.reclaim_keeps (Keeps.foldl (fun _ _ h1 => (State.setSlot_keeps h1)) (State.setWing_keeps hk))) (Keeps.foldl (fun _ _ h2 => (State.setSlot_keeps h2)) (State.setWing_keeps hk)))

theorem State.settleRelease_keeps {s : State} (hk : s.Keeps cs) :
    State.Keeps cs (s.settleRelease) := by
  unfold State.settleRelease
  exact (by (try extract_lets); split; exact hk; exact (Keeps.ite hk (Keeps.foldl (fun _ _ h2 => (State.writeRegion_keeps (State.setReg_keeps h2))) (State.setHost_keeps hk))))

theorem State.releaseStep_keeps {s : State} {step : Nat} (hk : s.Keeps cs) :
    State.Keeps cs (s.releaseStep step) := by
  unfold State.releaseStep
  exact (Keeps.ite (State.setWing_keeps hk) (State.settleRelease_keeps (State.pump_keeps (State.setHost_keeps (State.setWing_keeps hk)))))

theorem State.tryReport_keeps {s : State} {w : Fin 2} (hk : s.Keeps cs) :
    State.Keeps cs (s.tryReport w) := by
  unfold State.tryReport
  exact (Keeps.ite hk (Keeps.ite hk (Keeps.ite (State.setFld_keeps hk) (State.stepDoneWrite_keeps (State.setWing_keeps (State.setFld_keeps hk))))))

theorem State.acknowledged_keeps {s : State} {w : Fin 2} (hk : s.Keeps cs) :
    State.Keeps cs (s.acknowledged w) := by
  unfold State.acknowledged
  exact (Keeps.ite (State.releaseStep_keeps (State.tryReport_keeps (State.reclaim_keeps (Keeps.ite (State.closeBlock_keeps (State.setReg_keeps (State.setWing_keeps hk))) (State.setReg_keeps (State.setWing_keeps hk)))))) (State.tryReport_keeps (State.reclaim_keeps (Keeps.ite (State.closeBlock_keeps (State.setReg_keeps (State.setWing_keeps hk))) (State.setReg_keeps (State.setWing_keeps hk))))))

theorem State.settleItem4_keeps {s : State} {w : Fin 2} (hk : s.Keeps cs) :
    State.Keeps cs (s.settleItem4 w) := by
  unfold State.settleItem4
  exact (Keeps.ite (State.acknowledged_keeps hk) hk)

theorem State.mirrorAck_keeps {s : State} {w : Fin 2} (hk : s.Keeps cs) :
    State.Keeps cs (s.mirrorAck w) := by
  unfold State.mirrorAck
  exact (Keeps.ite (State.settleItem4_keeps (State.setWing_keeps hk)) hk)

theorem State.boundaryAhead_keeps {s : State} {w : Fin 2} (hk : s.Keeps cs) :
    State.Keeps cs (s.boundaryAhead w) := by
  unfold State.boundaryAhead
  exact (Keeps.ite (State.stopHere_keeps hk) (State.tryReport_keeps (State.freezeWhole_keeps (Keeps.ite (State.freezeOwn_keeps (State.resolveLate_keeps (Keeps.ite (State.mirror_keeps (State.setWing_keeps hk)) (State.setWing_keeps (State.setWing_keeps hk))))) (Keeps.ite (State.mirror_keeps (State.setWing_keeps hk)) (State.setWing_keeps (State.setWing_keeps hk)))))))

theorem State.boundaryCommit_keeps {s : State} {w : Fin 2} (hk : s.Keeps cs) :
    State.Keeps cs (s.boundaryCommit w) := by
  unfold State.boundaryCommit
  exact (State.freezeWhole_keeps (Keeps.ite (State.freezeOwn_keeps (Keeps.ite (State.offerHandoffs_keeps (State.mirror_keeps (Keeps.ite (State.resolveLate_keeps (State.copyLate_keeps (State.setWing_keeps (State.commit_keeps hk)))) (State.applyDecided_keeps (State.setWing_keeps (State.commit_keeps hk)))))) (State.mirror_keeps (Keeps.ite (State.resolveLate_keeps (State.copyLate_keeps (State.setWing_keeps (State.commit_keeps hk)))) (State.applyDecided_keeps (State.setWing_keeps (State.commit_keeps hk))))))) (Keeps.ite (State.offerHandoffs_keeps (State.mirror_keeps (Keeps.ite (State.resolveLate_keeps (State.copyLate_keeps (State.setWing_keeps (State.commit_keeps hk)))) (State.applyDecided_keeps (State.setWing_keeps (State.commit_keeps hk)))))) (State.mirror_keeps (Keeps.ite (State.resolveLate_keeps (State.copyLate_keeps (State.setWing_keeps (State.commit_keeps hk)))) (State.applyDecided_keeps (State.setWing_keeps (State.commit_keeps hk))))))))

theorem State.boundary_keeps {s : State} {w : Fin 2} (hk : s.Keeps cs) :
    State.Keeps cs (s.boundary w) := by
  unfold State.boundary
  exact (Keeps.ite hk (by (try extract_lets); split; exact (State.stopHere_keeps hk); exact (State.orStop_keeps hk (Keeps.ite (State.boundaryAhead_keeps hk) (Keeps.ite (State.setFld_keeps hk) (State.boundaryCommit_keeps hk))))))

theorem execStepBoundary_keeps {w : Fin 2} {s : State} (hk : s.Keeps cs) :
    ResKeeps cs (execStepBoundary w s) := by
  unfold execStepBoundary
  exact (ResKeeps.next (State.settlePublications_keeps (State.boundary_keeps hk)))

theorem State.holdFirst_keeps {s : State} {w : Fin 2} {q : Nat} {es : List (Nat × Entry)} (hk : s.Keeps cs) :
    State.Keeps cs (s.holdFirst w q es) := by
  unfold State.holdFirst
  exact (Keeps.ite (State.writeRegion_keeps (State.setWing_keeps hk)) (State.setWing_keeps hk))

theorem State.placeOther_keeps {s : State} {step : Nat} {named : Nat → Bool} (hk : s.Keeps cs) :
    State.Keeps cs (s.placeOther step named) := by
  unfold State.placeOther
  exact (State.setWing_keeps (State.placeSlots_keeps hk))

theorem execBatchPart_keeps {w : Fin 2} {q : BitVec 11} {step : BitVec 64} {part : List (BitVec 15 × Entry)} {clear : List (BitVec 14)} {pages : List (BitVec 14 × List (BitVec 32))} {s : State} (hk : s.Keeps cs) :
    ResKeeps cs (execBatchPart w q step part clear pages s) := by
  unfold execBatchPart
  exact (ResKeeps.ite (ResKeeps.next (State.holdFirst_keeps hk)) (ResKeeps.ite (ResKeeps.next hk) (ResKeeps.next (State.tryReport_keeps (State.settleItem4_keeps (State.holdPart_keeps (Keeps.ite (State.placeOther_keeps hk) hk)))))))

theorem execMirrorAck_keeps {w : Fin 2} {s : State} (hk : s.Keeps cs) :
    ResKeeps cs (execMirrorAck w s) := by
  unfold execMirrorAck
  exact (ResKeeps.next (State.mirrorAck_keeps hk))

theorem execAckTimeout_keeps {w : Fin 2} {s : State} (hk : s.Keeps cs) :
    ResKeeps cs (execAckTimeout w s) := by
  unfold execAckTimeout
  exact (ResKeeps.next (Keeps.ite (State.stopHere_keeps hk) hk))

/-! ### Serving.lean -/

theorem State.takeIn_keeps {s : State} {vector : Nat} {n : Nat} {groups : List Nat} {a : SubmitArgs} (hk : s.Keeps cs) :
    State.Keeps cs (s.takeIn vector n groups a) := by
  unfold State.takeIn
  exact (State.writePageList_keeps (State.setSlotBoth_keeps (State.setWing_keeps hk)))

theorem State.serveSubmit_keeps {s : State} {vector : Nat} {tag : BitVec 64} {a : SubmitArgs} (hk : s.Keeps cs) :
    State.Keeps cs (s.serveSubmit vector tag a) := by
  unfold State.serveSubmit
  exact (by (try extract_lets); split; exact (Keeps.ite (State.cmdCompletion_keeps (State.setSlotBoth_keeps hk)) (State.cmdCompletion_keeps hk)); exact (by (try extract_lets); split; exact (State.cmdCompletion_keeps hk); exact (State.takeIn_keeps hk)))

theorem State.serveRepair_keeps {s : State} {vector : Nat} {tag : BitVec 64} {a : RepairArgs} (hk : s.Keeps cs) :
    State.Keeps cs (s.serveRepair vector tag a) := by
  unfold State.serveRepair
  exact (Keeps.ite (State.cmdCompletion_keeps hk) (Keeps.ite (State.cmdCompletion_keeps hk) (Keeps.ite (State.cmdCompletion_keeps hk) (Keeps.ite (State.cmdCompletion_keeps hk) (State.cmdCompletion_keeps (State.hbmStore_keeps hk))))))

theorem State.serve_keeps {s : State} {vector : Nat} {tag : BitVec 64} {x : RingCmd} (hk : s.Keeps cs) :
    State.Keeps cs (s.serve vector tag x) := by
  unfold State.serve
  exact (by (try extract_lets); split; exact (State.serveSubmit_keeps hk); exact (State.serveCancel_keeps hk); exact (State.servePublish_keeps hk); exact (State.serveRepair_keeps hk); exact (State.cmdCompletion_keeps hk))

theorem State.servePump_keeps {s : State} (hk : s.Keeps cs) :
    State.Keeps cs (s.servePump) := by
  unfold State.servePump
  exact (State.tryReport_keeps (State.settleRelease_keeps (State.pump_keeps hk)))

theorem State.takeEntries_keeps {l : List RingEntry} {s : State} (h : s.Keeps cs) : (State.takeEntries s l).Keeps cs := by
  induction l generalizing s with
  | nil => exact h
  | cons e r ih =>
    unfold State.takeEntries
    (try extract_lets)
    split
    · exact ih (State.serve_keeps (State.setFld_keeps h))
    · exact h

theorem State.writeHead_keeps {s : State} (hk : s.Keeps cs) :
    State.Keeps cs (s.writeHead) := by
  unfold State.writeHead
  exact (State.setHost_keeps hk)

theorem State.readCplHead_keeps {s : State} {head : Nat} (hk : s.Keeps cs) :
    State.Keeps cs (s.readCplHead head) := by
  unfold State.readCplHead
  exact (State.setHost_keeps hk)

theorem State.poll_keeps {s : State} {entries : List RingEntry} {cplHead : Nat} (hk : s.Keeps cs) :
    State.Keeps cs (s.poll entries cplHead) := by
  unfold State.poll
  exact (Keeps.ite hk (Keeps.ite (State.settlePublications_keeps (State.servePump_keeps (State.readCplHead_keeps hk))) (Keeps.ite (State.takeEntries_keeps (State.settlePublications_keeps (State.servePump_keeps (State.readCplHead_keeps hk)))) (State.writeHead_keeps (State.takeEntries_keeps (State.settlePublications_keeps (State.servePump_keeps (State.readCplHead_keeps hk))))))))

theorem State.ringCtl_keeps {s : State} {v : Word} (hk : s.Keeps cs) :
    State.Keeps cs (s.ringCtl v) := by
  unfold State.ringCtl
  exact (Keeps.ite (State.servePump_keeps (State.setFld_keeps (State.setHost_keeps (State.setFld_keeps (State.setFld_keeps (Keeps.ite (State.setFld_keeps (Keeps.ite hk (State.setFld_keeps (State.setFld_keeps hk)))) (Keeps.ite hk (State.setFld_keeps (State.setFld_keeps hk))))))))) (State.setFld_keeps (State.setFld_keeps (Keeps.ite (State.setFld_keeps (Keeps.ite hk (State.setFld_keeps (State.setFld_keeps hk)))) (Keeps.ite hk (State.setFld_keeps (State.setFld_keeps hk)))))))

theorem execSubmit_keeps {vector : BitVec 8} {tag : BitVec 64} {a : SubmitArgs} {s : State} (hk : s.Keeps cs) :
    ResKeeps cs (execSubmit vector tag a s) := by
  unfold execSubmit
  exact (ResKeeps.next (Keeps.ite hk (State.serveSubmit_keeps hk)))

theorem execCancel_keeps {vector : BitVec 8} {tag : BitVec 64} {reqId : BitVec 64} {late : Bool} {s : State} (hk : s.Keeps cs) :
    ResKeeps cs (execCancel vector tag reqId late s) := by
  unfold execCancel
  exact (ResKeeps.next (Keeps.ite hk (State.serveCancel_keeps hk)))

theorem execPublishTable_keeps {vector : BitVec 8} {tag : BitVec 64} {a : PublishArgs} {s : State} (hk : s.Keeps cs) :
    ResKeeps cs (execPublishTable vector tag a s) := by
  unfold execPublishTable
  exact (ResKeeps.next (Keeps.ite hk (State.servePublish_keeps hk)))

theorem execRepairReload_keeps {vector : BitVec 8} {tag : BitVec 64} {a : RepairArgs} {s : State} (hk : s.Keeps cs) :
    ResKeeps cs (execRepairReload vector tag a s) := by
  unfold execRepairReload
  exact (ResKeeps.next (Keeps.ite hk (State.serveRepair_keeps hk)))

theorem execCommandPoll_keeps {entries : List RingEntry} {cplHead : BitVec 32} {s : State} (hk : s.Keeps cs) :
    ResKeeps cs (execCommandPoll entries cplHead s) := by
  unfold execCommandPoll
  exact (ResKeeps.next (State.poll_keeps hk))

theorem execHeartbeat_keeps {s : State} (hk : s.Keeps cs) :
    ResKeeps cs (execHeartbeat s) := by
  unfold execHeartbeat
  exact (ResKeeps.ite (ResKeeps.next (State.setHost_keeps hk)) (ResKeeps.next hk))

theorem execCancelForward_keeps {w : Fin 2} {slot : BitVec 14} {s : State} (hk : s.Keeps cs) :
    ResKeeps cs (execCancelForward w slot s) := by
  unfold execCancelForward
  exact (ResKeeps.next (State.setCancelBit_keeps hk))

theorem execHandoff_keeps {a : HandoffArgs} {s : State} (hk : s.Keeps cs) :
    ResKeeps cs (execHandoff a s) := by
  unfold execHandoff
  exact (ResKeeps.next (State.takeHandoff_keeps hk))

theorem execHandoffReply_keeps {reqId : BitVec 64} {status : BitVec 8} {chip : BitVec 16} {slot : BitVec 14} {groups : List (BitVec 32)} {s : State} (hk : s.Keeps cs) :
    ResKeeps cs (execHandoffReply reqId status chip slot groups s) := by
  unfold execHandoffReply
  exact (ResKeeps.next (State.handoffReplied_keeps hk))

theorem execShipDone_keeps {slot : BitVec 14} {cancelled : Bool} {s : State} (hk : s.Keeps cs) :
    ResKeeps cs (execShipDone slot cancelled s) := by
  unfold execShipDone
  exact (ResKeeps.next (State.shipDone_keeps hk))

theorem State.exportBlock_keeps {s : State} {w : Fin 2} {v : Word} (hk : s.Keeps cs) :
    State.Keeps cs (s.exportBlock w v) := by
  unfold State.exportBlock
  exact (Keeps.ite (State.boundary_keeps (State.setFld_keeps (State.setFld_keeps hk))) (State.tryReport_keeps (State.setFld_keeps hk)))

theorem execAuLedgerExport_keeps {w : Fin 2} {value : BitVec 64} {s : State} (hk : s.Keeps cs) :
    ResKeeps cs (execAuLedgerExport w value s) := by
  unfold execAuLedgerExport
  exact (ResKeeps.next (State.whenUp_keeps hk (State.exportBlock_keeps hk)))

theorem execEventDrop_keeps {s : State} (hk : s.Keeps cs) :
    ResKeeps cs (execEventDrop s) := by
  unfold execEventDrop
  exact (by (try extract_lets); split; exact (ResKeeps.next (State.addFld_keeps (State.setHost_keeps hk))); exact (ResKeeps.next hk))

theorem execMsixCoalesceTimer_keeps {v : BitVec 6} {s : State} (hk : s.Keeps cs) :
    ResKeeps cs (execMsixCoalesceTimer v s) := by
  unfold execMsixCoalesceTimer
  exact (ResKeeps.ite (ResKeeps.next (State.setHost_keeps hk)) (ResKeeps.next hk))

theorem execMsixUnmask_keeps {v : BitVec 6} {s : State} (hk : s.Keeps cs) :
    ResKeeps cs (execMsixUnmask v s) := by
  unfold execMsixUnmask
  exact (ResKeeps.next (State.setHost_keeps hk))

theorem execRingEnable_keeps {value : BitVec 64} {s : State} (hk : s.Keeps cs) :
    ResKeeps cs (execRingEnable value s) := by
  unfold execRingEnable
  exact (ResKeeps.next (State.whenUp_keeps hk (State.ringCtl_keeps hk)))

theorem execPubArm_keeps {w : Fin 2} {set : BitVec 3} {tie : Bool} {s : State} (hk : s.Keeps cs) :
    ResKeeps cs (execPubArm w set tie s) := by
  unfold execPubArm
  exact (ResKeeps.next (State.whenUp_keeps hk (State.pubArm_keeps (State.countTdc_keeps hk))))

theorem execPubCancel_keeps {w : Fin 2} {set : BitVec 3} {tie : Bool} {s : State} (hk : s.Keeps cs) :
    ResKeeps cs (execPubCancel w set tie s) := by
  unfold execPubCancel
  exact (ResKeeps.next (State.whenUp_keeps hk (State.pubCancel_keeps (State.countTdc_keeps hk))))

end Sys2Proof.Machine
end

