-- ==== Sys2Proof/Laws/KeepsModule.lean ====
section
/-!
SUPPORT. Keeps (Laws/Keeps.lean) for the cocoon, power, sideband, host port, loader and board.
-/
namespace Sys2Proof.Machine

variable {cs : List Instr}

/-! ### Cocoon.lean -/

theorem State.draw_keeps {s : State} (hk : s.Keeps cs) :
    SndKeeps cs (s.draw) := by
  unfold State.draw
  exact (State.setCocoon_keeps hk)

theorem State.mbReply_keeps {s : State} {st : Nat} {data : optParam (List Byte) []} (hk : s.Keeps cs) :
    State.Keeps cs (s.mbReply st data) := by
  unfold State.mbReply
  exact (State.signal_keeps (State.setFld_keeps (State.setFld_keeps (State.setFld_keeps (State.setFld_keeps (State.setCocoon_keeps hk))))))

theorem State.mailbox_keeps {s : State} {r : Bool} {k : State → State} (hk : ∀ s, s.Keeps cs → (k s).Keeps cs)
    (h : s.Keeps cs) : (s.mailbox r k).Keeps cs :=
  Keeps.ite h (Keeps.ite (State.mbReply_keeps h) (hk s h))

theorem State.signedRequest_keeps {s : State} {g : Signed} {b : Bool} {k : State → State}
    (hk : ∀ s, s.Keeps cs → (k s).Keeps cs) (h : s.Keeps cs) : (s.signedRequest g b k).Keeps cs :=
  State.mailbox_keeps (fun _ h1 => Keeps.ite (State.mbReply_keeps (State.setCocoon_keeps h1))
    (Keeps.ite (hk _ (State.setCocoon_keeps h1)) (State.mbReply_keeps (State.setCocoon_keeps h1)))) h

theorem State.setInstarFld_keeps {s : State} {f : Fld} {v : Nat} (hk : s.Keeps cs) :
    State.Keeps cs (s.setInstarFld f v) := by
  unfold State.setInstarFld
  exact (State.setFld_keeps (State.setFld_keeps hk))

theorem State.putInstar_keeps {s : State} {owner : Instar} {module : Instar} (hk : s.Keeps cs) :
    State.Keeps cs (s.putInstar owner module) := by
  unfold State.putInstar
  exact (State.setInstarFld_keeps (State.setCocoon_keeps hk))

theorem State.moduleWrite_keeps {s : State} (hk : s.Keeps cs) :
    State.Keeps cs (s.moduleWrite) := by
  unfold State.moduleWrite
  exact (by (try extract_lets); split; exact (State.putInstar_keeps hk); exact hk)

theorem State.selectInstar_keeps {s : State} {atReset : Bool} (hk : s.Keeps cs) :
    State.Keeps cs (s.selectInstar atReset) := by
  unfold State.selectInstar
  exact (Keeps.ite (State.setFld_keeps (State.setInstarFld_keeps (State.setCocoon_keeps (State.setInstarFld_keeps (State.setInstarFld_keeps (State.setInstarFld_keeps (State.setInstarFld_keeps (State.setInstarFld_keeps hk)))))))) (State.setCocoon_keeps (State.setInstarFld_keeps (State.setInstarFld_keeps (State.setInstarFld_keeps (State.setInstarFld_keeps (State.setInstarFld_keeps hk)))))))

theorem State.applyOwner_keeps {s : State} {i : Instar} (hk : s.Keeps cs) :
    State.Keeps cs (s.applyOwner i) := by
  unfold State.applyOwner
  exact (Keeps.foldl (fun _ _ h1 => (by (try extract_lets); split; exact (Keeps.ite h1 (State.setReg_keeps h1)); exact h1)) hk)

theorem State.loadCodes_keeps {s : State} {i : Instar} (hk : s.Keeps cs) :
    State.Keeps cs (s.loadCodes i) := by
  unfold State.loadCodes
  exact (Keeps.foldl (fun _ _ h1 => (State.setFld_keeps h1)) hk)

theorem State.limited_keeps {s : State} {kind slot old new : Nat} {k : State → State}
    (hk : ∀ s, s.Keeps cs → (k s).Keeps cs) (h : s.Keeps cs) : (s.limited kind slot old new k).Keeps cs :=
  Keeps.ite (State.mbReply_keeps h)
    (State.mbReply_keeps (State.moduleWrite_keeps (hk _ (State.setFld_keeps (State.setCocoon_keeps h)))))

theorem State.writeSlot_keeps {s : State} {k : Nat} {h : BitVec 384} (hk : s.Keeps cs) :
    State.Keeps cs (s.writeSlot k h) := by
  unfold State.writeSlot
  exact (State.setFld_keeps (State.setCocoon_keeps hk))

theorem State.setBank_keeps {s : State} {b : Nat} {c : Option Chrysalis} (hk : s.Keeps cs) :
    State.Keeps cs (s.setBank b c) := by
  unfold State.setBank
  exact (State.setCocoon_keeps hk)

theorem State.updateBank_keeps {s : State} {c : Chrysalis} (hk : s.Keeps cs) :
    FstKeeps cs (s.updateBank c) := by
  unfold State.updateBank
  exact (FstKeeps.ite (State.setBank_keeps hk) (State.setBank_keeps hk))

theorem execGetInfo_keeps {s : State} (hk : s.Keeps cs) :
    ResKeeps cs (execGetInfo s) := by
  unfold execGetInfo
  exact (ResKeeps.next (State.mailbox_keeps (fun _ h1 => (State.mbReply_keeps h1)) hk))

theorem execReadOtpLog_keeps {s : State} (hk : s.Keeps cs) :
    ResKeeps cs (execReadOtpLog s) := by
  unfold execReadOtpLog
  exact (ResKeeps.next (State.mailbox_keeps (fun _ h1 => (State.mbReply_keeps h1)) hk))

theorem State.newNonce_keeps {s : State} (hk : s.Keeps cs) :
    State.Keeps cs (s.newNonce) := by
  unfold State.newNonce
  exact (Keeps.ite (State.mbReply_keeps hk) (State.mbReply_keeps (State.setCocoon_keeps (State.draw_keeps hk))))

theorem execGetNonce_keeps {s : State} (hk : s.Keeps cs) :
    ResKeeps cs (execGetNonce s) := by
  unfold execGetNonce
  exact (ResKeeps.next (State.mailbox_keeps (fun _ h1 => (State.newNonce_keeps h1)) hk))

theorem execNonceLapse_keeps {s : State} (hk : s.Keeps cs) :
    ResKeeps cs (execNonceLapse s) := by
  unfold execNonceLapse
  exact (ResKeeps.next (State.setCocoon_keeps hk))

theorem State.ledgerCert_keeps {s : State} {k : Nat} (hk : s.Keeps cs) :
    State.Keeps cs (s.ledgerCert k) := by
  unfold State.ledgerCert
  exact (Keeps.ite (State.mbReply_keeps hk) (Keeps.ite (State.mbReply_keeps hk) (State.mbReply_keeps (State.draw_keeps hk))))

theorem execLedgerCert_keeps {slot : BitVec 8} {s : State} (hk : s.Keeps cs) :
    ResKeeps cs (execLedgerCert slot s) := by
  unfold execLedgerCert
  exact (ResKeeps.next (State.mailbox_keeps (fun _ h1 => (State.ledgerCert_keeps h1)) hk))

theorem execOwnerClaim_keeps {slot : BitVec 8} {keyHash : BitVec 384} {s : State} (hk : s.Keeps cs) :
    ResKeeps cs (execOwnerClaim slot keyHash s) := by
  unfold execOwnerClaim
  exact (ResKeeps.next (State.mailbox_keeps (fun _ h1 => (Keeps.ite (State.mbReply_keeps h1) (State.limited_keeps (fun _ h2 => (State.writeSlot_keeps h2)) h1))) hk))

theorem execOwnerAdd_keeps {sg : Signed} {slot : BitVec 8} {keyHash : BitVec 384} {s : State} (hk : s.Keeps cs) :
    ResKeeps cs (execOwnerAdd sg slot keyHash s) := by
  unfold execOwnerAdd
  exact (ResKeeps.next (State.signedRequest_keeps (fun _ h1 => (Keeps.ite (State.mbReply_keeps h1) (State.limited_keeps (fun _ h2 => (State.writeSlot_keeps h2)) h1))) hk))

theorem execOwnerRevoke_keeps {sg : Signed} {slot : BitVec 8} {s : State} (hk : s.Keeps cs) :
    ResKeeps cs (execOwnerRevoke sg slot s) := by
  unfold execOwnerRevoke
  exact (ResKeeps.next (State.signedRequest_keeps (fun _ h1 => (Keeps.ite (State.mbReply_keeps h1) (State.limited_keeps (fun _ h2 => (State.setFld_keeps h2)) h1))) hk))

theorem execRollbackCommit_keeps {sg : Signed} {s : State} (hk : s.Keeps cs) :
    ResKeeps cs (execRollbackCommit sg s) := by
  unfold execRollbackCommit
  exact (ResKeeps.next (State.signedRequest_keeps (fun _ h1 => (Keeps.ite (State.mbReply_keeps h1) (State.limited_keeps (fun _ h2 => (State.setFld_keeps h2)) h1))) hk))

theorem execWsvnRaise_keeps {sg : Signed} {new : BitVec 32} {s : State} (hk : s.Keeps cs) :
    ResKeeps cs (execWsvnRaise sg new s) := by
  unfold execWsvnRaise
  exact (ResKeeps.next (State.signedRequest_keeps (fun _ h1 => (Keeps.ite (State.mbReply_keeps h1) (State.limited_keeps (fun _ h2 => (State.setFld_keeps h2)) h1))) hk))

theorem execDebugUnlock_keeps {sg : Signed} {s : State} (hk : s.Keeps cs) :
    ResKeeps cs (execDebugUnlock sg s) := by
  unfold execDebugUnlock
  exact (ResKeeps.next (State.signedRequest_keeps (fun _ h1 => (Keeps.ite (State.mbReply_keeps h1) (State.mbReply_keeps (State.setFld_keeps h1)))) hk))

theorem execDebugDisable_keeps {sg : Signed} {s : State} (hk : s.Keeps cs) :
    ResKeeps cs (execDebugDisable sg s) := by
  unfold execDebugDisable
  exact (ResKeeps.next (State.signedRequest_keeps (fun _ h1 => (Keeps.ite (State.mbReply_keeps h1) (State.limited_keeps (fun _ h2 => (State.setFld_keeps h2)) h1))) hk))

theorem State.ownerWrite_keeps {s : State} {part : Instar} (hk : s.Keeps cs) :
    State.Keeps cs (s.ownerWrite part) := by
  unfold State.ownerWrite
  exact (Keeps.ite (State.mbReply_keeps hk) (Keeps.ite (State.mbReply_keeps hk) (by (try extract_lets); split; exact (Keeps.ite (State.mbReply_keeps hk) (State.mbReply_keeps (State.putInstar_keeps hk))); exact (State.mbReply_keeps (State.putInstar_keeps hk)))))

theorem execInstarWrite_keeps {part : Instar} {s : State} (hk : s.Keeps cs) :
    ResKeeps cs (execInstarWrite part s) := by
  unfold execInstarWrite
  exact (ResKeeps.next (State.mailbox_keeps (fun _ h1 => (State.ownerWrite_keeps h1)) hk))

theorem State.chrysalisWrite_keeps {s : State} {off : Nat} {len : Nat} {img : Chrysalis} {final : Bool} (hk : s.Keeps cs) :
    State.Keeps cs (s.chrysalisWrite off len img final) := by
  unfold State.chrysalisWrite
  exact (Keeps.ite (State.mbReply_keeps hk) (Keeps.ite (State.mbReply_keeps (State.setBank_keeps hk)) (State.mbReply_keeps (State.updateBank_keeps hk))))

theorem execChrysalisWrite_keeps {off : BitVec 32} {len : BitVec 32} {img : Chrysalis} {final : Bool} {s : State} (hk : s.Keeps cs) :
    ResKeeps cs (execChrysalisWrite off len img final s) := by
  unfold execChrysalisWrite
  exact (ResKeeps.next (State.mailbox_keeps (fun _ h1 => (State.chrysalisWrite_keeps h1)) hk))

theorem execWeightKey_keeps {sg : Signed} {key : BitVec 256} {unwraps : Bool} {s : State} (hk : s.Keeps cs) :
    ResKeeps cs (execWeightKey sg key unwraps s) := by
  unfold execWeightKey
  exact (ResKeeps.next (State.signedRequest_keeps (fun _ h1 => (Keeps.ite (State.mbReply_keeps h1) (State.mbReply_keeps (State.setCocoon_keeps (State.draw_keeps h1))))) hk))

theorem State.installEdge_keeps {s : State} {w : Fin 2} {key : BitVec 256} (hk : s.Keeps cs) :
    State.Keeps cs (s.installEdge w key) := by
  unfold State.installEdge
  exact (State.setFld_keeps (State.setCocoon_keeps hk))

theorem execEdgeKey_keeps {sg : Signed} {w : Fin 2} {key : BitVec 256} {unwraps : Bool} {s : State} (hk : s.Keeps cs) :
    ResKeeps cs (execEdgeKey sg w key unwraps s) := by
  unfold execEdgeKey
  exact (ResKeeps.next (State.signedRequest_keeps (fun _ h1 => (Keeps.ite (State.mbReply_keeps h1) (State.mbReply_keeps (State.installEdge_keeps (State.draw_keeps h1))))) hk))

theorem State.zeroise_keeps {s : State} (hk : s.Keeps cs) :
    State.Keeps cs (s.zeroise) := by
  unfold State.zeroise
  exact (State.setFld_keeps (State.setCocoon_keeps hk))

theorem execZeroise_keeps {sg : Signed} {s : State} (hk : s.Keeps cs) :
    ResKeeps cs (execZeroise sg s) := by
  unfold execZeroise
  exact (ResKeeps.next (State.signedRequest_keeps (fun _ h1 => (Keeps.ite (State.mbReply_keeps h1) (State.mbReply_keeps (State.zeroise_keeps h1)))) hk))

theorem execEntropyHealthFail_keeps {s : State} (hk : s.Keeps cs) :
    ResKeeps cs (execEntropyHealthFail s) := by
  unfold execEntropyHealthFail
  exact (ResKeeps.next (State.setFld_keeps hk))

theorem State.signComplete_keeps {s : State} {w : Fin 2} {n : Nat} (hk : s.Keeps cs) :
    State.Keeps cs (s.signComplete w n) := by
  unfold State.signComplete
  exact (Keeps.ite hk (by (try extract_lets); split; exact (Keeps.ite (State.event_keeps (State.signOld_keeps (State.draw_keeps (State.setWing_keeps (State.setFld_keeps (State.setCocoon_keeps hk)))))) (State.event_keeps (State.setFld_keeps (State.setWing_keeps (State.setFld_keeps (State.setCocoon_keeps hk)))))); exact (by (try extract_lets); split; exact (State.setFld_keeps (State.setCocoon_keeps hk)); exact (Keeps.ite (State.event_keeps (State.setBlock_keeps (State.draw_keeps (State.setFld_keeps (State.setCocoon_keeps hk))))) (State.event_keeps (State.setFld_keeps (State.setFld_keeps (State.setCocoon_keeps hk))))))))

theorem execLedgerSignComplete_keeps {w : Fin 2} {block : BitVec 48} {s : State} (hk : s.Keeps cs) :
    ResKeeps cs (execLedgerSignComplete w block s) := by
  unfold execLedgerSignComplete
  exact (ResKeeps.next (State.signComplete_keeps hk))

theorem State.spdm_keeps {s : State} {data : List Byte} {sig : optParam (Option (BitVec 768)) none} (hk : s.Keeps cs) :
    State.Keeps cs (s.spdm data sig) := by
  unfold State.spdm
  exact (State.setHost_keeps hk)

theorem State.spdmSigned_keeps {s : State} {data : List Byte} {nonce : BitVec 256} (hk : s.Keeps cs) :
    State.Keeps cs (s.spdmSigned data nonce) := by
  unfold State.spdmSigned
  exact (Keeps.ite (State.spdm_keeps hk) (State.spdm_keeps (State.draw_keeps hk)))

theorem execGetVersion_keeps {s : State} (hk : s.Keeps cs) :
    ResKeeps cs (execGetVersion s) := by
  unfold execGetVersion
  exact (ResKeeps.ite (ResKeeps.next hk) (ResKeeps.next (State.spdm_keeps (State.setHost_keeps hk))))

theorem execGetCapabilities_keeps {s : State} (hk : s.Keeps cs) :
    ResKeeps cs (execGetCapabilities s) := by
  unfold execGetCapabilities
  exact (ResKeeps.ite (ResKeeps.next hk) (ResKeeps.next (State.spdm_keeps hk)))

theorem execNegotiateAlgorithms_keeps {p384 : Bool} {sha384 : Bool} {s : State} (hk : s.Keeps cs) :
    ResKeeps cs (execNegotiateAlgorithms p384 sha384 s) := by
  unfold execNegotiateAlgorithms
  exact (ResKeeps.ite (ResKeeps.next hk) (ResKeeps.next (State.spdm_keeps (State.setHost_keeps hk))))

theorem execGetDigests_keeps {s : State} (hk : s.Keeps cs) :
    ResKeeps cs (execGetDigests s) := by
  unfold execGetDigests
  exact (ResKeeps.ite (ResKeeps.next hk) (ResKeeps.next (State.spdm_keeps hk)))

theorem execGetCertificate_keeps {slot : BitVec 8} {s : State} (hk : s.Keeps cs) :
    ResKeeps cs (execGetCertificate slot s) := by
  unfold execGetCertificate
  exact (ResKeeps.ite (ResKeeps.next hk) (ResKeeps.next (State.spdm_keeps hk)))

theorem execChallenge_keeps {slot : BitVec 8} {nonce : BitVec 256} {s : State} (hk : s.Keeps cs) :
    ResKeeps cs (execChallenge slot nonce s) := by
  unfold execChallenge
  exact (ResKeeps.ite (ResKeeps.next hk) (ResKeeps.ite (ResKeeps.next (State.spdm_keeps hk)) (ResKeeps.next (State.spdmSigned_keeps hk))))

theorem execGetMeasurements_keeps {index : BitVec 8} {signed : Bool} {nonce : BitVec 256} {s : State} (hk : s.Keeps cs) :
    ResKeeps cs (execGetMeasurements index signed nonce s) := by
  unfold execGetMeasurements
  exact (ResKeeps.ite (ResKeeps.next hk) (ResKeeps.next (Keeps.ite (State.spdmSigned_keeps hk) (State.spdm_keeps hk))))

/-! ### Power.lean -/

theorem State.setCeil_keeps {s : State} {d : Nat} {v : Nat} (hk : s.Keeps cs) :
    State.Keeps cs (s.setCeil d v) := by
  unfold State.setCeil
  exact (State.setFld_keeps hk)

theorem State.showGranted_keeps {s : State} (hk : s.Keeps cs) :
    State.Keeps cs (s.showGranted) := by
  unfold State.showGranted
  exact (State.setFld_keeps hk)

theorem State.showPower_keeps {s : State} (hk : s.Keeps cs) :
    State.Keeps cs (s.showPower) := by
  unfold State.showPower
  exact (State.setFld_keeps (State.showGranted_keeps hk))

theorem State.setHbmCeilings_keeps {s : State} (hk : s.Keeps cs) :
    State.Keeps cs (s.setHbmCeilings) := by
  unfold State.setHbmCeilings
  exact (Keeps.foldl (fun _ _ h1 => (Keeps.ite (State.setCeil_keeps h1) h1)) hk)

theorem State.sendReductions_keeps {s : State} (hk : s.Keeps cs) :
    State.Keeps cs (s.sendReductions) := by
  unfold State.sendReductions
  exact (State.setFld_keeps (State.setPower_keeps hk))

theorem State.setBudget_keeps {s : State} {b : Nat} {h : Nat} (hk : s.Keeps cs) :
    State.Keeps cs (s.setBudget b h) := by
  unfold State.setBudget
  exact (Keeps.ite (State.showGranted_keeps (State.sendReductions_keeps (State.setHbmCeilings_keeps (State.setFld_keeps (State.setFld_keeps hk))))) (State.setFld_keeps hk))

theorem State.budgetWrite_keeps {s : State} {v : Word} (hk : s.Keeps cs) :
    State.Keeps cs (s.budgetWrite v) := by
  unfold State.budgetWrite
  exact (State.setBudget_keeps (Keeps.ite (State.setFld_keeps hk) hk))

theorem execPwBudgetWrite_keeps {value : BitVec 64} {s : State} (hk : s.Keeps cs) :
    ResKeeps cs (execPwBudgetWrite value s) := by
  unfold execPwBudgetWrite
  exact (ResKeeps.next (State.whenUp_keeps hk (State.budgetWrite_keeps hk)))

theorem State.applyReleases_keeps {s : State} (hk : s.Keeps cs) :
    State.Keeps cs (s.applyReleases) := by
  unfold State.applyReleases
  exact (State.setPower_keeps (Keeps.foldl (fun _ _ h1 => (State.setCeil_keeps h1)) hk))

theorem State.applyCuts_keeps {s : State} (hk : s.Keeps cs) :
    State.Keeps cs (s.applyCuts) := by
  unfold State.applyCuts
  exact (State.setFld_keeps (State.setPower_keeps (Keeps.foldl (fun _ _ h1 => (by (try extract_lets); split; exact (State.setCeil_keeps h1); exact h1)) hk)))

theorem State.serveRequest_keeps {s : State} {d : Nat} (hk : s.Keeps cs) :
    State.Keeps cs (s.serveRequest d) := by
  unfold State.serveRequest
  exact (Keeps.ite hk (Keeps.ite (State.addFld_keeps (State.setFld_keeps (State.setPower_keeps hk))) (State.setCeil_keeps (State.setPower_keeps hk))))

theorem State.epoch_keeps {s : State} (hk : s.Keeps cs) :
    State.Keeps cs (s.epoch) := by
  unfold State.epoch
  exact (State.showPower_keeps (Keeps.foldl (fun _ _ h1 => (State.serveRequest_keeps h1)) (State.applyCuts_keeps (State.applyReleases_keeps hk))))

theorem execArbiterEpoch_keeps {s : State} (hk : s.Keeps cs) :
    ResKeeps cs (execArbiterEpoch s) := by
  unfold execArbiterEpoch
  exact (ResKeeps.next (Keeps.ite (State.epoch_keeps hk) hk))

theorem execPowerRequest_keeps {dom : Fin 50} {watts : BitVec 11} {s : State} (hk : s.Keeps cs) :
    ResKeeps cs (execPowerRequest dom watts s) := by
  unfold execPowerRequest
  exact (ResKeeps.next (Keeps.ite (State.setPower_keeps hk) hk))

theorem execPowerRelease_keeps {dom : Fin 50} {peak100 : BitVec 11} {s : State} (hk : s.Keeps cs) :
    ResKeeps cs (execPowerRelease dom peak100 s) := by
  unfold execPowerRelease
  exact (ResKeeps.next (Keeps.ite (State.setPower_keeps hk) hk))

theorem execReductionAck_keeps {dom : Fin 50} {s : State} (hk : s.Keeps cs) :
    ResKeeps cs (execReductionAck dom s) := by
  unfold execReductionAck
  exact (ResKeeps.next (Keeps.ite (State.setPower_keeps hk) hk))

theorem State.setVolt_keeps {s : State} {d : Nat} {v : Nat} (hk : s.Keeps cs) :
    State.Keeps cs (s.setVolt d v) := by
  unfold State.setVolt
  exact (State.setFld_keeps hk)

theorem State.voltageControl_keeps {s : State} {d : Nat} {beats : List (BitVec 11)} {draws : List (BitVec 11)} (hk : s.Keeps cs) :
    State.Keeps cs (s.voltageControl d beats draws) := by
  unfold State.voltageControl
  exact (Keeps.ite hk (Keeps.ite (State.setFld_keeps (State.setVolt_keeps hk)) (Keeps.ite (State.setVolt_keeps hk) hk)))

theorem execBandVoltageControl_keeps {dom : Fin 50} {beats : List (BitVec 11)} {draws : List (BitVec 11)} {draw : BitVec 11} {s : State} (hk : s.Keeps cs) :
    ResKeeps cs (execBandVoltageControl dom beats draws draw s) := by
  unfold execBandVoltageControl
  exact (ResKeeps.next (State.setFld_keeps (State.voltageControl_keeps hk)))

theorem State.noteHeat_keeps {s : State} {d : Nat} {c : Nat} (hk : s.Keeps cs) :
    State.Keeps cs (s.noteHeat d c) := by
  unfold State.noteHeat
  exact (State.setPower_keeps hk)

theorem State.bandHot_keeps {s : State} {d : Nat} {c : Nat} (hk : s.Keeps cs) :
    State.Keeps cs (s.bandHot d c) := by
  unfold State.bandHot
  exact (Keeps.ite hk (Keeps.ite (State.noteHeat_keeps hk) (Keeps.ite (State.setVolt_keeps (State.setFld_keeps (State.noteHeat_keeps hk))) (State.setFld_keeps (State.noteHeat_keeps hk)))))

theorem execBandHot_keeps {dom : Fin 50} {celsius : BitVec 8} {s : State} (hk : s.Keeps cs) :
    ResKeeps cs (execBandHot dom celsius s) := by
  unfold execBandHot
  exact (ResKeeps.next (State.bandHot_keeps hk))

theorem State.clampStep_keeps {s : State} {d : Nat} {c : Nat} (hk : s.Keeps cs) :
    State.Keeps cs (s.clampStep d c) := by
  unfold State.clampStep
  exact (Keeps.ite hk (Keeps.ite (State.setFld_keeps (State.noteHeat_keeps hk)) (Keeps.ite (State.setVolt_keeps (State.noteHeat_keeps hk)) (State.setVolt_keeps (State.noteHeat_keeps hk)))))

theorem execThermalClampStep_keeps {dom : Fin 50} {celsius : BitVec 8} {s : State} (hk : s.Keeps cs) :
    ResKeeps cs (execThermalClampStep dom celsius s) := by
  unfold execThermalClampStep
  exact (ResKeeps.next (State.clampStep_keeps hk))

theorem State.closeTier_keeps {s : State} {u : Site} {i : Nat} (hk : s.Keeps cs) :
    State.Keeps cs (s.closeTier u i) := by
  unfold State.closeTier
  exact (Keeps.foldl (fun _ _ h1 => (Keeps.ite (State.windowClose_keeps h1) h1)) hk)

theorem State.setTierBit_keeps {s : State} {f : Fld} {t : Nat} {b : Bool} (hk : s.Keeps cs) :
    State.Keeps cs (s.setTierBit f t b) := by
  unfold State.setTierBit
  exact (State.setFld_keeps hk)

theorem State.tierDownRequest_keeps {s : State} {t : Fin 8} (hk : s.Keeps cs) :
    State.Keeps cs (s.tierDownRequest t) := by
  unfold State.tierDownRequest
  exact (Keeps.ite (State.setTierBit_keeps (State.setPower_keeps hk)) (Keeps.ite hk (Keeps.ite (State.setTierBit_keeps hk) (Keeps.foldl (fun _ _ h1 => (State.closeTier_keeps h1)) (State.setCeil_keeps (State.setTierBit_keeps (State.setTierBit_keeps hk)))))))

theorem execTierDown_keeps {t : Fin 8} {s : State} (hk : s.Keeps cs) :
    ResKeeps cs (execTierDown t s) := by
  unfold execTierDown
  exact (ResKeeps.next (State.tierDownRequest_keeps hk))

theorem execTierGateShut_keeps {t : Fin 8} {s : State} (hk : s.Keeps cs) :
    ResKeeps cs (execTierGateShut t s) := by
  unfold execTierGateShut
  exact (ResKeeps.next (Keeps.ite (State.setTierBit_keeps (State.setPower_keeps hk)) hk))

theorem State.tierOff_keeps {s : State} {t : Nat} (hk : s.Keeps cs) :
    State.Keeps cs (s.tierOff t) := by
  unfold State.tierOff
  exact (State.showPower_keeps (State.setTierBit_keeps (State.setFld_keeps (State.setVolt_keeps (State.setCeil_keeps (State.setPower_keeps hk))))))

theorem execTierPowerOff_keeps {t : Fin 8} {s : State} (hk : s.Keeps cs) :
    ResKeeps cs (execTierPowerOff t s) := by
  unfold execTierPowerOff
  exact (ResKeeps.next (Keeps.ite (State.tierOff_keeps hk) hk))

theorem State.tierUpRequest_keeps {s : State} {t : Nat} (hk : s.Keeps cs) :
    State.Keeps cs (s.tierUpRequest t) := by
  unfold State.tierUpRequest
  exact (Keeps.ite (State.setTierBit_keeps (State.setTierBit_keeps hk)) (Keeps.ite (Keeps.ite (State.sendReductions_keeps (State.setPower_keeps (State.setTierBit_keeps hk))) (State.setPower_keeps (State.setTierBit_keeps hk))) (State.setTierBit_keeps hk)))

theorem execTierUp_keeps {t : Fin 8} {s : State} (hk : s.Keeps cs) :
    ResKeeps cs (execTierUp t s) := by
  unfold execTierUp
  exact (ResKeeps.next (State.tierUpRequest_keeps hk))

theorem State.loseTier_keeps {s : State} {w : Fin 2} {i : Nat} (h : s.Keeps cs) : (s.loseTier w i).Keeps cs :=
  State.setTiles_keeps (State.setMem_keeps h (sparseWf_filter _ _ h.2.1)) (sparseWf_smap _ _ h.2.2.2)

theorem State.tierRise_keeps {s : State} {t : Fin 8} (hk : s.Keeps cs) :
    State.Keeps cs (s.tierRise t) := by
  unfold State.tierRise
  exact (State.showPower_keeps (State.loseTier_keeps (State.setVolt_keeps (State.setCeil_keeps (State.setFld_keeps (State.setTierBit_keeps (State.setPower_keeps hk)))))))

theorem execTierPowerUpDone_keeps {t : Fin 8} {s : State} (hk : s.Keeps cs) :
    ResKeeps cs (execTierPowerUpDone t s) := by
  unfold execTierPowerUpDone
  exact (ResKeeps.next (Keeps.ite (State.tierRise_keeps hk) hk))

theorem State.tierWrite_keeps {s : State} {v : Word} (hk : s.Keeps cs) :
    State.Keeps cs (s.tierWrite v) := by
  unfold State.tierWrite
  exact (Keeps.foldl (fun _ _ h1 => (Keeps.ite (State.tierDownRequest_keeps h1) (State.tierUpRequest_keeps h1))) hk)

theorem State.raiseCode_keeps {s : State} {w : Fin 2} {b : Nat} {code : Nat} (hk : s.Keeps cs) :
    State.Keeps cs (s.raiseCode w b code) := by
  unfold State.raiseCode
  exact (Keeps.ite (State.setFld_keeps (State.setFld_keeps hk)) (State.setFld_keeps hk))

theorem State.replanned_keeps {s : State} {w : Fin 2} {cause : Nat} (hk : s.Keeps cs) :
    State.Keeps cs (s.replanned w cause) := by
  unfold State.replanned
  exact (State.moduleWrite_keeps (State.setFld_keeps (State.addFld_keeps (Keeps.foldl (fun _ _ h1 => (State.setFld_keeps h1)) hk))))

theorem State.replan_keeps {s : State} {w : Fin 2} {cause : Nat} (hk : s.Keeps cs) :
    State.Keeps cs (s.replan w cause) := by
  unfold State.replan
  exact (State.replanned_keeps (Keeps.foldl (fun _ _ h1 => (State.raiseCode_keeps h1)) hk))

theorem State.setSlacks_keeps {s : State} {w : Fin 2} {slacks : List (BitVec 8)} (hk : s.Keeps cs) :
    State.Keeps cs (s.setSlacks w slacks) := by
  unfold State.setSlacks
  exact (Keeps.foldl (fun _ _ h1 => (State.setFld_keeps h1)) hk)

theorem State.replanLoad_keeps {s : State} {w : Fin 2} {slacks : List (BitVec 8)} (hk : s.Keeps cs) :
    State.Keeps cs (s.replanLoad w slacks) := by
  unfold State.replanLoad
  exact (State.replanned_keeps (Keeps.foldl (fun _ _ h1 => (State.raiseCode_keeps h1)) (State.setSlacks_keeps hk)))

theorem execWwReplan_keeps {w : Fin 2} {slacks : List (BitVec 8)} {s : State} (hk : s.Keeps cs) :
    ResKeeps cs (execWwReplan w slacks s) := by
  unfold execWwReplan
  exact (ResKeeps.next (State.replan_keeps (State.setSlacks_keeps hk)))

theorem execWwPeriodExpiry_keeps {w : Fin 2} {slacks : List (BitVec 8)} {s : State} (hk : s.Keeps cs) :
    ResKeeps cs (execWwPeriodExpiry w slacks s) := by
  unfold execWwPeriodExpiry
  exact (ResKeeps.next (Keeps.ite (State.replan_keeps (State.setSlacks_keeps hk)) hk))

theorem State.measure_keeps {s : State} {w : Fin 2} {b : Nat} {slack : Nat} {drift : Nat} {beat : Nat} (hk : s.Keeps cs) :
    State.Keeps cs (s.measure w b slack drift beat) := by
  unfold State.measure
  exact (Keeps.ite (State.replan_keeps (State.setFld_keeps (State.setFld_keeps (State.setFld_keeps hk)))) (State.setFld_keeps (State.setFld_keeps (State.setFld_keeps hk))))

theorem execWingwearMeasure_keeps {w : Fin 2} {band : Fin 12} {slack : BitVec 8} {drift : BitVec 8} {beatPs : BitVec 10} {s : State} (hk : s.Keeps cs) :
    ResKeeps cs (execWingwearMeasure w band slack drift beatPs s) := by
  unfold execWingwearMeasure
  exact (ResKeeps.next (State.measure_keeps hk))

theorem State.wwCtl_keeps {s : State} {w : Fin 2} {v : Word} (hk : s.Keeps cs) :
    State.Keeps cs (s.wwCtl w v) := by
  unfold State.wwCtl
  exact (Keeps.ite hk (Keeps.ite (State.replan_keeps (State.setFld_keeps (State.setFld_keeps (State.setFld_keeps hk)))) (State.setFld_keeps (State.setFld_keeps (State.setFld_keeps hk)))))

/-! ### Sideband.lean -/

theorem State.reply_keeps {s : State} {data : List Byte} (hk : s.Keeps cs) :
    State.Keeps cs (s.reply data) := by
  unfold State.reply
  exact (State.setHost_keeps hk)

theorem State.readReg_keeps {s : State} {w : Fin 2} {off : Nat} {n : Nat} {b : Block} {r : RegRow} (hk : s.Keeps cs) :
    State.Keeps cs (s.readReg w off n b r) := by
  unfold State.readReg
  exact (Keeps.ite (State.reply_keeps hk) (State.setHost_keeps hk))

theorem State.answerHeld_keeps {s : State} (hk : s.Keeps cs) :
    State.Keeps cs (s.answerHeld) := by
  unfold State.answerHeld
  exact (Keeps.ite hk (State.setHost_keeps hk))

theorem execFuseLoadComplete_keeps {s : State} (hk : s.Keeps cs) :
    ResKeeps cs (execFuseLoadComplete s) := by
  unfold execFuseLoadComplete
  exact (ResKeeps.next (State.answerHeld_keeps (State.setBoard_keeps hk)))

theorem execSetEndpointId_keeps {eid : BitVec 8} {s : State} (hk : s.Keeps cs) :
    ResKeeps cs (execSetEndpointId eid s) := by
  unfold execSetEndpointId
  exact (ResKeeps.next (Keeps.ite (State.setHost_keeps hk) hk))

theorem execGetSensorReading_keeps {id : BitVec 16} {measured : BitVec 16} {s : State} (hk : s.Keeps cs) :
    ResKeeps cs (execGetSensorReading id measured s) := by
  unfold execGetSensorReading
  exact (ResKeeps.ite (ResKeeps.next hk) (by (try extract_lets); split; exact (ResKeeps.next (State.reply_keeps hk)); exact (ResKeeps.next hk)))

theorem State.effecter_keeps {s : State} {watts : Nat} (hk : s.Keeps cs) :
    State.Keeps cs (s.effecter watts) := by
  unfold State.effecter
  exact (State.reply_keeps (State.setBudget_keeps hk))

theorem execSetNumericEffecterValue_keeps {id : BitVec 16} {watts : BitVec 16} {s : State} (hk : s.Keeps cs) :
    ResKeeps cs (execSetNumericEffecterValue id watts s) := by
  unfold execSetNumericEffecterValue
  exact (ResKeeps.next (Keeps.ite (State.effecter_keeps hk) hk))

theorem State.pldmUpdate_keeps {s : State} {c : Chrysalis} (hk : s.Keeps cs) :
    State.Keeps cs (s.pldmUpdate c) := by
  unfold State.pldmUpdate
  exact (State.reply_keeps (State.updateBank_keeps hk))

theorem execFirmwareUpdate_keeps {img : Chrysalis} {s : State} (hk : s.Keeps cs) :
    ResKeeps cs (execFirmwareUpdate img s) := by
  unfold execFirmwareUpdate
  exact (ResKeeps.next (Keeps.ite (State.pldmUpdate_keeps hk) hk))

theorem execFruRead_keeps {addr : BitVec 7} {off : BitVec 13} {len : Nat} {s : State} (hk : s.Keeps cs) :
    ResKeeps cs (execFruRead addr off len s) := by
  unfold execFruRead
  exact (ResKeeps.next (Keeps.ite (State.reply_keeps hk) hk))

theorem execFruWrite_keeps {addr : BitVec 7} {off : BitVec 13} {data : List Byte} {s : State} (hk : s.Keeps cs) :
    ResKeeps cs (execFruWrite addr off data s) := by
  unfold execFruWrite
  exact (ResKeeps.next (Keeps.ite (State.setHost_keeps hk) hk))

/-! ### HostPort.lean -/

theorem State.configRequest_keeps {s : State} {r : ConfigReq} (hk : s.Keeps cs) :
    State.Keeps cs (s.configRequest r) := by
  unfold State.configRequest
  exact (Keeps.ite (State.setHost_keeps hk) (State.setHost_keeps hk))

theorem execConfigRequest_keeps {r : ConfigReq} {s : State} (hk : s.Keeps cs) :
    ResKeeps cs (execConfigRequest r s) := by
  unfold execConfigRequest
  exact (ResKeeps.next (Keeps.ite hk (State.configRequest_keeps hk)))

theorem State.hostReset_keeps {s : State} (hk : s.Keeps cs) :
    State.Keeps cs (s.hostReset) := by
  unfold State.hostReset
  exact (State.setHost_keeps (Keeps.foldl (fun _ _ h1 => (State.setFld_keeps h1)) (State.setFld_keeps (State.setFld_keeps hk))))

theorem State.linkGone_keeps {s : State} (hk : s.Keeps cs) :
    State.Keeps cs (s.linkGone) := by
  unfold State.linkGone
  exact (State.setFld_keeps (State.setFld_keeps (State.setFld_keeps (State.setFld_keeps hk))))

theorem State.linkDown_keeps {s : State} (hk : s.Keeps cs) :
    State.Keeps cs (s.linkDown) := by
  unfold State.linkDown
  exact (State.addFld_keeps (State.linkGone_keeps (State.hostReset_keeps hk)))

theorem execFunctionLevelReset_keeps {s : State} (hk : s.Keeps cs) :
    ResKeeps cs (execFunctionLevelReset s) := by
  unfold execFunctionLevelReset
  exact (ResKeeps.next (State.hostReset_keeps hk))

theorem execHotReset_keeps {s : State} (hk : s.Keeps cs) :
    ResKeeps cs (execHotReset s) := by
  unfold execHotReset
  exact (ResKeeps.next (State.hostReset_keeps hk))

theorem execPcieLinkDown_keeps {s : State} (hk : s.Keeps cs) :
    ResKeeps cs (execPcieLinkDown s) := by
  unfold execPcieLinkDown
  exact (ResKeeps.next (State.linkDown_keeps hk))

theorem execD3hotEntry_keeps {s : State} (hk : s.Keeps cs) :
    ResKeeps cs (execD3hotEntry s) := by
  unfold execD3hotEntry
  exact (ResKeeps.next (State.hostReset_keeps hk))

theorem execPerstN_keeps {low : Bool} {s : State} (hk : s.Keeps cs) :
    ResKeeps cs (execPerstN low s) := by
  unfold execPerstN
  exact (ResKeeps.next (Keeps.ite (State.setHost_keeps (State.linkGone_keeps (State.hostReset_keeps hk))) (State.setHost_keeps hk)))

theorem State.linkUp_keeps {s : State} {speed : Nat} {width : Nat} {flit : Bool} (hk : s.Keeps cs) :
    State.Keeps cs (s.linkUp speed width flit) := by
  unfold State.linkUp
  exact (State.setFld_keeps (State.setFld_keeps (State.setFld_keeps (State.setFld_keeps hk))))

theorem execPcieLinkUp_keeps {speed : BitVec 4} {width : BitVec 6} {flit : Bool} {s : State} (hk : s.Keeps cs) :
    ResKeeps cs (execPcieLinkUp speed width flit s) := by
  unfold execPcieLinkUp
  exact (ResKeeps.next (Keeps.ite hk (State.linkUp_keeps hk)))

theorem State.countBad_keeps {s : State} {bar : Nat} {reason : Nat} (hk : s.Keeps cs) :
    State.Keeps cs (s.countBad bar reason) := by
  unfold State.countBad
  exact (State.setFld_keeps (State.setFld_keeps (State.addFld_keeps hk)))

theorem State.hostWriteWord_keeps {s : State} {w : Fin 2} {off : Nat} {n : Nat} {bs : List Byte} (hk : s.Keeps cs) :
    FstKeeps cs (s.hostWriteWord w off n bs) := by
  unfold State.hostWriteWord
  exact (FstKeeps.ite (State.dropAtDisabled_keeps hk) (FstKeeps.ite (State.setTile_keeps hk) (State.pumpTile_keeps (State.arriveWord_keeps hk))))

theorem State.hostReadWord_keeps {s : State} {w : Fin 2} {off : Nat} {n : Nat} {found : RowErr} (hk : s.Keeps cs) :
    FstKeeps cs (s.hostReadWord w off n found) := by
  unfold State.hostReadWord
  exact (FstKeeps.ite hk (by (try extract_lets); split; exact (State.eccStop_keeps (State.countCorrected_keeps hk)); exact (State.countCorrected_keeps hk)))

theorem State.hostFail_keeps {s : State} {off : Nat} {status : Nat} (hk : s.Keeps cs) :
    State.Keeps cs (s.hostFail off status) := by
  unfold State.hostFail
  exact (State.event_keeps hk)

theorem State.placeWrite_keeps {s : State} {w : Fin 2} {t : Nat} {data : List Byte} {outs : List HbmOut} (hk : s.Keeps cs) :
    FstKeeps cs (s.placeWrite w t data outs) := by
  by_cases h : t < 0x8000000000
  · rw [State.placeWrite, if_pos h]
    exact State.overPieces_keeps (fun _ _ _ _ h => State.hbmAccess_keeps h) hk
  · rw [State.placeWrite, if_neg h]
    exact State.overPieces_keeps (fun _ _ _ _ h => State.hostWriteWord_keeps h) hk

theorem State.bar2Write_keeps {s : State} {off : Nat} {data : List Byte} {outs : List HbmOut} (hk : s.Keeps cs) :
    State.Keeps cs (s.bar2Write off data outs) := by
  unfold State.bar2Write
  cases s.aperture off with
  | error r => exact State.hostFail_keeps (State.countBad_keeps hk)
  | ok x => exact Keeps.ite (State.placeWrite_keeps hk) (State.hostFail_keeps (State.placeWrite_keeps hk))

theorem State.answerRead_keeps {s : State} {off : Nat} {n : Nat} {status : Nat} {data : List Byte} (hk : s.Keeps cs) :
    State.Keeps cs (s.answerRead off n status data) := by
  unfold State.answerRead
  exact (Keeps.ite (State.reply_keeps hk) (Keeps.ite (State.hostFail_keeps (State.reply_keeps hk)) (State.hostFail_keeps (State.setHost_keeps hk))))

theorem State.placeRead_keeps {s : State} {w : Fin 2} {t n : Nat} {outs : List HbmOut} {found : RowErr} (hk : s.Keeps cs) :
    FstKeeps cs (s.placeRead w t n outs found) := by
  by_cases h : t < 0x8000000000
  · rw [State.placeRead, if_pos h]
    exact State.overPieces_keeps (fun _ _ _ _ h => State.hbmAccess_keeps h) hk
  · rw [State.placeRead, if_neg h]
    exact State.overPieces_keeps (fun _ _ _ _ h => State.hostReadWord_keeps h) hk

theorem State.bar2Read_keeps {s : State} {off n : Nat} {outs : List HbmOut} {found : RowErr} (hk : s.Keeps cs) :
    State.Keeps cs (s.bar2Read off n outs found) := by
  unfold State.bar2Read
  cases s.aperture off with
  | error r => exact State.answerRead_keeps (State.countBad_keeps hk)
  | ok x => exact State.answerRead_keeps (State.placeRead_keeps hk)

theorem State.countHostWrite_keeps {s : State} {off : Nat} {tie : Bool} (hk : s.Keeps cs) :
    State.Keeps cs (s.countHostWrite off tie) := by
  unfold State.countHostWrite
  exact (by (try extract_lets); split; exact (State.countTdc_keeps hk); exact hk)

theorem execBar2Write_keeps {off : BitVec 39} {data : List Byte} {outs : List HbmOut} {tie : Bool} {s : State} (hk : s.Keeps cs) :
    ResKeeps cs (execBar2Write off data outs tie s) := by
  unfold execBar2Write
  exact (ResKeeps.next (Keeps.ite (State.bar2Write_keeps (State.countHostWrite_keeps hk)) hk))

theorem execBar2Read_keeps {off : BitVec 39} {len : Nat} {outs : List HbmOut} {re : RowErr} {s : State} (hk : s.Keeps cs) :
    ResKeeps cs (execBar2Read off len outs re s) := by
  unfold execBar2Read
  exact (ResKeeps.next (Keeps.ite (State.bar2Read_keeps hk) hk))

/-! ### Loader.lean -/

theorem State.refuseLoad_keeps {s : State} {r : LoadRefusal} (hk : s.Keeps cs) :
    State.Keeps cs (s.refuseLoad r) := by
  unfold State.refuseLoad
  exact (Keeps.foldl (fun _ _ h1 => (State.setReg_keeps h1)) hk)

theorem State.endJob_keeps {s : State} {w : Fin 2} (hk : s.Keeps cs) :
    State.Keeps cs (s.endJob w) := by
  unfold State.endJob
  exact (Keeps.ite (State.closeBlocks_keeps (State.setFld_keeps hk)) (State.setJob_keeps (State.closeBlocks_keeps (State.setFld_keeps hk))))

theorem State.jobWrite_keeps {s : State} {w : Fin 2} {v : Word} (hk : s.Keeps cs) :
    State.Keeps cs (s.jobWrite w v) := by
  unfold State.jobWrite
  exact (Keeps.ite (State.fbJobWrite_keeps hk) (Keeps.ite (State.endJob_keeps (State.dropQueued_keeps (State.fbJobWrite_keeps hk))) (State.endJob_keeps (State.fbJobWrite_keeps hk))))

theorem execFbJobWrite_keeps {w : Fin 2} {value : BitVec 64} {s : State} (hk : s.Keeps cs) :
    ResKeeps cs (execFbJobWrite w value s) := by
  unfold execFbJobWrite
  exact (ResKeeps.next (State.whenUp_keeps hk (State.jobWrite_keeps hk)))

theorem State.clearFbBars_keeps {s : State} {w : Fin 2} (hk : s.Keeps cs) :
    State.Keeps cs (s.clearFbBars w) := by
  unfold State.clearFbBars
  exact (Keeps.foldl (fun _ _ h1 => (State.setReg_keeps h1)) hk)

theorem State.freshTiles_keeps {s : State} {b : Bool} (h : s.Keeps cs) : (s.freshTiles b).Keeps cs := by
  have h1 : (((s.setRegs (s.regs.filter (fun e => !freshTileReg e.1))).clearFbBars 0).clearFbBars 1).Keeps cs :=
    State.clearFbBars_keeps (State.clearFbBars_keeps (State.setRegs_keeps h (sparseWf_filter _ _ h.2.2.1)))
  unfold State.freshTiles
  split
  · exact State.setTiles_keeps h1 (sparseWf_smap _ _ h1.2.2.2)
  · exact State.setMem_keeps (State.setTiles_keeps h1 (sparseWf_nil _)) (sparseWf_filter _ _ h1.2.1)

theorem State.writeImage_keeps {s : State} {u : Site} {o : Nat} {v : Word} (hk : s.Keeps cs) :
    State.Keeps cs (s.writeImage u o v) := by
  unfold State.writeImage
  exact (Keeps.ite hk (Keeps.ite (State.tcWrite_keeps hk) (State.writeAccess_keeps hk)))

theorem State.writeTileImage_keeps {s : State} {i : TileImage} (hk : s.Keeps cs) :
    State.Keeps cs (s.writeTileImage i) := by
  unfold State.writeTileImage
  exact (Keeps.foldl (fun _ _ h1 => (State.windowOpen_keeps h1)) (Keeps.foldl (fun _ _ h2 => (State.writeImage_keeps h2)) (Keeps.foldl (fun _ _ h3 => (State.writeImage_keeps h3)) hk)))

theorem State.writeProgram_keeps {s : State} {i : TileImage} (hk : s.Keeps cs) :
    State.Keeps cs (s.writeProgram i) := by
  unfold State.writeProgram
  exact (State.setTfld_keeps (State.setTfld_keeps (Keeps.foldl (fun _ _ h1 => (State.fillRow_keeps h1)) hk)))

theorem State.engineChannels_keeps {s : State} {w : Fin 2} (hk : s.Keeps cs) :
    State.Keeps cs (s.engineChannels w) := by
  unfold State.engineChannels
  exact (State.setFld_keeps (State.setFld_keeps hk))

theorem State.writeFabric_keeps {s : State} {l : List (Fin 2 × BitVec 20 × BitVec 64)} (hk : s.Keeps cs) :
    State.Keeps cs (s.writeFabric l) := by
  unfold State.writeFabric
  exact (State.engineChannels_keeps (State.engineChannels_keeps (Keeps.foldl (fun _ _ h1 => (State.writeAccess_keeps h1)) hk)))

theorem State.fillRows_keeps {s : State} {u : Site} {row : Nat} {rows : List (List Byte)} (hk : s.Keeps cs) :
    State.Keeps cs (s.fillRows u row rows) := by
  unfold State.fillRows
  exact (Keeps.foldl (fun _ _ h1 => (State.fillRow_keeps h1)) hk)

theorem State.writeTable_keeps {s : State} {t : TableImage} {d0 : List Byte} {d1 : List Byte} (hk : s.Keeps cs) :
    State.Keeps cs (s.writeTable t d0 d1) := by
  unfold State.writeTable
  exact (State.fillRows_keeps (State.fillRows_keeps hk))

theorem State.raiseTiers_keeps {s : State} {tiles : List TileImage} (hk : s.Keeps cs) :
    State.Keeps cs (s.raiseTiers tiles) := by
  unfold State.raiseTiers
  exact (Keeps.foldl (fun _ _ h1 => (Keeps.ite (Keeps.ite (State.tierRise_keeps (State.tierUpRequest_keeps h1)) (State.tierUpRequest_keeps h1)) h1)) hk)

theorem State.startTile_keeps {s : State} {i : TileImage} (hk : s.Keeps cs) :
    State.Keeps cs (s.startTile i) := by
  unfold State.startTile
  exact (State.runWrite_keeps hk)

theorem State.setFirstStep_keeps {s : State} {tiles : List TileImage} {step : BitVec 64} (hk : s.Keeps cs) :
    State.Keeps cs (s.setFirstStep tiles step) := by
  unfold State.setFirstStep
  exact (Keeps.foldl (fun _ _ h1 => (State.setReg_keeps h1)) (State.flipSpans_keeps (State.flipSpans_keeps (State.setReg_keeps (State.setReg_keeps hk)))))

theorem State.setLoaded_keeps {s : State} (hk : s.Keeps cs) :
    State.Keeps cs (s.setLoaded) := by
  unfold State.setLoaded
  exact (Keeps.foldl (fun _ _ h1 => (State.fbJobWrite_keeps h1)) hk)

theorem State.replanBoth_keeps {s : State} {slacks : List (BitVec 8)} (hk : s.Keeps cs) :
    State.Keeps cs (s.replanBoth slacks) := by
  unfold State.replanBoth
  exact (State.replanLoad_keeps (State.replanLoad_keeps (by (try extract_lets); split; exact (State.loadCodes_keeps (State.selectInstar_keeps hk)); exact (State.selectInstar_keeps hk))))

theorem State.writeRegions_keeps {s : State} {i : Imago} (hk : s.Keeps cs) :
    State.Keeps cs (s.writeRegions i) := by
  unfold State.writeRegions
  exact (Keeps.foldl (fun _ _ h1 => (State.setReg_keeps h1)) (Keeps.foldl (fun _ _ h2 => (Keeps.foldl (fun _ _ h3 => (State.setReg_keeps h3)) h2)) hk))

theorem State.setProfile_keeps {s : State} {w : Fin 2} {p : Nat} (hk : s.Keeps cs) :
    State.Keeps cs (s.setProfile w p) := by
  unfold State.setProfile
  exact (State.setFld_keeps (State.setFld_keeps hk))

theorem State.writeServing_keeps {s : State} {i : Imago} {w : Fin 2} (hk : s.Keeps cs) :
    State.Keeps cs (s.writeServing i w) := by
  unfold State.writeServing
  exact (State.setFld_keeps (Keeps.foldl (fun _ _ h1 => (State.setFld_keeps h1)) (State.setReg_keeps (State.setReg_keeps (State.setReg_keeps (State.setReg_keeps (State.setReg_keeps (State.setFld_keeps (State.setReg_keeps (State.setReg_keeps hk))))))))))

theorem State.writeConfig_keeps {s : State} {i : Imago} {w : Fin 2} (hk : s.Keeps cs) :
    State.Keeps cs (s.writeConfig i w) := by
  unfold State.writeConfig
  exact (by (try extract_lets); split; exact (State.setFld_keeps (State.setFld_keeps (State.setFld_keeps (State.writeServing_keeps (State.setProfile_keeps (State.setFld_keeps hk)))))); exact (State.setFld_keeps (State.setFld_keeps (State.writeServing_keeps (State.setProfile_keeps (State.setFld_keeps hk))))))

theorem State.recordImages_keeps {s : State} {w : Fin 2} {l : List TableImage} (hk : s.Keeps cs) :
    State.Keeps cs (s.recordImages w l) := by
  unfold State.recordImages
  exact (Keeps.foldl (fun _ _ h1 => (by (try extract_lets); split; exact (State.recordTable_keeps h1); exact h1)) hk)

theorem State.writeEngineRegions_keeps {s : State} {w : Fin 2} {i : Imago} (hk : s.Keeps cs) :
    State.Keeps cs (s.writeEngineRegions w i) := by
  unfold State.writeEngineRegions
  exact (State.setWing_keeps (State.refreshSlots_keeps (State.writeRegion_keeps (State.recordImages_keeps (Keeps.foldl (fun _ _ h1 => (State.zeroRegion_keeps h1)) (State.writeRegion_keeps (State.zeroRegion_keeps (State.zeroRegion_keeps hk))))))))

theorem State.clearCancelMap_keeps {s : State} {w : Fin 2} (h : s.Keeps cs) : (s.clearCancelMap w).Keeps cs :=
  State.setRegs_keeps h (sparseWf_filter _ _ h.2.2.1)

theorem State.loadTables_keeps {s : State} {l : List TableImage} (hk : s.Keeps cs) :
    State.Keeps cs (s.loadTables l) := by
  unfold State.loadTables
  exact (Keeps.foldl (fun _ _ h1 => (State.writeTable_keeps (State.setTfld_keeps (State.setWing_keeps h1)))) hk)

theorem State.seenGens_keeps {s : State} {u : Site} (hk : s.Keeps cs) :
    State.Keeps cs (s.seenGens u) := by
  unfold State.seenGens
  exact (Keeps.foldl (fun _ _ h1 => (State.setReg_keeps h1)) hk)

theorem State.loadJob_keeps {s : State} {i : Imago} {slacks : List (BitVec 8)} (hk : s.Keeps cs) :
    State.Keeps cs (s.loadJob i slacks) := by
  unfold State.loadJob
  exact (Keeps.foldl (fun _ _ h1 => (State.startTile_keeps h1)) (State.setLoaded_keeps (Keeps.foldl (fun _ _ h2 => (State.seenGens_keeps h2)) (State.replanBoth_keeps (State.loadTables_keeps (Keeps.foldl (fun _ _ h3 => (State.writeProgram_keeps (State.writeTileImage_keeps h3))) (State.writeFabric_keeps (Keeps.foldl (fun _ _ h4 => (State.writeEngineRegions_keeps h4)) (Keeps.foldl (fun _ _ h5 => (State.writeRegion_keeps h5)) (State.setFirstStep_keeps (State.writeConfig_keeps (State.writeConfig_keeps (State.writeRegions_keeps (State.freshTiles_keeps (State.raiseTiers_keeps (Keeps.foldl (fun _ _ h6 => (State.clearCancelMap_keeps (State.setWing_keeps h6))) (State.clearRun_keeps (State.clearRun_keeps (State.setJob_keeps (State.endJob_keeps (State.endJob_keeps hk)))))))))))))))))))))

theorem State.load_keeps {s : State} {i : Imago} {slacks : List (BitVec 8)} (hk : s.Keeps cs) :
    State.Keeps cs (s.load i slacks) := by
  unfold State.load
  exact (Keeps.ite hk (Keeps.ite (State.refuseLoad_keeps hk) (by (try extract_lets); split; exact (State.refuseLoad_keeps hk); exact (State.loadJob_keeps hk))))

theorem execJobLoad_keeps {img : Imago} {slacks : List (BitVec 8)} {s : State} (hk : s.Keeps cs) :
    ResKeeps cs (execJobLoad img slacks s) := by
  unfold execJobLoad
  exact (ResKeeps.next (State.load_keeps hk))

theorem State.readSlots_keeps {s : State} {w : Fin 2} (hk : s.Keeps cs) :
    State.Keeps cs (s.readSlots w) := by
  unfold State.readSlots
  exact (State.refreshSlots_keeps (State.setWing_keeps hk))

theorem State.adoptSteps_keeps {s : State} {w : Fin 2} {mirrored : Nat} (hk : s.Keeps cs) :
    State.Keeps cs (s.adoptSteps w mirrored) := by
  unfold State.adoptSteps
  exact (State.setReg_keeps (State.setReg_keeps (State.setReg_keeps hk)))

theorem State.adoptBlock_keeps {s : State} {w : Fin 2} {mirrored : Nat} (hk : s.Keeps cs) :
    State.Keeps cs (s.adoptBlock w mirrored) := by
  unfold State.adoptBlock
  exact (Keeps.ite (State.closeBlock_keeps (State.setWing_keeps (State.setFld_keeps (State.setWing_keeps hk)))) (State.setWing_keeps (State.setFld_keeps (State.setWing_keeps hk))))

theorem State.adopt_keeps {s : State} {w : Fin 2} {mirrored : Nat} {hold : Bool} (hk : s.Keeps cs) :
    State.Keeps cs (s.adopt w mirrored hold) := by
  unfold State.adopt
  exact (State.setWing_keeps (State.adoptBlock_keeps (State.readSlots_keeps (State.adoptSteps_keeps hk))))

theorem State.writePlan_keeps {s : State} {p : RestartPlan} (hk : s.Keeps cs) :
    State.Keeps cs (s.writePlan p) := by
  unfold State.writePlan
  exact (Keeps.ite (Keeps.foldl (fun _ _ h1 => (State.setReg_keeps h1)) (Keeps.foldl (fun _ _ h2 => (State.applyVerdicts_keeps (State.setFld_keeps h2))) (Keeps.foldl (fun _ _ h3 => (State.setFld_keeps h3)) (Keeps.ite (State.setFld_keeps (State.setFld_keeps hk)) hk)))) (State.setFld_keeps (State.setFld_keeps (Keeps.foldl (fun _ _ h4 => (State.setReg_keeps h4)) (Keeps.foldl (fun _ _ h5 => (State.applyVerdicts_keeps (State.setFld_keeps h5))) (Keeps.foldl (fun _ _ h6 => (State.setFld_keeps h6)) (Keeps.ite (State.setFld_keeps (State.setFld_keeps hk)) hk)))))))

theorem State.restoreTable_keeps {s : State} {f : Nat} {t : TableImage} (hk : s.Keeps cs) :
    State.Keeps cs (s.restoreTable f t) := by
  unfold State.restoreTable
  exact (State.writeTable_keeps (State.setTfld_keeps hk))

theorem State.rearm_keeps {s : State} {w : Fin 2} {f : Nat} {t : TableImage} (hk : s.Keeps cs) :
    State.Keeps cs (s.rearm w f t) := by
  unfold State.rearm
  exact (by (try extract_lets); split; exact (State.armSet_keeps (State.setReg_keeps (State.setWing_keeps (State.setWing_keeps hk)))); exact (Keeps.ite (State.setFld_keeps (State.setWing_keeps hk)) (State.setWing_keeps hk)))

theorem State.restoreTables_keeps {s : State} {l : List TableImage} {f : Nat} (hk : s.Keeps cs) :
    State.Keeps cs (s.restoreTables l f) := by
  unfold State.restoreTables
  exact (Keeps.foldl (fun _ _ h1 => (State.swapPublications_keeps (Keeps.foldl (fun _ _ h2 => (by (try extract_lets); split; exact (State.rearm_keeps h2); exact h2)) h1))) (Keeps.foldl (fun _ _ h3 => (State.seenGens_keeps h3)) (Keeps.foldl (fun _ _ h4 => (State.restoreTable_keeps h4)) hk)))

theorem State.writeRestart_keeps {s : State} {p : RestartPlan} {w : Fin 2} (hk : s.Keeps cs) :
    State.Keeps cs (s.writeRestart p w) := by
  unfold State.writeRestart
  exact (State.setReg_keeps (State.setFld_keeps (State.setFld_keeps (State.setFld_keeps (State.addFld_keeps hk)))))

theorem State.resumeEngine_keeps {s : State} {w : Fin 2} {f : Nat} (hk : s.Keeps cs) :
    State.Keeps cs (s.resumeEngine w f) := by
  unfold State.resumeEngine
  exact (State.setWing_keeps hk)

theorem State.loseSlots_keeps {s : State} {l : List (BitVec 14)} (hk : s.Keeps cs) :
    State.Keeps cs (s.loseSlots l) := by
  unfold State.loseSlots
  exact (Keeps.foldl (fun _ _ h1 => (Keeps.ite h1 (State.setSlotBoth_keeps h1))) hk)

theorem State.reship_keeps {s : State} (hk : s.Keeps cs) :
    State.Keeps cs (s.reship) := by
  unfold State.reship
  exact (Keeps.foldl (fun _ _ h1 => (by (try extract_lets); split; exact (Keeps.ite h1 (Keeps.foldl (fun _ _ h3 => (State.shipPage_keeps h3)) h1)); exact h1)) hk)

theorem State.movePlan_keeps {s : State} {p : RestartPlan} {i : Imago} (hk : s.Keeps cs) :
    State.Keeps cs (s.movePlan p i) := by
  unfold State.movePlan
  exact (Keeps.ite (Keeps.foldl (fun _ _ h1 => (State.adopt_keeps h1)) (Keeps.foldl (fun _ _ h2 => (State.enginePut_keeps h2)) (Keeps.foldl (fun _ _ h3 => (State.enginePut_keeps h3)) (Keeps.ite (State.writeServing_keeps (State.writeServing_keeps (State.writeRegions_keeps (State.writePlan_keeps hk)))) (State.writePlan_keeps hk))))) (Keeps.foldl (fun _ _ h4 => (State.enginePut_keeps h4)) (Keeps.foldl (fun _ _ h5 => (State.enginePut_keeps h5)) (Keeps.ite (State.writeServing_keeps (State.writeServing_keeps (State.writeRegions_keeps (State.writePlan_keeps hk)))) (State.writePlan_keeps hk)))))

theorem State.restart_keeps {s : State} {p : RestartPlan} {i : Imago} (hk : s.Keeps cs) :
    State.Keeps cs (s.restart p i) := by
  unfold State.restart
  exact (State.event_keeps (Keeps.foldl (fun _ _ h1 => (State.startTile_keeps h1)) (State.reship_keeps (State.setLoaded_keeps (State.replanBoth_keeps (State.restoreTables_keeps (Keeps.foldl (fun _ _ h2 => (Keeps.ite (State.writeProgram_keeps (State.writeTileImage_keeps h2)) (State.writeTileImage_keeps h2))) (State.setFirstStep_keeps (State.writeFabric_keeps (State.freshTiles_keeps (State.raiseTiers_keeps (Keeps.foldl (fun _ _ h3 => (State.writeRestart_keeps h3)) (State.loseSlots_keeps (Keeps.foldl (fun _ _ h4 => (State.resumeEngine_keeps h4)) (State.movePlan_keeps (State.refusePublications_keeps (State.clearRun_keeps (State.clearRun_keeps (State.setJob_keeps hk)))))))))))))))))))

theorem State.loseJob_keeps {s : State} {st : Nat} (hk : s.Keeps cs) :
    State.Keeps cs (s.loseJob st) := by
  unfold State.loseJob
  exact (State.endJob_keeps (State.endJob_keeps (State.refreshSlots_keeps (State.refreshSlots_keeps (Keeps.foldl (fun _ _ h1 => (State.setWing_keeps h1)) (Keeps.foldl (fun _ _ h2 => (State.postCompletion_keeps h2)) hk))))))

theorem State.endRun_keeps {s : State} {w : Fin 2} (hk : s.Keeps cs) :
    State.Keeps cs (s.endRun w) := by
  unfold State.endRun
  exact (State.dropQueued_keeps (State.setFld_keeps (State.clearRun_keeps hk)))

theorem State.restartJob_keeps {s : State} {p : RestartPlan} (hk : s.Keeps cs) :
    State.Keeps cs (s.restartJob p) := by
  unfold State.restartJob
  exact (Keeps.ite (Keeps.ite (State.endRun_keeps (State.endRun_keeps hk)) hk) (by (try extract_lets); split; exact (State.loseJob_keeps (Keeps.ite (State.endRun_keeps (State.endRun_keeps hk)) hk)); exact (Keeps.ite (Keeps.ite (State.endRun_keeps (State.endRun_keeps hk)) hk) (by (try extract_lets); split; exact (Keeps.ite (State.restart_keeps (Keeps.ite (State.endRun_keeps (State.endRun_keeps hk)) hk)) (State.refuseLoad_keeps (Keeps.ite (State.endRun_keeps (State.endRun_keeps hk)) hk))); exact (Keeps.ite (State.endRun_keeps (State.endRun_keeps hk)) hk)))))

theorem execJobRestart_keeps {plan : RestartPlan} {s : State} (hk : s.Keeps cs) :
    ResKeeps cs (execJobRestart plan s) := by
  unfold execJobRestart
  exact (ResKeeps.next (State.restartJob_keeps hk))

/-! ### Board.lean -/

theorem State.coldReset_keeps {s : State} {c : Nat} (h : s.Keeps cs) : (s.coldReset c).Keeps cs :=
  ⟨h.1, sparseWf_nil _, sparseWf_filter _ _ h.2.2.1, sparseWf_nil _⟩

theorem State.stopForReset_keeps {s : State} (hk : s.Keeps cs) :
    State.Keeps cs (s.stopForReset) := by
  unfold State.stopForReset
  exact (Keeps.ite (State.stopHere_keeps (Keeps.ite (State.stopHere_keeps hk) hk)) (Keeps.ite (State.stopHere_keeps hk) hk))

theorem State.warmReset_keeps {s : State} (h : s.Keeps cs) : s.warmReset.Keeps cs := by
  have h1 : s.stopForReset.Keeps cs := State.stopForReset_keeps h
  have h2 : (if s.stopForReset.bit Reg.HI_LINK_STATUS.UP 0 then s.stopForReset.linkDown else s.stopForReset).Keeps cs :=
    Keeps.ite (State.linkDown_keeps h1) h1
  exact ⟨h2.1, sparseWf_filter _ _ h2.2.1, sparseWf_smap _ _ h2.2.2.1, sparseWf_nil _⟩

theorem State.changeBoard_keeps {s : State} {b : Board} {cause : Nat} (hk : s.Keeps cs) :
    State.Keeps cs (s.changeBoard b cause) := by
  unfold State.changeBoard
  exact (Keeps.ite (State.coldReset_keeps (State.setBoard_keeps hk)) (State.setBoard_keeps hk))

theorem State.powerDown_keeps {s : State} {latch : Nat} (hk : s.Keeps cs) :
    State.Keeps cs (s.powerDown latch) := by
  unfold State.powerDown
  exact (Keeps.ite hk (State.changeBoard_keeps hk))

theorem State.powerUp_keeps {s : State} (hk : s.Keeps cs) :
    State.Keeps cs (s.powerUp) := by
  unfold State.powerUp
  exact (State.coldReset_keeps (State.setBoard_keeps hk))

theorem execPwrEnRise_keeps {p54ok : Bool} {s : State} (hk : s.Keeps cs) :
    ResKeeps cs (execPwrEnRise p54ok s) := by
  unfold execPwrEnRise
  exact (ResKeeps.next (Keeps.ite (State.powerUp_keeps (State.setBoard_keeps hk)) (State.setBoard_keeps hk)))

theorem execPwrEnFall_keeps {low1s : Bool} {s : State} (hk : s.Keeps cs) :
    ResKeeps cs (execPwrEnFall low1s s) := by
  unfold execPwrEnFall
  exact (ResKeeps.next (State.setBoard_keeps (State.powerDown_keeps hk)))

theorem execUnderV_keeps {s : State} (hk : s.Keeps cs) :
    ResKeeps cs (execUnderV s) := by
  unfold execUnderV
  exact (ResKeeps.next (State.powerDown_keeps hk))

theorem execOverV_keeps {s : State} (hk : s.Keeps cs) :
    ResKeeps cs (execOverV s) := by
  unfold execOverV
  exact (ResKeeps.next (State.powerDown_keeps hk))

theorem execRegFault_keeps {s : State} (hk : s.Keeps cs) :
    ResKeeps cs (execRegFault s) := by
  unfold execRegFault
  exact (ResKeeps.next (State.powerDown_keeps hk))

theorem execThermal_keeps {s : State} (hk : s.Keeps cs) :
    ResKeeps cs (execThermal s) := by
  unfold execThermal
  exact (ResKeeps.next (State.powerDown_keeps hk))

theorem execModRstN_keeps {low : Bool} {s : State} (hk : s.Keeps cs) :
    ResKeeps cs (execModRstN low s) := by
  unfold execModRstN
  exact (ResKeeps.next (State.changeBoard_keeps hk))

theorem execSvcRstN_keeps {low : Bool} {s : State} (hk : s.Keeps cs) :
    ResKeeps cs (execSvcRstN low s) := by
  unfold execSvcRstN
  exact (ResKeeps.next (State.changeBoard_keeps hk))

theorem execModRefclkRange_keeps {inRange : Bool} {s : State} (hk : s.Keeps cs) :
    ResKeeps cs (execModRefclkRange inRange s) := by
  unfold execModRefclkRange
  exact (ResKeeps.next (State.changeBoard_keeps hk))

theorem execP3v3Aux_keeps {up : Bool} {s : State} (hk : s.Keeps cs) :
    ResKeeps cs (execP3v3Aux up s) := by
  unfold execP3v3Aux
  exact (ResKeeps.next (State.changeBoard_keeps (Keeps.ite hk (State.powerDown_keeps hk))))

theorem execAddrSelChange_keeps {sel : BitVec 2} {s : State} (hk : s.Keeps cs) :
    ResKeeps cs (execAddrSelChange sel s) := by
  unfold execAddrSelChange
  exact (ResKeeps.next (State.setBoard_keeps hk))

theorem execFlSelN_keeps {low : Bool} {s : State} (hk : s.Keeps cs) :
    ResKeeps cs (execFlSelN low s) := by
  unfold execFlSelN
  exact (ResKeeps.next (State.changeBoard_keeps hk))

theorem State.selfTests_keeps {s : State} {katOk : Bool} {entropyOk : Bool} (hk : s.Keeps cs) :
    State.Keeps cs (s.selfTests katOk entropyOk) := by
  unfold State.selfTests
  exact (Keeps.ite hk (State.setBoard_keeps (State.setFld_keeps (State.setFld_keeps hk))))

theorem State.settleLog_keeps {s : State} (hk : s.Keeps cs) :
    State.Keeps cs (s.settleLog) := by
  unfold State.settleLog
  exact (State.setCocoon_keeps hk)

theorem State.recordCause_keeps {s : State} (hk : s.Keeps cs) :
    State.Keeps cs (s.recordCause) := by
  unfold State.recordCause
  exact (State.setBoard_keeps (Keeps.ite (State.setFld_keeps (Keeps.ite (State.setFld_keeps hk) (State.setFld_keeps (State.setFld_keeps (State.setFld_keeps hk))))) (State.setFld_keeps (State.setFld_keeps (State.setFld_keeps (Keeps.ite (State.setFld_keeps hk) (State.setFld_keeps (State.setFld_keeps (State.setFld_keeps hk)))))))))

theorem State.startDomain_keeps {s : State} {d : Nat} (hk : s.Keeps cs) :
    State.Keeps cs (s.startDomain d) := by
  unfold State.startDomain
  exact (State.setVolt_keeps (State.setCeil_keeps (State.setFld_keeps hk)))

theorem State.startPower_keeps {s : State} (hk : s.Keeps cs) :
    State.Keeps cs (s.startPower) := by
  unfold State.startPower
  exact (State.showPower_keeps (State.setHbmCeilings_keeps (Keeps.foldl (fun _ _ h1 => (State.startDomain_keeps h1)) hk)))

theorem State.applyInstar_keeps {s : State} (hk : s.Keeps cs) :
    State.Keeps cs (s.applyInstar) := by
  unfold State.applyInstar
  exact (by (try extract_lets); split; exact (State.loadCodes_keeps (Keeps.ite (State.selectInstar_keeps hk) (State.applyOwner_keeps (State.selectInstar_keeps hk)))); exact (State.selectInstar_keeps hk))

theorem State.releaseHawks_keeps {s : State} {bank : Nat} (hk : s.Keeps cs) :
    State.Keeps cs (s.releaseHawks bank) := by
  unfold State.releaseHawks
  exact (State.answerHeld_keeps (State.startPower_keeps (State.setBoard_keeps (State.setHost_keeps (State.applyRoles_keeps (State.applyRoles_keeps (State.applyInstar_keeps (State.setCocoon_keeps (State.setFld_keeps (State.setFld_keeps hk))))))))))

theorem State.runBoot_keeps {s : State} {katOk : Bool} {entropyOk : Bool} (hk : s.Keeps cs) :
    State.Keeps cs (s.runBoot katOk entropyOk) := by
  unfold State.runBoot
  exact (Keeps.ite (State.setHost_keeps (State.settleLog_keeps (State.selfTests_keeps (State.recordCause_keeps (State.setBoard_keeps hk))))) (by (try extract_lets); split; exact (State.releaseHawks_keeps (State.setFld_keeps (State.setHost_keeps (State.settleLog_keeps (State.selfTests_keeps (State.recordCause_keeps (State.setBoard_keeps hk))))))); exact (State.setFld_keeps (State.setHost_keeps (State.settleLog_keeps (State.selfTests_keeps (State.recordCause_keeps (State.setBoard_keeps hk))))))))

theorem execBoot_keeps {katOk : Bool} {entropyOk : Bool} {s : State} (hk : s.Keeps cs) :
    ResKeeps cs (execBoot katOk entropyOk s) := by
  unfold execBoot
  exact (ResKeeps.next (Keeps.ite (State.runBoot_keeps hk) hk))

theorem execBridgeLinkHandshake_keeps {w : Fin 2} {row : Fin 24} {s : State} (hk : s.Keeps cs) :
    ResKeeps cs (execBridgeLinkHandshake w row s) := by
  unfold execBridgeLinkHandshake
  exact (ResKeeps.next (State.setFld_keeps hk))

theorem State.bridgeLost_keeps {s : State} {w : Fin 2} {row : Nat} (hk : s.Keeps cs) :
    State.Keeps cs (s.bridgeLost w row) := by
  unfold State.bridgeLost
  exact (State.stopHere_keeps (State.setFld_keeps hk))

theorem execBridgeLinkLost_keeps {w : Fin 2} {row : Fin 24} {s : State} (hk : s.Keeps cs) :
    ResKeeps cs (execBridgeLinkLost w row s) := by
  unfold execBridgeLinkLost
  exact (ResKeeps.next (State.bridgeLost_keeps hk))

end Sys2Proof.Machine
end

