-- ==== Sys2Proof/Laws/KeepsAccess.lean ====
section
/-!
SUPPORT. Keeps (Laws/Keeps.lean) for register accesses and the idle tick.
-/
namespace Sys2Proof.Machine

variable {cs : List Instr}

/-! ### Csr.lean -/

theorem State.jobStop_keeps {s : State} {w : Fin 2} {v : Word} (hk : s.Keeps cs) :
    State.Keeps cs (s.jobStop w v) := by
  unfold State.jobStop
  exact (Keeps.ite (State.stopHere_keeps hk) hk)

theorem execCfJobStop_keeps {w : Fin 2} {value : BitVec 64} {s : State} (hk : s.Keeps cs) :
    ResKeeps cs (execCfJobStop w value s) := by
  unfold execCfJobStop
  exact (ResKeeps.next (State.whenUp_keeps hk (State.jobStop_keeps hk)))

theorem State.resetWrite_keeps {s : State} {src : Src} {v : Word} (hk : s.Keeps cs) :
    State.Keeps cs (s.resetWrite src v) := by
  unfold State.resetWrite
  exact (Keeps.ite (State.warmReset_keeps hk) hk)

theorem execCfReset_keeps {_w : Fin 2} {src : Src} {value : BitVec 64} {s : State} (hk : s.Keeps cs) :
    ResKeeps cs (execCfReset _w src value s) := by
  unfold execCfReset
  exact (ResKeeps.next (State.whenUp_keeps hk (State.resetWrite_keeps hk)))

theorem State.clearBad_keeps {s : State} {v : Word} (hk : s.Keeps cs) :
    State.Keeps cs (s.clearBad v) := by
  unfold State.clearBad
  exact (Keeps.ite (State.setFld_keeps hk) hk)

theorem execBadAccessClear_keeps {value : BitVec 64} {s : State} (hk : s.Keeps cs) :
    ResKeeps cs (execBadAccessClear value s) := by
  unfold execBadAccessClear
  exact (ResKeeps.next (State.whenUp_keeps hk (State.clearBad_keeps hk)))

theorem State.doorbell_keeps {s : State} {v : Word} (hk : s.Keeps cs) :
    State.Keeps cs (s.doorbell v) := by
  unfold State.doorbell
  exact (Keeps.ite (State.setFld_keeps hk) (Keeps.ite hk (Keeps.ite (State.mbReply_keeps hk) (State.setFld_keeps hk))))

theorem State.writeTileReg_keeps {s : State} {u : Site} {src : Src} {o : Nat} {a : Nat} {v : Word} (hk : s.Keeps cs) :
    State.Keeps cs (s.writeTileReg u src o a v) := by
  unfold State.writeTileReg
  exact (Keeps.ite (State.tcAccess_keeps hk) (Keeps.ite hk (Keeps.ite (Keeps.ite (State.setTfld_keeps hk) hk) (State.writeAccess_keeps hk))))

theorem State.writeCf_keeps {s : State} {w : Fin 2} {src : Src} {o : Nat} {a : Nat} {v : Word} (hk : s.Keeps cs) :
    State.Keeps cs (s.writeCf w src o a v) := by
  unfold State.writeCf
  exact (Keeps.ite (Keeps.ite hk (State.setProfile_keeps hk)) (Keeps.ite (State.jobStop_keeps hk) (Keeps.ite (State.resetWrite_keeps hk) (State.writeAccess_keeps hk))))

theorem State.writeHi_keeps {s : State} {src : Src} {o : Nat} {a : Nat} {v : Word} (hk : s.Keeps cs) :
    State.Keeps cs (s.writeHi src o a v) := by
  unfold State.writeHi
  exact (Keeps.ite hk (Keeps.ite (State.clearBad_keeps hk) (Keeps.ite (Keeps.ite hk (State.writeAccess_keeps hk)) (Keeps.ite (State.ringCtl_keeps hk) (State.writeAccess_keeps hk)))))

theorem State.writePub_keeps {s : State} {w : Fin 2} {n : Nat} {o : Nat} {a : Nat} {v : Word} (hk : s.Keeps cs) :
    State.Keeps cs (s.writePub w n o a v) := by
  unfold State.writePub
  exact (Keeps.ite (State.pubCancel_keeps (Keeps.ite (State.pubArm_keeps (State.writeAccess_keeps hk)) (State.writeAccess_keeps hk))) (Keeps.ite (State.pubArm_keeps (State.writeAccess_keeps hk)) (State.writeAccess_keeps hk)))

theorem State.writeSv_keeps {s : State} {w : Fin 2} {o : Nat} {a : Nat} {v : Word} (hk : s.Keeps cs) :
    State.Keeps cs (s.writeSv w o a v) := by
  unfold State.writeSv
  exact (Keeps.ite (Keeps.ite hk (State.writeAccess_keeps hk)) (Keeps.ite (Keeps.ite (Keeps.ite hk (State.writeAccess_keeps hk)) (State.writePub_keeps hk)) (State.writeAccess_keeps hk)))

theorem State.writeAu_keeps {s : State} {w : Fin 2} {o : Nat} {a : Nat} {v : Word} (hk : s.Keeps cs) :
    State.Keeps cs (s.writeAu w o a v) := by
  unfold State.writeAu
  exact (Keeps.ite (Keeps.ite hk (State.writeAccess_keeps hk)) (Keeps.ite (State.exportBlock_keeps hk) (Keeps.ite (Keeps.ite (State.setFld_keeps (State.writeAccess_keeps hk)) (State.writeAccess_keeps hk)) (State.writeAccess_keeps hk))))

theorem State.writeTb_keeps {s : State} {w : Fin 2} {o : Nat} {a : Nat} {v : Word} (hk : s.Keeps cs) :
    State.Keeps cs (s.writeTb w o a v) := by
  unfold State.writeTb
  exact (Keeps.ite (Keeps.ite (State.writeAccess_keeps hk) hk) (Keeps.ite (Keeps.ite hk (State.writeAccess_keeps hk)) (Keeps.ite (State.stepDoneWrite_keeps hk) (State.writeAccess_keeps hk))))

theorem State.writePw_keeps {s : State} {w : Fin 2} {o : Nat} {a : Nat} {v : Word} (hk : s.Keeps cs) :
    State.Keeps cs (s.writePw w o a v) := by
  unfold State.writePw
  exact (Keeps.ite hk (Keeps.ite (State.budgetWrite_keeps hk) (Keeps.ite (State.tierWrite_keeps hk) (State.writeAccess_keeps hk))))

theorem State.writeWw_keeps {s : State} {w : Fin 2} {src : Src} {o : Nat} {a : Nat} {v : Word} (hk : s.Keeps cs) :
    State.Keeps cs (s.writeWw w src o a v) := by
  unfold State.writeWw
  exact (Keeps.ite (State.wwCtl_keeps hk) (Keeps.ite (Keeps.ite hk (State.writeAccess_keeps hk)) (State.writeAccess_keeps hk)))

theorem State.writeFb_keeps {s : State} {w : Fin 2} {o : Nat} {a : Nat} {v : Word} (hk : s.Keeps cs) :
    State.Keeps cs (s.writeFb w o a v) := by
  unfold State.writeFb
  exact (Keeps.ite hk (Keeps.ite (State.applyRoles_keeps (State.writeAccess_keeps hk)) (Keeps.ite (State.jobWrite_keeps hk) (Keeps.ite (State.applyVerdicts_keeps (State.writeAccess_keeps hk)) (Keeps.ite (State.matchPlans_keeps (State.writeAccess_keeps hk)) (Keeps.ite (State.routeCtl_keeps hk) (Keeps.ite (State.occCtl_keeps hk) (Keeps.ite (Keeps.ite hk (State.writeAccess_keeps hk)) (State.writeAccess_keeps hk)))))))))

theorem State.writeCm_keeps {s : State} {w : Fin 2} {o : Nat} {a : Nat} {v : Word} (hk : s.Keeps cs) :
    State.Keeps cs (s.writeCm w o a v) := by
  unfold State.writeCm
  exact (Keeps.ite (Keeps.ite hk (State.writeAccess_keeps hk)) (Keeps.ite (State.setCancelBit_keeps hk) (Keeps.ite (State.setCancelBit_keeps hk) (Keeps.ite (Keeps.ite hk (State.writeAccess_keeps hk)) (Keeps.ite (State.spanCtl_keeps hk) (Keeps.ite (Keeps.ite hk (State.writeAccess_keeps hk)) (State.writeAccess_keeps hk)))))))

theorem State.writeMb_keeps {s : State} {o : Nat} {a : Nat} {v : Word} (hk : s.Keeps cs) :
    State.Keeps cs (s.writeMb o a v) := by
  unfold State.writeMb
  exact (Keeps.ite (State.doorbell_keeps hk) (State.writeAccess_keeps hk))

theorem State.writeReg_keeps {s : State} {w : Fin 2} {src : Src} {off : Nat} {b : Block} {o : Nat} {v : Word} (hk : s.Keeps cs) :
    State.Keeps cs (s.writeReg w src off b o v) := by
  unfold State.writeReg
  exact (Keeps.ite hk (by (try extract_lets); split; exact (State.writeTileReg_keeps hk); exact (State.writeCf_keeps hk); exact (State.writeHi_keeps hk); exact (State.writeSv_keeps hk); exact (State.writeAu_keeps hk); exact (State.writeTb_keeps hk); exact (State.writeAccess_keeps hk); exact (State.writePw_keeps hk); exact (State.writeWw_keeps hk); exact (State.writeAccess_keeps hk); exact (State.writeFb_keeps hk); exact (State.writeCm_keeps hk); exact (State.writeMb_keeps hk)))

theorem State.badAccess_keeps {s : State} {src : Src} {bar : Nat} {reason : Nat} {isRead : Bool} {n : Nat} (hk : s.Keeps cs) :
    State.Keeps cs (s.badAccess src bar reason isRead n) := by
  unfold State.badAccess
  exact (Keeps.ite (State.reply_keeps (Keeps.ite (State.countBad_keeps hk) hk)) (Keeps.ite (State.countBad_keeps hk) hk))

theorem State.mailboxBuffer_keeps {s : State} {o : Nat} {n : Nat} {isRead : Bool} {v : Word} (hk : s.Keeps cs) :
    State.Keeps cs (s.mailboxBuffer o n isRead v) := by
  unfold State.mailboxBuffer
  exact (Keeps.ite (Keeps.ite (State.reply_keeps hk) (State.setCocoon_keeps hk)) (Keeps.ite (State.reply_keeps hk) hk))

theorem State.mailboxAccess_keeps {s : State} {src : Src} {off : Nat} {n : Nat} {isRead : Bool} {v : Word} (hk : s.Keeps cs) :
    State.Keeps cs (s.mailboxAccess src off n isRead v) := by
  unfold State.mailboxAccess
  exact (Keeps.ite (Keeps.ite (State.mailboxBuffer_keeps hk) (State.badAccess_keeps hk)) (by (try extract_lets); split; exact (Keeps.ite (State.reply_keeps hk) hk); exact (Keeps.ite (State.badAccess_keeps hk) (Keeps.ite (State.readReg_keeps hk) (Keeps.ite (Keeps.ite hk (State.writeReg_keeps hk)) (State.writeReg_keeps hk))))))

theorem State.access_keeps {s : State} {w : Fin 2} {src : Src} {off : Nat} {n : Nat} {isRead : Bool} {v : Word} (hk : s.Keeps cs) :
    State.Keeps cs (s.access w src off n isRead v) := by
  unfold State.access
  exact (Keeps.ite hk (Keeps.ite (State.mailboxAccess_keeps hk) (Keeps.ite (State.badAccess_keeps hk) (by (try extract_lets); split; exact (State.badAccess_keeps hk); exact (Keeps.ite (State.readReg_keeps hk) (Keeps.ite (State.badAccess_keeps hk) (State.writeReg_keeps hk)))))))

theorem execRegisterWrite_keeps {w : Fin 2} {src : Src} {off : BitVec 25} {bytes : Nat} {isRead : Bool} {value : BitVec 64} {s : State} (hk : s.Keeps cs) :
    ResKeeps cs (execRegisterWrite w src off bytes isRead value s) := by
  unfold execRegisterWrite
  exact (ResKeeps.next (Keeps.ite hk (State.access_keeps hk)))

theorem State.jtag_keeps {s : State} {write : Bool} {w : Fin 2} {off : Nat} {v : Word} (hk : s.Keeps cs) :
    State.Keeps cs (s.jtag write w off v) := by
  unfold State.jtag
  exact (Keeps.ite (State.access_keeps hk) hk)

theorem execJtagAccess_keeps {regAccess : Bool} {write : Bool} {w : Fin 2} {off : BitVec 25} {value : BitVec 64} {s : State} (hk : s.Keeps cs) :
    ResKeeps cs (execJtagAccess regAccess write w off value s) := by
  unfold execJtagAccess
  exact (ResKeeps.next (Keeps.ite (State.jtag_keeps hk) hk))

/-! ### Idle.lean -/

theorem State.tick_keeps {s : State} {w : Fin 2} (hk : s.Keeps cs) :
    State.Keeps cs (s.tick w) := by
  unfold State.tick
  exact (State.setReg_keeps (Keeps.ite hk (State.setWing_keeps hk)))

theorem idleTick_keeps {s : State} (hk : s.Keeps cs) :
    State.Keeps cs (idleTick s) := by
  unfold idleTick
  exact (State.whenUp_keeps hk (State.tryStepDone_keeps (State.tryStepDone_keeps (State.tick_keeps (State.tick_keeps hk)))))

end Sys2Proof.Machine
end

