-- ==== Sys2Proof/Laws/Stop.lean ====
section
/-!
SUPPORT. What the shared operations toward the host, the ports and a stopping wing leave unchanged, and what a stop does:
`TC_RUN.RUN` clears on the wing's tiles, and outside the job's own registers nothing of a tile changes.
-/
namespace Sys2Proof.Machine

variable {α : Type}

/-! ### Folds -/

/-- What holds at the start and is kept by each turn holds at the end. -/
theorem foldl_keeps {β : Type} (P : β → Prop) {f : β → α → β} {l : List α} {b : β} (h : P b)
    (hf : ∀ b a, P b → P (f b a)) : P (l.foldl f b) := by
  induction l generalizing b with
  | nil => exact h
  | cons a r ih => exact ih (hf _ _ h)

/-! ### Registers at reset -/

theorem not_lt_of_ble {x a b : Nat} (h : a ≤ x) (hb : Nat.ble b a = true) : ¬ x < b :=
  Nat.not_lt.mpr (Nat.le_trans (Nat.le_of_ble_eq_true hb) h)

theorem locate_tile {x : Nat} (h1 : 0x1000000 ≤ x) (h2 : x < 0x1800000) : locate x = some (.tile, x % 0x2000) := by
  unfold locate
  rw [if_neg (show ¬ x < 0x10000 from not_lt_of_ble h1 (by decide))]
  rw [if_neg (show ¬ x < 0x20000 from not_lt_of_ble h1 (by decide))]
  rw [if_neg (show ¬ x < 0x30000 from not_lt_of_ble h1 (by decide))]
  rw [if_neg (show ¬ x < 0x40000 from not_lt_of_ble h1 (by decide))]
  rw [if_neg (show ¬ x < 0x50000 from not_lt_of_ble h1 (by decide))]
  rw [if_neg (show ¬ x < 0x60000 from not_lt_of_ble h1 (by decide))]
  rw [if_neg (show ¬ x < 0x70000 from not_lt_of_ble h1 (by decide))]
  rw [if_neg (show ¬ x < 0x80000 from not_lt_of_ble h1 (by decide))]
  rw [if_neg (show ¬ x < 0x90000 from not_lt_of_ble h1 (by decide))]
  rw [if_neg (show ¬ x < 0x100000 from not_lt_of_ble h1 (by decide))]
  rw [if_neg (show ¬ x < 0x200000 from not_lt_of_ble h1 (by decide))]
  rw [if_neg (show ¬ x < 0x400000 from not_lt_of_ble h1 (by decide))]
  rw [if_neg (show ¬ x < 0x1000000 from not_lt_of_ble h1 (by decide))]
  rw [if_pos h2]

theorem locate_tileAddr (u : Site) {o : Nat} (ho : o < 0x2000) : locate (tileAddr u o % 0x2000000) = some (.tile, o) := by
  have h : u.tile.toNat < 1024 := u.tile.isLt
  have e : tileAddr u o % 0x2000000 = 0x1000000 + (0x2000 * u.tile.toNat + o) := by unfold tileAddr; omega
  have h2 : 0x2000 * u.tile.toNat + o < 0x800000 := by omega
  have h3 : (0x1000000 + (0x2000 * u.tile.toNat + o)) % 0x2000 = o := by omega
  rw [e, locate_tile (by omega) (by omega), h3]

/-- The reset value of a register whose block and offset are known. -/
def valueAt (x : Option (Block × Nat)) (k : Nat) : Word :=
  match x with
  | none => 0
  | some (b, o) =>
    match fusedReset k b o with
    | some v => v
    | none => match b.row? o with
      | none => 0
      | some r => r.cold

theorem resetVal_eq (a : Nat) : resetVal a = valueAt (locate (a % 0x2000000)) (a / 0x2000000) := rfl

theorem fusedReset_tile (k o : Nat) : fusedReset k .tile o = none := rfl

theorem valueAt_tile (o k : Nat) : valueAt (some (.tile, o)) k = ((Block.row? .tile o).map RegRow.cold).getD 0 := by
  unfold valueAt
  simp only [fusedReset_tile]
  generalize Block.row? .tile o = q
  cases q <;> rfl

/-- The reset value of a register of a tile's block. -/
theorem resetVal_tile {a o : Nat} (h : locate (a % 0x2000000) = some (.tile, o)) :
    resetVal a = ((Block.row? .tile o).map RegRow.cold).getD 0 := by
  rw [resetVal_eq, h, valueAt_tile]

theorem State.reg_reset (a : Nat) : State.reset.reg a = resetVal a := rfl

theorem cold_run : ((Block.row? .tile 8).map RegRow.cold).getD 0 = 0 := rfl
theorem cold_wait : ((Block.row? .tile 0x20).map RegRow.cold).getD 0 = 0 := rfl

theorem isTcRun_iff (w : Fin 2) (a : Nat) : isTcRun w a = true ↔
    a / 0x2000000 = w.val ∧ 0x1000000 ≤ a % 0x2000000 ∧ a % 0x2000000 < 0x1800000 ∧ a % 0x2000 = 8 := by
  unfold isTcRun
  simp only [Bool.and_eq_true, beq_iff_eq, decide_eq_true_eq, and_assoc]

theorem isTcWait_iff (w : Fin 2) (a : Nat) : isTcWait w a = true ↔
    a / 0x2000000 = w.val ∧ 0x1000000 ≤ a % 0x2000000 ∧ a % 0x2000000 < 0x1800000 ∧ a % 0x2000 = 0x20 := by
  unfold isTcWait
  simp only [Bool.and_eq_true, beq_iff_eq, decide_eq_true_eq, and_assoc]

theorem resetVal_tcRun {w : Fin 2} {a : Nat} (h : isTcRun w a = true) : resetVal a = 0 := by
  obtain ⟨_, h2, h3, h4⟩ := (isTcRun_iff w a).mp h
  have e : a % 0x2000000 % 0x2000 = 8 := by rw [Nat.mod_mod_of_dvd _ (by decide)]; exact h4
  rw [resetVal_tile (o := 8) (by rw [locate_tile h2 h3, e]), cold_run]

theorem resetVal_tcWait {w : Fin 2} {a : Nat} (h : isTcWait w a = true) : resetVal a = 0 := by
  obtain ⟨_, h2, h3, h4⟩ := (isTcWait_iff w a).mp h
  have e : a % 0x2000000 % 0x2000 = 0x20 := by rw [Nat.mod_mod_of_dvd _ (by decide)]; exact h4
  rw [resetVal_tile (o := 0x20) (by rw [locate_tile h2 h3, e]), cold_wait]

/-- The register of which tile, and which one, an address of a tile's block is. -/
theorem tileAddr_parts (w : Fin 2) (u : Site) {o : Nat} (ho : o < 0x2000) (k : Nat) :
    (tileAddr u o / 0x2000000 = w.val ∧ 0x1000000 ≤ tileAddr u o % 0x2000000 ∧ tileAddr u o % 0x2000000 < 0x1800000 ∧
      tileAddr u o % 0x2000 = k) ↔ u.wing = w ∧ o = k := by
  have h : u.tile.toNat < 1024 := u.tile.isLt
  have hw : u.wing.val < 2 := u.wing.isLt
  have e1 : tileAddr u o / 0x2000000 = u.wing.val := by unfold tileAddr; omega
  have e2 : tileAddr u o % 0x2000000 = 0x1000000 + (0x2000 * u.tile.toNat + o) := by unfold tileAddr; omega
  have e3 : tileAddr u o % 0x2000 = o := by unfold tileAddr; omega
  rw [e1, e2, e3]
  constructor
  · rintro ⟨a, _, _, b⟩; exact ⟨Fin.ext a, b⟩
  · rintro ⟨a, b⟩; exact ⟨congrArg Fin.val a, by omega, by omega, b⟩

/-- Which register of which tile is its `TC_RUN`, and which its `TC_WAIT_STATE`. -/
theorem isTcRun_tileAddr (w : Fin 2) (u : Site) {o : Nat} (ho : o < 0x2000) :
    isTcRun w (tileAddr u o) = true ↔ u.wing = w ∧ o = 8 :=
  (isTcRun_iff _ _).trans (tileAddr_parts w u ho 8)

theorem isTcWait_tileAddr (w : Fin 2) (u : Site) {o : Nat} (ho : o < 0x2000) :
    isTcWait w (tileAddr u o) = true ↔ u.wing = w ∧ o = 0x20 :=
  (isTcWait_iff _ _).trans (tileAddr_parts w u ho 0x20)

theorem regAddr_low (v : Fin 2) {b : Block} {o : Nat} (ho : b.base + o < 0x1000000) : regAddr v b o % 0x2000000 < 0x1000000 := by
  have hv : v.val < 2 := v.isLt
  have e2 : regAddr v b o % 0x2000000 = b.base + o := by unfold regAddr; omega
  omega

/-- A register outside the tile blocks is no `TC_RUN` and no `TC_WAIT_STATE`. -/
theorem isTcRun_regAddr (w v : Fin 2) {b : Block} {o : Nat} (ho : b.base + o < 0x1000000) : isTcRun w (regAddr v b o) = false := by
  have e := regAddr_low v ho
  cases h : isTcRun w (regAddr v b o) with
  | false => rfl
  | true => have := ((isTcRun_iff _ _).mp h).2.1; omega

theorem isTcWait_regAddr (w v : Fin 2) {b : Block} {o : Nat} (ho : b.base + o < 0x1000000) : isTcWait w (regAddr v b o) = false := by
  have e := regAddr_low v ho
  cases h : isTcWait w (regAddr v b o) with
  | false => rfl
  | true => have := ((isTcWait_iff _ _).mp h).2.1; omega

/-! ### A function applied to every listed value -/

theorem sget_smap [DecidableEq α] (d : Nat → α) (f : Nat → α → α) {l : Sparse α} (h : SparseWf d l)
    (hd : ∀ k, f k (d k) = d k) (k : Nat) : sget d (smap d f l) k = f k (sget d l k) := by
  obtain ⟨hp, hn⟩ := h
  induction l with
  | nil => exact (hd k).symm
  | cons e r ih =>
    obtain ⟨j, v⟩ := e
    have hr := ih (List.Pairwise.of_cons hp) (fun e he => hn e (List.mem_cons_of_mem _ he))
    have hj : ∀ e ∈ r, j < e.1 := fun e he => (List.pairwise_cons.mp hp).1 e he
    have none_j : ∀ l : Sparse α, (∀ e ∈ l, j < e.1) → sget d l j = d j := by
      intro l hl
      apply sget_of_any
      rw [List.any_eq_false]
      intro e he c
      have := hl e he
      have := beq_iff_eq.mp c
      omega
    have hm : ∀ e ∈ smap d f r, j < e.1 := by
      intro e he
      unfold smap at he
      obtain ⟨x, hx, rfl⟩ := List.mem_map.mp (List.mem_filter.mp he).1
      exact hj x hx
    have step : smap d f ((j, v) :: r) = if f j v ≠ d j then (j, f j v) :: smap d f r else smap d f r := by
      unfold smap
      rw [List.map_cons, List.filter_cons]
      simp only [decide_eq_true_eq]
    rw [step, sget_cons]
    by_cases hk : k = j
    · subst hk
      rw [if_pos rfl]
      split
      · rw [sget_cons, if_pos rfl]
      · rename_i hc
        rw [none_j _ hm]
        exact (Classical.not_not.mp hc).symm
    · rw [if_neg hk]
      split
      · rw [sget_cons, if_neg hk, hr]
      · exact hr

/-- R127, R599 step 1: `TC_RUN.RUN` clears on every tile of the wing and `TC_WAIT_STATE` is 0; every other register, and the
rest of `TC_RUN`, stays. -/
theorem State.reg_clearRun {s : State} (h : s.Canonical) (w : Fin 2) (a : Nat) :
    (s.clearRun w).reg a = if isTcRun w a then setBits (s.reg a) 0 1 0 else if isTcWait w a then 0 else s.reg a := by
  unfold State.clearRun State.reg State.setRegs
  refine sget_smap resetVal (fun a v => if isTcRun w a then setBits v 0 1 0 else if isTcWait w a then 0 else v) h.2.1 (fun k => ?_) a
  by_cases hk : isTcRun w k = true
  · rw [if_pos hk, resetVal_tcRun hk]; decide
  · rw [if_neg hk]
    by_cases hw : isTcWait w k = true
    · rw [if_pos hw, resetVal_tcWait hw]
    · rw [if_neg hw]

/-- A register outside the tile blocks is as before. -/
theorem State.reg_clearRun_of_low {s : State} (h : s.Canonical) (w v : Fin 2) {b : Block} {o : Nat} (ho : b.base + o < 0x1000000) :
    (s.clearRun w).reg (regAddr v b o) = s.reg (regAddr v b o) := by
  rw [State.reg_clearRun h, isTcRun_regAddr w v ho, isTcWait_regAddr w v ho, if_neg Bool.false_ne_true, if_neg Bool.false_ne_true]

@[simp] theorem State.clearRun_pending (s : State) (w : Fin 2) : (s.clearRun w).pending = s.pending := by
  unfold State.clearRun; simp
@[simp] theorem State.clearRun_mem (s : State) (w : Fin 2) : (s.clearRun w).mem = s.mem := by
  unfold State.clearRun; simp
@[simp] theorem State.clearRun_tiles (s : State) (w : Fin 2) : (s.clearRun w).tiles = s.tiles := by
  unfold State.clearRun; simp

/-! ### Operations that leave memory, tiles, queue and most registers -/

/-- Memory, tiles and queue are the same, and so is every register but those of a list. -/
def State.SameBut (l : List Nat) (s t : State) : Prop :=
  t.mem = s.mem ∧ t.tiles = s.tiles ∧ t.pending = s.pending ∧ ∀ a, a ∉ l → t.reg a = s.reg a

theorem State.SameBut.refl (l : List Nat) (s : State) : s.SameBut l s := ⟨rfl, rfl, rfl, fun _ _ => rfl⟩

theorem State.SameBut.trans {l : List Nat} {s t v : State} (h : s.SameBut l t) (g : t.SameBut l v) : s.SameBut l v :=
  ⟨g.1.trans h.1, g.2.1.trans h.2.1, g.2.2.1.trans h.2.2.1, fun a ha => (g.2.2.2 a ha).trans (h.2.2.2 a ha)⟩

theorem State.SameBut.mono {l m : List Nat} (hl : ∀ a ∈ l, a ∈ m) {s t : State} (h : s.SameBut l t) : s.SameBut m t :=
  ⟨h.1, h.2.1, h.2.2.1, fun a ha => h.2.2.2 a (fun c => ha (hl a c))⟩

theorem State.SameBut.tile {l : List Nat} {s t : State} (h : s.SameBut l t) (u : Site) : t.tile u = s.tile u := by
  unfold State.tile; rw [h.2.1]

theorem State.sameBut_setReg (s : State) (a : Nat) (v : Word) : s.SameBut [a] (s.setReg a v) :=
  ⟨by simp, by simp, by simp, fun b hb => State.reg_setReg_ne s (fun c => hb (List.mem_singleton.mpr c)) v⟩

theorem State.sameBut_setFld (s : State) (f : Fld) (w : Fin 2) (v i : Nat) : s.SameBut [f.at w i] (s.setFld f w v i) :=
  ⟨by simp, by simp, by simp, fun b hb => State.reg_setFld_ne s (fun c => hb (List.mem_singleton.mpr c)) v⟩

theorem State.sameBut_addFld (s : State) (f : Fld) (w : Fin 2) (v i : Nat) : s.SameBut [f.at w i] (s.addFld f w v i) :=
  ⟨by simp, by simp, by simp, fun b hb => State.reg_addFld_ne s (fun c => hb (List.mem_singleton.mpr c)) v⟩

theorem State.sameBut_setWing (s : State) (w : Fin 2) (x : Wing) : s.SameBut [] (s.setWing w x) :=
  ⟨by simp, by simp, by simp, fun b _ => by simp⟩

theorem State.sameBut_setHost (s : State) (x : HostPort) : s.SameBut [] (s.setHost x) :=
  ⟨by simp, by simp, by simp, fun b _ => by simp⟩

theorem State.sameBut_foldl {l : List Nat} {f : State → α → State} {xs : List α} (s : State)
    (hf : ∀ (s : State) (a : α), s.SameBut l (f s a)) : s.SameBut l (xs.foldl f s) :=
  foldl_keeps (fun t => s.SameBut l t) (.refl l s) (fun b a h => h.trans (hf b a))

theorem State.sameBut_sendControl (s : State) (w : Fin 2) (p : Nat) (c : Control) : s.SameBut [] (s.sendControl w p c) := by
  unfold State.sendControl State.pumpPort
  simp only
  split
  · exact (s.sameBut_setWing _ _).trans (State.sameBut_setWing _ _ _)
  · exact s.sameBut_setWing _ _

/-- The registers that completions and events change (R532, R531). -/
def hostRegs : List Nat := [Reg.HI_RING_STATUS.CPL_TAIL.at 0 0, Reg.HI_RING_CTL.CPL_FULL.at 0 0]

theorem State.sameBut_signal (s : State) (n : Nat) : s.SameBut [] (s.signal n) := by
  unfold State.signal
  simp only
  split
  · exact s.sameBut_setHost _
  · split <;> exact s.sameBut_setHost _

theorem State.sameBut_writeCompletion (s : State) (c : Completion) : s.SameBut hostRegs (s.writeCompletion c) := by
  unfold State.writeCompletion
  simp only
  refine (((s.sameBut_setHost _).mono (by simp)).trans ((State.sameBut_setFld _ _ _ _ _).mono ?_)).trans
    ((State.sameBut_signal _ _).mono (by simp))
  simp [hostRegs]

theorem State.sameBut_pumpN (n : Nat) (s : State) : s.SameBut hostRegs (State.pumpN n s) := by
  induction n generalizing s with
  | zero => exact .refl _ _
  | succ n ih =>
    unfold State.pumpN
    cases s.host.waiting with
    | nil => exact .refl _ _
    | cons c r =>
      simp only
      split
      · exact (((s.sameBut_setHost _).mono (by simp)).trans (State.sameBut_writeCompletion _ _)).trans (ih _)
      · exact .refl _ _

theorem State.sameBut_postCompletion (s : State) (c : Completion) : s.SameBut hostRegs (s.postCompletion c) := by
  unfold State.postCompletion State.pump
  exact (((s.sameBut_setHost _).mono (by simp)).trans (State.sameBut_pumpN _ _)).trans
    ((State.sameBut_setFld _ _ _ _ _).mono (by simp [hostRegs]))

theorem State.sameBut_event (s : State) (code status : Nat) (p : List Byte) : s.SameBut hostRegs (s.event code status p) :=
  State.sameBut_postCompletion _ _

/-! ### A stop (R599) -/

/-- The registers that a stop of a wing changes, apart from the `TC_RUN` of its tiles. -/
def stopRegs (w : Fin 2) : List Nat :=
  hostRegs ++ [Reg.FB_JOB.LOADED.at w 0, Reg.FB_DROP_COUNT.LATE.at w 0, Reg.FB_ORDER_STATUS.OPEN_MSGS.at w 0,
    Reg.CF_STOP_RECORD0.VALID.at w 0, Reg.CF_STOP_RECORD1.TIME.at w 0, Reg.CF_STOP_RECORD2.STEP.at w 0]

theorem State.sameBut_refreshOrder (s : State) (w : Fin 2) :
    s.SameBut [Reg.FB_ORDER_STATUS.OPEN_MSGS.at w 0] (s.refreshOrder w) := by
  have e1 : Reg.FB_ORDER_STATUS.REORDER_FLITS.at w 0 = Reg.FB_ORDER_STATUS.OPEN_MSGS.at w 0 := rfl
  have e2 : Reg.FB_ORDER_STATUS.HELD_FLAGS.at w 0 = Reg.FB_ORDER_STATUS.OPEN_MSGS.at w 0 := rfl
  have h1 : ∀ (s : State) (v : Nat), s.SameBut [Reg.FB_ORDER_STATUS.OPEN_MSGS.at w 0] (s.setFld Reg.FB_ORDER_STATUS.REORDER_FLITS w v) :=
    fun s v => e1 ▸ State.sameBut_setFld s Reg.FB_ORDER_STATUS.REORDER_FLITS w v 0
  have h2 : ∀ (s : State) (v : Nat), s.SameBut [Reg.FB_ORDER_STATUS.OPEN_MSGS.at w 0] (s.setFld Reg.FB_ORDER_STATUS.HELD_FLAGS w v) :=
    fun s v => e2 ▸ State.sameBut_setFld s Reg.FB_ORDER_STATUS.HELD_FLAGS w v 0
  unfold State.refreshOrder
  exact ((State.sameBut_setFld _ _ _ _ _).trans (h1 _ _)).trans (h2 _ _)

theorem State.sameBut_dropQueued (s : State) (w : Fin 2) :
    s.SameBut [Reg.FB_DROP_COUNT.LATE.at w 0, Reg.FB_ORDER_STATUS.OPEN_MSGS.at w 0] (s.dropQueued w) := by
  unfold State.dropQueued
  exact ((((s.sameBut_setWing _ _).mono (by simp)).trans (State.sameBut_addFld _ _ _ _ _)).mono (by simp)).trans
    ((State.sameBut_refreshOrder _ _).mono (by simp))

theorem State.sameBut_recordStop (s : State) (w : Fin 2) (status source locus chip : Nat) :
    s.SameBut [Reg.CF_STOP_RECORD0.VALID.at w 0, Reg.CF_STOP_RECORD1.TIME.at w 0, Reg.CF_STOP_RECORD2.STEP.at w 0]
      (s.recordStop w status source locus chip) := by
  unfold State.recordStop
  split
  · exact .refl _ _
  · exact (((s.sameBut_setReg _ _).mono (by simp)).trans ((State.sameBut_setReg _ _ _).mono (by simp))).trans
      ((State.sameBut_setReg _ _ _).mono (by simp))

/-- A stop of a wing, after `TC_RUN.RUN` has cleared on its tiles, changes no memory, no tile, and of the registers only
the job's and the host's. -/
theorem State.sameBut_stopWing (s : State) (w : Fin 2) (status source locus chip : Nat) :
    (s.clearRun w).SameBut (stopRegs w) (s.stopWing w status source locus chip) := by
  unfold State.stopWing
  simp only
  split
  · have h1 := ((s.clearRun w).sameBut_setFld Reg.FB_JOB.LOADED w 0 0).mono (m := stopRegs w) (by simp [stopRegs])
    have h2 := (((s.clearRun w).setFld Reg.FB_JOB.LOADED w 0).sameBut_dropQueued w).mono (m := stopRegs w) (by simp [stopRegs])
    have h3 := ((((s.clearRun w).setFld Reg.FB_JOB.LOADED w 0).dropQueued w).sameBut_recordStop w status source locus chip).mono
      (m := stopRegs w) (by simp [stopRegs])
    refine ((h1.trans (h2.trans h3)).trans ?_).trans
      ((State.sameBut_foldl _ (fun s p => State.sameBut_sendControl s w p _)).mono (by simp))
    exact (State.sameBut_event _ _ _ _).mono (by simp +contextual [stopRegs])
  · exact .refl _ _

@[simp] theorem State.stopWing_mem (s : State) (w : Fin 2) (a b c d : Nat) : (s.stopWing w a b c d).mem = s.mem :=
  (s.sameBut_stopWing w a b c d).1.trans (s.clearRun_mem w)
@[simp] theorem State.stopWing_tiles (s : State) (w : Fin 2) (a b c d : Nat) : (s.stopWing w a b c d).tiles = s.tiles :=
  (s.sameBut_stopWing w a b c d).2.1.trans (s.clearRun_tiles w)

theorem tileAddr_not_stopRegs (u : Site) {o : Nat} (ho : o < 0x2000) (w : Fin 2) : tileAddr u o ∉ stopRegs w := by
  simp only [stopRegs, hostRegs, List.cons_append, List.nil_append, List.mem_cons, List.not_mem_nil, or_false, not_or]
  refine ⟨?_, ?_, ?_, ?_, ?_, ?_, ?_, ?_⟩ <;> exact (regAddr_ne_tileAddr (by decide) ho).symm

/-- A register of a tile's block after a stop: `TC_RUN.RUN` of the wing's tiles is cleared, and their `TC_WAIT_STATE` is 0. -/
theorem State.tileReg_stopWing {s : State} (h : s.Canonical) (w : Fin 2) (status source locus chip : Nat) (u : Site)
    {o : Nat} (ho : o < 0x2000) :
    (s.stopWing w status source locus chip).reg (tileAddr u o) =
      if u.wing = w ∧ o = 8 then setBits (s.reg (tileAddr u o)) 0 1 0
      else if u.wing = w ∧ o = 0x20 then 0 else s.reg (tileAddr u o) := by
  rw [(s.sameBut_stopWing w status source locus chip).2.2.2 _ (tileAddr_not_stopRegs u ho w), State.reg_clearRun h]
  simp only [isTcRun_tileAddr w u ho, isTcWait_tileAddr w u ho]

end Sys2Proof.Machine
end

