-- ==== Sys2Proof/WellFormed.lean ====
section
/-!
DEFINITION. Well-formedness: operands that the spec's own carriers can hold. A tile is one of the 576 of a wing (R26), a
packet's payload at most a row (R260, R330), an access one word (R506), a PCIe request within its payload (R502).
-/
namespace Sys2Proof

/-- R26: a logical tile of a wing. -/
def Site.wf (u : Site) : Bool := decide (u.tile.toNat < 576)

/-- R260, R262: a packet carries at most a row and at most eight requesters. -/
def Packet.wf (p : Packet) : Bool := decide (p.data.length ≤ 512) && decide (p.reqs.length ≤ 8)

/-- R330: at most 8 payload flits of 64 bytes. -/
def FPacket.wf (p : FPacket) : Bool := decide (p.data.length ≤ 512) && decide (p.nflits.toNat ≤ 8)

/-- R584: a delay-line code for each of the 24 bands. -/
def Instar.wf (i : Instar) : Bool := decide (i.codes.length = 24)

/-- R78, R484: a tile image lies on a tile, and its rows are whole. -/
def TileImage.wf (t : TileImage) : Bool := t.site.wf && t.program.all (fun r => decide (r.length = 512))

/-- R482: an imago's tile images and tables. -/
def Imago.wf (i : Imago) : Bool :=
  i.tiles.all TileImage.wf && i.tables.all (fun t => t.site.wf && t.rows.all (fun r => decide (r.length = 512)))

/-- R323, R375: a frame that carries a flit of a packet carries a well-formed one, and a control record has 64 bytes. -/
def Frame.wf (f : Frame) : Bool :=
  (match f.head with | some p => p.wf | none => true) &&
  (match f.ctrl with | some b => decide (b.length = 64) | none => true)

/-- A command that its carrier can hold. -/
def Instr.wf : Instr → Bool
  | .nop u => u.wf
  | .brc u _ _ _ _ _ => u.wf
  | .loop u _ _ _ _ _ => u.wf
  | .twait u _ _ _ _ _ => u.wf
  | .stepBegin u _ => u.wf
  | .stepEnd u _ => u.wf
  | .ldw u _ _ _ _ _ _ => u.wf
  | .stw u _ _ _ _ _ => u.wf
  | .qld u _ _ _ _ _ _ => u.wf
  | .qst u _ _ _ _ _ _ => u.wf
  | .qwait u _ _ _ => u.wf
  | .send u _ _ _ _ _ _ _ _ => u.wf
  | .post u _ _ _ _ _ _ => u.wf
  | .rdrem u _ _ _ _ _ => u.wf
  | .bar u _ _ _ => u.wf
  | .flagSet u _ _ _ _ _ _ => u.wf
  | .flagAdd u _ _ _ _ _ _ => u.wf
  | .flagWaitAtLeast u _ _ _ _ _ _ => u.wf
  | .flagWaitEqual u _ _ _ _ _ _ => u.wf
  | .vld u _ _ => u.wf
  | .vlda u _ _ => u.wf
  | .vst u _ _ => u.wf
  | .vqnt u _ _ => u.wf
  | .vste u _ _ => u.wf
  | .vbcast u _ _ => u.wf
  | .vmovs u _ _ => u.wf
  | .vresc u _ _ => u.wf
  | .vadd u _ _ => u.wf
  | .vsub u _ _ => u.wf
  | .vmul u _ _ => u.wf
  | .vfma u _ _ => u.wf
  | .vmax u _ _ => u.wf
  | .vmin u _ _ => u.wf
  | .vabs u _ _ => u.wf
  | .vneg u _ _ => u.wf
  | .vcmplt u _ _ => u.wf
  | .vcmpeq u _ _ => u.wf
  | .viadd u _ _ => u.wf
  | .visub u _ _ => u.wf
  | .vimul u _ _ => u.wf
  | .vshl u _ _ => u.wf
  | .vshr u _ _ => u.wf
  | .vand u _ _ => u.wf
  | .vor u _ _ => u.wf
  | .vxor u _ _ => u.wf
  | .vsel u _ _ => u.wf
  | .vcvtif u _ _ => u.wf
  | .vcvtfi u _ _ => u.wf
  | .vexp2 u _ _ => u.wf
  | .vrcp u _ _ => u.wf
  | .vrsq u _ _ => u.wf
  | .vsigm u _ _ => u.wf
  | .vrsum u _ _ => u.wf
  | .vrmax u _ _ => u.wf
  | .vtopk u _ _ => u.wf
  | .vsadd u _ _ => u.wf
  | .vssub u _ _ => u.wf
  | .vsmul u _ _ => u.wf
  | .vsand u _ _ => u.wf
  | .vsor u _ _ => u.wf
  | .vsxor u _ _ => u.wf
  | .vsshl u _ _ => u.wf
  | .vsshr u _ _ => u.wf
  | .vsmin u _ _ => u.wf
  | .vsmax u _ _ => u.wf
  | .vsli u _ _ => u.wf
  | .mload u _ _ _ _ _ _ => u.wf
  | .msparse u _ _ _ _ => u.wf
  | .mstream u _ _ _ _ _ _ _ _ _ _ => u.wf
  | .streamBeginFeed u => u.wf
  | .vectorFeed u _ => u.wf
  | .accRowWrite u => u.wf
  | .weightFillComplete u => u.wf
  | .qldComplete u _ _ => u.wf
  | .qstComplete u _ _ _ => u.wf
  | .waitTimeout u _ => u.wf
  | .inboundRowLand u => u.wf
  | .inboundHoldTimeout u _ => u.wf
  | .spScrub u _ _ => u.wf
  | .mergeHoldExpiry u _ => u.wf
  | .fuseLoadComplete => true
  | .meshForward u _ _ _ => u.wf
  | .rowWrite u _ p _ => u.wf && p.wf
  | .rowPost u _ p _ => u.wf && p.wf
  | .wordWrite u _ p _ => u.wf && p.wf
  | .readReq u _ p _ => u.wf && p.wf
  | .readData u _ p _ => u.wf && p.wf
  | .readMerged u _ p _ => u.wf && p.wf
  | .readStatus u _ p _ => u.wf && p.wf
  | .wordRead u _ p _ => u.wf && p.wf
  | .wordData u _ p _ => u.wf && p.wf
  | .barArrive u _ p _ => u.wf && p.wf
  | .barRelease u _ p _ => u.wf && p.wf
  | .flagOp u _ p _ => u.wf && p.wf
  | .frameReceive _ _ f _ => f.wf
  | .ack _ _ _ => true
  | .nak _ _ _ => true
  | .poison _ _ _ _ _ => true
  | .laneLockLoss _ _ _ => true
  | .portTrained _ _ _ => true
  | .hello _ _ _ => true
  | .helloTimer _ _ => true
  | .fabricPacketReceive _ _ p => p.wf
  | .hbmWrite _ p _ _ => p.wf
  | .complete _ p => p.wf
  | .verdict _ _ _ _ _ _ _ => true
  | .strictAckTimer _ _ _ => true
  | .flagHoldTimeout _ _ _ _ _ _ _ => true
  | .sweep _ _ p => p.wf
  | .occSample _ _ => true
  | .fbBarLocalArrive _ _ _ => true
  | .fbBarChildArrive _ p => p.wf
  | .fbBarParentRelease _ p => p.wf
  | .fbBarLocalRelease _ _ _ => true
  | .timesyncTimer _ => true
  | .delayReq _ _ _ => true
  | .sync _ _ _ _ _ => true
  | .stepDone _ _ _ => true
  | .stepGo _ _ _ _ => true
  | .stepAdvance _ => true
  | .stop _ _ _ _ _ => true
  | .jobStop _ _ _ _ => true
  | .otherWingStop _ => true
  | .submit _ _ _ => true
  | .cancel _ _ _ _ => true
  | .publishTable _ _ a => decide (a.data.length = a.length.toNat)
  | .repairReload _ _ a => decide (a.data.length ≤ 2048)
  | .commandPoll entries _ => decide (entries.length ≤ 32)
  | .heartbeat => true
  | .stepBoundary _ => true
  | .batchPart _ _ _ _ _ _ => true
  | .mirrorAck _ => true
  | .ackTimeout _ => true
  | .cancelForward _ _ => true
  | .handoff _ => true
  | .handoffReply _ _ _ _ _ => true
  | .shipDone _ _ => true
  | .ledgerSignComplete _ _ => true
  | .auLedgerExport _ _ => true
  | .eventDrop => true
  | .msixCoalesceTimer _ => true
  | .msixUnmask _ => true
  | .ringEnable _ => true
  | .tcRun u _ _ => u.wf
  | .satClear u _ _ => u.wf
  | .winOpen u _ _ _ _ _ => u.wf
  | .winClose u _ _ _ => u.wf
  | .tcTagEmpty u _ _ => u.wf
  | .tcGatherSeal u _ _ => u.wf
  | .violCountClear u _ => u.wf
  | .cmCancelSet _ _ _ => true
  | .cmCancelClr _ _ => true
  | .spanArm _ _ _ => true
  | .pubArm _ _ _ => true
  | .pubCancel _ _ _ => true
  | .routeArm _ _ => true
  | .occClear _ _ => true
  | .fbJobWrite _ _ => true
  | .tbStepDoneWrite _ _ => true
  | .tbTimeWrite _ _ => true
  | .pwBudgetWrite _ => true
  | .tierDown _ => true
  | .tierGateShut _ => true
  | .tierPowerOff _ => true
  | .tierUp _ => true
  | .tierPowerUpDone _ => true
  | .wwReplan _ slacks => decide (slacks.length = 12)
  | .wwPeriodExpiry _ slacks => decide (slacks.length = 12)
  | .wingwearMeasure _ _ _ _ _ => true
  | .arbiterEpoch => true
  | .powerRequest _ _ => true
  | .powerRelease _ _ => true
  | .reductionAck _ => true
  | .bandVoltageControl _ beats draws _ => decide (beats.length = 61) && decide (draws.length = 61)
  | .bandHot _ _ => true
  | .thermalClampStep _ _ => true
  | .hbmRefresh _ _ _ _ => true
  | .cmScrub _ _ _ => true
  | .hawkHbmAccess _ write _ len data _ _ => if write then decide (1 ≤ data.length) else decide (1 ≤ len)
  | .bar2Write _ data _ _ => decide (1 ≤ data.length) && decide (data.length ≤ 512)
  | .bar2Read _ len _ _ => decide (1 ≤ len) && decide (len ≤ 4096)
  | .registerWrite _ _ off bytes _ _ => decide (1 ≤ bytes) && decide (off.toNat % 8 + bytes ≤ 8)
  | .badAccessClear _ => true
  | .cfJobStop _ _ => true
  | .cfReset _ _ _ => true
  | .configRequest _ => true
  | .functionLevelReset => true
  | .hotReset => true
  | .pcieLinkDown => true
  | .d3hotEntry => true
  | .perstN _ => true
  | .getInfo => true
  | .readOtpLog => true
  | .getNonce => true
  | .nonceLapse => true
  | .ledgerCert _ => true
  | .ownerClaim _ _ => true
  | .ownerAdd _ _ _ => true
  | .ownerRevoke _ _ => true
  | .rollbackCommit _ => true
  | .wsvnRaise _ _ => true
  | .debugUnlock _ => true
  | .debugDisable _ => true
  | .instarWrite part => Instar.wf part
  | .chrysalisWrite _ len img _ => decide (1 ≤ len.toNat) && decide (img.svn.toNat ≤ 64)
  | .weightKey _ _ _ => true
  | .edgeKey _ _ _ _ => true
  | .zeroise _ => true
  | .entropyHealthFail => true
  | .getVersion => true
  | .getCapabilities => true
  | .negotiateAlgorithms _ _ => true
  | .getDigests => true
  | .getCertificate _ => true
  | .challenge _ _ => true
  | .getMeasurements _ _ _ => true
  | .setEndpointId _ => true
  | .getSensorReading _ _ => true
  | .setNumericEffecterValue _ _ => true
  | .firmwareUpdate img => decide (img.svn.toNat ≤ 64)
  | .fruRead _ _ len => decide (len ≤ 8192)
  | .fruWrite _ _ data => decide (data.length ≤ 8192)
  | .pwrEnRise _ => true
  | .pwrEnFall _ => true
  | .underV => true
  | .overV => true
  | .regFault => true
  | .thermal => true
  | .modRstN _ => true
  | .svcRstN _ => true
  | .boot _ _ => true
  | .addrSelChange _ => true
  | .flSelN _ => true
  | .jobLoad img slacks => Imago.wf img && decide (slacks.length = 24)
  | .jobRestart plan => decide (plan.slacks.length = 24)
  | .bridgeLinkHandshake _ _ => true
  | .bridgeLinkLost _ _ => true
  | .hbmStackTrained _ _ => true
  | .hbmStackHot _ _ _ => true
  | .pcieLinkUp speed width _ => decide (1 ≤ speed.toNat) && decide (speed.toNat ≤ 6) && (width == 1 || width == 2 || width == 4 || width == 8)
  | .modRefclkRange _ => true
  | .p3v3Aux _ => true
  | .jtagAccess _ _ _ _ _ => true

end Sys2Proof
end

