-- ==== Sys2Proof/Tests/Slice0.lean ====
section
/-!
SUPPORT. The model's own tests: ill-formed terms that `wf` refuses, one small step of commands of every family (expected values
worked out by hand from the rules named), and, for every statement with hypotheses, states and operands that meet them.
-/
set_option Elab.async false
open Sys2Proof Sys2Proof.Machine
namespace Sys2Proof.Tests

/-! ### Well-formed commands -/

def site : Site := ⟨0, 5⟩
def far : Site := ⟨1, 576⟩
def row512 : List Byte := List.replicate 513 1
def instar : Instar := { magicOk := true, seq := 1, length := 0, digestOk := true, ownerSlot := 0, ownerSigOk := true, moduleTagOk := true, ownerVer := 1, serial := 0, entries := [], codes := List.replicate 24 0, otpCount := 0, otpDigest := 0 }
def flash : Chrysalis := { magicOk := true, keyHash := 0, sigOk := true, svn := 3, version := 1, length := 0, digest := 7 }
def tileImage (u : Site) (n : Nat) : TileImage := { site := u, regs := [], program := [List.replicate n 0], resident := [], opened := [], entry := 0, loadEntry := 0 }
def imago : Imago := { digest := 0, lchip0 := 0, magicOk := true, format := 1, gen := 3, grade := 1, modules := 1, jobModules := 1, profile := 1, modeReq := 0, wsvn := 0, keySlot := 0, sigOk := true, enc := false, tagsOk := true, relocOk := true, verdictsOk := true, tiles := [], tables := [], fabric := [], regions := [], reload := [], partnerBytes := [], partnerChip := [], partnerMirror := [], modNum := 1, group := 0, firstStep := 1, replay := false, svJob := 0, svStep := 0, svLimits := 0, svPages := 0, pageShape := [], pageRanges := [], decodePool := [], shipMap := [], scores := 0, tLims := [], strictStreams := 0, openMsgs := 0, msgPackets := 0, stackRows := 0, waitBound := 0, poolOverlap := false }
def plan : RestartPlan := { step := 5, repeats := 0, spare := false, modNum := 1, partnerChip := [], mirrored := [], verdicts := [], routes := [], repairs := [], copies := [], lostSlots := [], lostJob := none, img := none, promptHold := false, slacks := List.replicate 24 0 }

/-- R26: a tile beyond the 576 of a wing. -/
theorem test_wf_site : Instr.wf (.nop site) = true ∧ Instr.wf (.nop far) = false ∧ Instr.wf (.vadd far ⟨0, 0, 0, 0, 0, 0, RowOp.ofBits 0, RowOp.ofBits 0, ⟨0, 0⟩, 0, 0, 0, false, false, 0, false⟩ {}) = false := by decide +kernel

/-- R260, R262, R330: packets. -/
theorem test_wf_packets :
    Instr.wf (.rowWrite site .west { kind := 0, data := row512 } false) = false ∧
    Instr.wf (.readMerged site .west { kind := 5, reqs := List.replicate 9 ⟨0, 0, 0⟩ } false) = false ∧
    Instr.wf (.complete 0 { kind := 0xF, data := row512 }) = false ∧ Instr.wf (.complete 0 { kind := 0xF, nflits := 9 }) = false ∧
    Instr.wf (.frameReceive 0 0 { seq := 0, vc := 0, tail := true, crVc := 0, crCount := 0, head := some { kind := 0, nflits := 9 }, ctrl := none } {}) = false := by
  decide +kernel

/-- R516, R515: what the rings carry. -/
theorem test_wf_rings :
    Instr.wf (.publishTable 0 0 ⟨0, 0, 0, 0, 512, []⟩) = false ∧
    Instr.wf (.repairReload 0 0 ⟨0, 0, 0, 0, List.replicate 2049 0, true⟩) = false ∧
    Instr.wf (.commandPoll (List.replicate 33 ⟨true, 0, 0, .cancel 0 false⟩) 0) = false := by decide +kernel

/-- R543, R553: slacks of twelve bands, tables of 61 steps. -/
theorem test_wf_power :
    Instr.wf (.wwReplan 0 [0]) = false ∧ Instr.wf (.wwPeriodExpiry 0 [0]) = false ∧
    Instr.wf (.bandVoltageControl 0 [] (List.replicate 61 0) 0) = false ∧
    Instr.wf (.bandVoltageControl 0 (List.replicate 61 0) [] 0) = false := by decide +kernel

/-- R502, R506, R508, R509: accesses. -/
theorem test_wf_accesses :
    Instr.wf (.hawkHbmAccess 0 true 0 4 [] [] false) = false ∧ Instr.wf (.hawkHbmAccess 0 false 0 0 [1] [] false) = false ∧
    Instr.wf (.bar2Write 0 [] [] false) = false ∧ Instr.wf (.bar2Write 0 row512 [] false) = false ∧ Instr.wf (.bar2Read 0 0 [] {}) = false ∧
    Instr.wf (.bar2Read 0 4097 [] {}) = false ∧ Instr.wf (.registerWrite 0 .host 8 0 false 0) = false ∧
    Instr.wf (.registerWrite 0 .host 4 8 false 0) = false ∧ Instr.wf (.pcieLinkUp 7 8 true) = false ∧
    Instr.wf (.pcieLinkUp 5 3 true) = false ∧ Instr.wf (.pcieLinkUp 0 8 true) = false := by decide +kernel

/-- R484, R524, R569, R575, R584: images. -/
theorem test_wf_images :
    Instr.wf (.instarWrite { instar with codes := [] }) = false ∧ Instr.wf (.chrysalisWrite 0 0 flash true) = false ∧
    Instr.wf (.chrysalisWrite 0 1 { flash with svn := 65 } true) = false ∧ Instr.wf (.firmwareUpdate { flash with svn := 65 }) = false ∧
    Instr.wf (.fruRead 0 0 8193) = false ∧ Instr.wf (.fruWrite 0 0 (List.replicate 8193 0)) = false ∧
    Instr.wf (.jobLoad imago []) = false ∧ Instr.wf (.jobLoad { imago with tiles := [tileImage far 512] } (List.replicate 24 0)) = false ∧
    Instr.wf (.jobLoad { imago with tiles := [tileImage site 511] } (List.replicate 24 0)) = false ∧
    Instr.wf (.jobLoad { imago with tables := [⟨far, 0, 0, 0, [], none⟩] } (List.replicate 24 0)) = false ∧
    Instr.wf (.jobLoad { imago with tables := [⟨site, 0, 0, 0, [[]], none⟩] } (List.replicate 24 0)) = false ∧
    Instr.wf (.jobLoad imago (List.replicate 24 0)) = true ∧ Instr.wf (.jobRestart { plan with slacks := [] }) = false := by
  decide +kernel

/-! ### States to test on -/

/-- The state after a command (the state itself where the command has none). -/
def after (c : Instr) (s : State) : State := match exec c s with | .next t => t | _ => s

/-- Registers set one after another. -/
def withRegs (s : State) (l : List (Nat × Nat)) : State := l.foldl (fun s e => s.setReg e.1 (BitVec.ofNat 64 e.2)) s

/-- R196: the word of a handle that the tile's program may use. -/
def handleWord (base rows mode : Nat) : Nat := base + (rows - 1) * 2 ^ 14 + mode * 2 ^ 28 + 2 ^ 37

/-- Tile 5 of wing 0 runs: handle 1 is rows 8 to 15 (OVERWRITE), handle 2 rows 16 to 23 (FIXED), program row 0 is full. -/
def tileOn (x : Tile) : State :=
  (withRegs State.reset [(Reg.TC_RUN.RUN.on site 0, 1), (Reg.SP_HANDLE.BASE.on site 1, handleWord 8 8 2),
    (Reg.SP_HANDLE.BASE.on site 2, handleWord 16 8 0)]).setTile site x

def plain : State := tileOn { full := [0, 8, 9], scalars := [(1, 5), (2, 512)] }

/-- The row that register `r` holds the word address of. -/
def rowAt (h : BitVec 8) (r : BitVec 6) : RowOp := ⟨h, true, r, false⟩

/-- A vector form with registers only. -/
def form (vd va vb vc : BitVec 4) : VForm := ⟨vd, va, vb, vc, 0, 0, rowAt 1 0, rowAt 1 0, ⟨0, 0⟩, 0, 0, 0, false, false, 1, false⟩

/-- What `Issues` asks, as one test. -/
def issues (s : State) (u : Site) (b : Bundle) : Bool :=
  s.presents u && decide ((s.settle u).fetchBad u b = none) && decide ((s.settle u).bundleFault u b = none) &&
    decide ((s.settle u).bundleWait u b = none) && decide ((s.settle u).badRow u b = none) &&
    (match bundleBar b with | some bid => (s.atIssue u b).barDone u bid | none => true)

theorem issues_of {s : State} {u : Site} {b : Bundle} (h : issues s u b = true) : s.Issues u b := by
  simp only [issues, Bool.and_eq_true, decide_eq_true_eq] at h
  refine ⟨h.1.1.1.1.1, h.1.1.1.1.2, h.1.1.1.2, h.1.1.2, h.1.2, fun bid hb => ?_⟩
  have h2 := h.2
  rw [hb] at h2
  exact h2

/-- What `Quiet` asks, as one test. -/
def quiet (s : State) (u : Site) : Bool :=
  (s.tile u).heldWords.isEmpty && (s.tile u).readPort.isEmpty &&
    (s.tile u).pend.all (fun p => match p.eff with | .rowFill _ _ => false | _ => true)

theorem quiet_of {s : State} {u : Site} (h : quiet s u = true) : s.Quiet u := by
  simp only [quiet, Bool.and_eq_true, List.isEmpty_iff, List.all_eq_true] at h
  refine ⟨h.1.1, h.1.2, fun p hp r d he => ?_⟩
  have := h.2 p hp
  rw [he] at this
  cases this

/-- What `Canonical` asks, as one test. -/
def canonical (s : State) : Bool :=
  decide (s.mem.Pairwise (fun a b => a.1 < b.1)) && decide (∀ e ∈ s.mem, e.2 ≠ memDefault e.1) &&
    decide (s.regs.Pairwise (fun a b => a.1 < b.1)) && decide (∀ e ∈ s.regs, e.2 ≠ resetVal e.1) &&
    decide (s.tiles.Pairwise (fun a b => a.1 < b.1)) && decide (∀ e ∈ s.tiles, e.2 ≠ ({} : Tile))

theorem canonical_of {s : State} (h : canonical s = true) : s.Canonical := by
  simp only [canonical, Bool.and_eq_true, decide_eq_true_eq] at h
  exact ⟨⟨h.1.1.1.1.1, h.1.1.1.1.2⟩, ⟨h.1.1.1.2, h.1.1.2⟩, h.1.2, h.2⟩

/-! ### Steps -/

/-- R389: an empty queue is one cycle of 1 ns. -/
theorem test_idle : ∃ t, step State.reset = .next t ∧ t.reg (Reg.TB_TIME.TIME.at 1 0) = 16 := by
  exact ⟨_, rfl, by decide +kernel⟩

theorem witness_IdleStepCounts : State.reset.pending = [] := by decide +kernel

theorem witness_StepKeepsCanonical : plain.Canonical ∧ ∃ t, step plain = .next t := by
  exact ⟨canonical_of (by decide +kernel), _, rfl⟩

/-! ### Bundles -/

def addOne : SForm := ⟨3, 1, 0, false, 7⟩

theorem witness_BundleIssues :
    carried (.vsadd site addOne {}) = some (site, { vec := some (.sca .vsadd addOne) }) ∧
    plain.Issues site { vec := some (.sca .vsadd addOne) } ∧ (plain.atIssue site { vec := some (.sca .vsadd addOne) }).Quiet site ∧
    ({} : Bundle).ctl = none := by
  exact ⟨rfl, issues_of (by decide +kernel), quiet_of (by decide +kernel), rfl⟩

/-- R113, R487: 5 + 0 + 7 is on its way, visible to the next bundle; the tile goes on. -/
theorem test_vsadd : ((after (.vsadd site addOne {}) plain).tile site).pend = [⟨1, .scalar 3 12⟩] ∧
    (after (.vsadd site addOne {}) plain).pc site = 1 := by decide +kernel

/-- R78: a fetch from an empty program row is cause 3; a second fault does not replace it (R128). -/
def noProgram : State := tileOn {}
def badFetch : Bundle := { fetch := { bad := some 3 } }
def faulted : State := after (.nop site) noProgram

theorem witness_BundleFaults :
    noProgram.Canonical ∧ faulted.Canonical ∧ carried (.nop site) = some (site, {}) ∧ noProgram.presents site = true ∧
    (noProgram.settle site).fetchBad site {} = none ∧
    (noProgram.settle site).bundleFault site {} = some 3 ∧ (noProgram.settle site).tbit site Reg.TC_FAULT.VALID = false ∧
    faulted.tfld site Reg.TC_FAULT.CAUSE = 3 ∧
    (faulted.setTfld site Reg.TC_RUN.RUN 1).presents site = true ∧
    ((faulted.setTfld site Reg.TC_RUN.RUN 1).settle site).bundleFault site {} = some 3 ∧
    ((faulted.setTfld site Reg.TC_RUN.RUN 1).settle site).tbit site Reg.TC_FAULT.VALID = true := by
  exact ⟨canonical_of (by decide +kernel), canonical_of (by decide +kernel), rfl, by decide +kernel, by decide +kernel, by decide +kernel, by decide +kernel, by decide +kernel, by decide +kernel, by decide +kernel, by decide +kernel⟩

/-- R78, R164: the fetch of a program row meets an uncorrectable codeword. -/
theorem witness_BundleFaults_fetch :
    carried (.stepEnd site badFetch) = some (site, { badFetch with ctl := some .stepEnd }) ∧ plain.Canonical ∧ plain.presents site = true ∧
    ((plain.settle site).fetchBad site { badFetch with ctl := some .stepEnd }).isSome = true ∧
    (after (.stepEnd site badFetch) plain).tfld site Reg.SP_ECC_STATUS.UE_ROW = 0 ∧
    (after (.stepEnd site badFetch) plain).tbit site Reg.TC_RUN.RUN = false := by
  exact ⟨rfl, canonical_of (by decide +kernel), by decide +kernel, by decide +kernel, by decide +kernel, by decide +kernel⟩

/-- R97: row 10 of handle 1 is empty, so the wait of kind 0 has cause 1. -/
def waits : Bundle := { ctl := some (.twait 0 (rowAt 1 4) 0 0) }
def onRow10 : State := tileOn { full := [0, 8, 9], scalars := [(1, 5), (2, 512), (4, 128)] }

theorem witness_BundleWaits :
    carried (.twait site 0 (rowAt 1 4) 0 0 {}) = some (site, waits) ∧ onRow10.presents site = true ∧
    (onRow10.tile site).pend = [] ∧ onRow10.Quiet site ∧ (onRow10.settle site).fetchBad site waits = none ∧
    (onRow10.settle site).bundleFault site waits = none ∧
    (onRow10.settle site).bundleWait site waits = some 1 ∧
    (after (.twait site 0 (rowAt 1 4) 0 0 {}) onRow10).tfld site Reg.TC_WAIT_STATE.CAUSE = 1 := by
  exact ⟨rfl, by decide +kernel, by decide +kernel, quiet_of (by decide +kernel), by decide +kernel, by decide +kernel, by decide +kernel, by decide +kernel⟩

/-- R80: one result is due, another is not, and register 5 has none; a later entry that writes the same register wins. -/
theorem witness_ResultsBecomeVisible :
    let s := tileOn { beat := 4, pend := [⟨3, .scalar 2 7⟩, ⟨4, .scalar 3 9⟩, ⟨5, .scalar 3 8⟩] }
    (s.tile site).pend = [⟨3, .scalar 2 7⟩] ++ ⟨4, .scalar 3 9⟩ :: [⟨5, .scalar 3 8⟩] ∧ 4 ≤ (s.tile site).beat ∧
    (∀ q ∈ [(⟨5, .scalar 3 8⟩ : PendWrite)], ¬ q.due ≤ (s.tile site).beat) ∧
    ⟨5, .scalar 3 8⟩ ∈ (s.tile site).pend ∧ ((s.settle site).tile site).scalar 3 = 9 := by decide +kernel

/-! ### The VEC slot -/

theorem witness_ScalarForms : ∀ k ∈ [SKind.vsadd, .vssub, .vsmul, .vsand, .vsor, .vsxor, .vsshl, .vsshr, .vsmin, .vsmax, .vsli],
    issues plain site { vec := some (.sca k addOne) } = true := by decide +kernel

/-- R114: `VSLI` with H keeps the low half of SD; `VSSHR` keeps the sign; a count of 64 is 0. -/
theorem test_scalar_forms :
    ((after (.vsli site ⟨1, 0, 0, true, 9⟩ {}) plain).tile site).pend = [⟨1, .scalar 1 0x900000005⟩] ∧
    ((after (.vsshr site ⟨3, 5, 0, false, 4⟩ {}) (tileOn { full := [0], scalars := [(5, 0x8000000000000000)] })).tile site).pend =
      [⟨1, .scalar 3 0xF800000000000000⟩] ∧
    ((after (.vsshl site ⟨3, 1, 0, false, 64⟩ {}) plain).tile site).pend = [⟨1, .scalar 3 5⟩] := by decide +kernel

def lanesOf (s : State) (c : Instr) : List (Option Lane) := ((after c s).tile site).pend.map (fun p => match p.eff with | .vector _ l => l.head? | _ => none)

/-- Lane 0 of v1 is 1.5, of v2 is 2.0, of v3 a NaN, of v4 minus zero. -/
def vectors : State := tileOn { full := [0, 8, 9], vectors := [(64, 0x3FC00000), (128, 0x40000000), (192, 0x7FC00001), (256, 0x80000000)] }

theorem witness_VectorForms : ∀ k ∈ [VKind.vadd, .vsub, .vmul, .vfma, .vmax, .vmin, .vabs, .vneg, .vcmplt, .vcmpeq, .viadd,
      .visub, .vimul, .vshl, .vshr, .vand, .vor, .vxor, .vsel, .vcvtif, .vcvtfi, .vexp2, .vrcp, .vrsq, .vsigm, .vrsum, .vrmax,
      .vqnt, .vbcast, .vmovs, .vld, .vst, .vste],
    issues vectors site { vec := some (.vec k (form 5 1 2 1)) } = true := by decide +kernel

/-- R62 to R65, R114: 1.5 + 2, 1.5 x 2, 1.5 x 2 + 1.5, 2 to the 2, 1/2, and the one NaN. -/
theorem test_float_lanes :
    lanesOf vectors (.vadd site (form 5 1 2 0) {}) = [some 0x40600000] ∧
    lanesOf vectors (.vmul site (form 5 1 2 0) {}) = [some 0x40400000] ∧
    lanesOf vectors (.vfma site (form 5 1 2 1) {}) = [some 0x40900000] ∧
    lanesOf vectors (.vexp2 site (form 5 2 0 0) {}) = [some 0x40800000] ∧
    lanesOf vectors (.vrcp site (form 5 2 0 0) {}) = [some 0x3F000000] ∧
    lanesOf vectors (.vabs site (form 5 3 0 0) {}) = [some nanLane] ∧
    lanesOf vectors (.vneg site (form 5 4 0 0) {}) = [some 0] := by decide +kernel

/-- R114: integer lanes wrap, and a shift takes bits [4:0] of its count. -/
theorem test_integer_lanes :
    let s := tileOn { full := [0], vectors := [(64, 0xFFFFFFFF), (128, 33)] }
    lanesOf s (.viadd site (form 5 1 2 0) {}) = [some 32] ∧ lanesOf s (.vimul site (form 5 1 1 0) {}) = [some 1] ∧
    lanesOf s (.vshl site (form 5 2 2 0) {}) = [some 66] ∧ lanesOf s (.vsel site (form 5 3 1 2) {}) = [some 33] := by decide +kernel

/-- R115, R118, R120: the forms that fill VD from elsewhere, and a list of one. -/
def regioned (x : Tile) : State := withRegs (tileOn x) [(Reg.AY_REGION.BASE.on site 0, 7 * 2 ^ 11 + 2 ^ 23)]

theorem witness_VectorSources :
    issues (regioned { full := [0, 8, 9, 10, 11, 12, 13, 14, 15] }) site { vec := some (.vec .vlda (form 5 1 2 1)) } = true ∧
    issues (regioned { full := [0, 8, 9, 10, 11, 12, 13, 14, 15] }) site { vec := some (.vec .vresc (form 5 1 2 1)) } = true ∧
    issues vectors site { vec := some (.vec .vtopk { form 5 1 2 1 with immA := 1 }) } = true := by decide +kernel

/-- R114: `VMOVS` sign-extends one lane; `VBCAST` takes the low half of SA. -/
theorem test_moves :
    ((after (.vmovs site { form 5 4 0 0 with sa := 7 } {}) vectors).tile site).pend = [⟨2, .scalar 7 0xFFFFFFFF80000000⟩] ∧
    lanesOf plain (.vbcast site (form 5 0 0 0) {}) = [some 5] := by decide +kernel

theorem witness_RegisterBundlesFrame :
    let b : Bundle := { vec := some (.vec .vadd (form 5 1 2 0)) }
    carried (.vadd site (form 5 1 2 0) {}) = some (site, b) ∧ issues vectors site b = true ∧
    ((vectors.atIssue site b).tile site).heldWords = [] ∧ ((vectors.atIssue site b).tile site).readPort = [] ∧
    b.ctl = none ∧ b.mem = none ∧ b.q = none ∧ b.net = none ∧ b.arr = none := by decide +kernel

/-! ### The CTL slot -/

/-- R93, R94: a branch taken and not, a skipped loop and a loop of three. -/
theorem witness_BranchesAndLoops :
    let b (c : CtlOp) : Bundle := { ctl := some c }
    carried (.brc site 5 0 1 77 {}) = some (site, b (.brc 5 0 1 77)) ∧ issues plain site (b (.brc 5 0 1 77)) = true ∧
    ((plain.tile site).scalar 0 < (plain.tile site).scalar 1) ∧ (after (.brc site 5 0 1 77 {}) plain).pc site = 77 ∧
    issues plain site (b (.brc 6 0 1 77)) = true ∧ ¬ (plain.tile site).scalar 1 ≤ (plain.tile site).scalar 0 ∧
    (after (.brc site 6 0 1 77 {}) plain).pc site = 1 ∧
    issues plain site (b (.loop false 0 0 9)) = true ∧ (after (.loop site false 0 0 9 {}) plain).pc site = 10 ∧
    issues plain site (b (.loop false 0 3 9)) = true ∧
    ((after (.loop site false 0 3 9 {}) plain).tile site).loops = [⟨1, 9, 2⟩] := by decide +kernel

/-- R95: the END of a loop with iterations left, and of its last one. -/
theorem witness_SequentialBundles :
    let s (n : Nat) := tileOn { full := [0], loops := [⟨0, 0, n⟩] }
    carried (.nop site) = some (site, {}) ∧ issues plain site {} = true ∧ (plain.tile site).loops = [] ∧
    (plain.tile site).loops.all (fun x => x.last != plain.pc site) = true ∧
    issues (s 1) site {} = true ∧ ((s 1).tile site).loops = ⟨0, 0, 1⟩ :: [] ∧ (s 1).pc site = 0 ∧
    (after (.nop site) (s 1)).pc site = 0 ∧ ((after (.nop site) (s 1)).tile site).loops = [⟨0, 0, 0⟩] ∧
    issues (s 0) site {} = true ∧ (after (.nop site) (s 0)).pc site = 1 ∧ ((after (.nop site) (s 0)).tile site).loops = [] := by
  decide +kernel

/-- R98: BEGIN waits for the step counter to be above the tile's step; END marks the tile. -/
theorem witness_StepBundles :
    let s := withRegs plain [(Reg.TB_STEP.STEP.at 0 0, 4), (Reg.TC_BEAT_COUNT.BEATS.on site 0, 9)]
    issues s site { ctl := some .stepBegin } = true ∧ Alone {} ∧ quiet s site = true ∧
    (after (.stepBegin site {}) s).tfld site Reg.TC_STEP_LOCAL.STEP = 4 ∧
    (after (.stepBegin site {}) s).tfld site Reg.TC_BEAT_COUNT.BEATS = 1 ∧
    issues s site { ctl := some .stepEnd } = true ∧ ((after (.stepEnd site {}) s).wing 0).endedTiles = [5] := by
  unfold Alone; decide +kernel

/-! ### The MEM and Q slots -/

/-- R100, R101, R175: a word of row 8, a register of the tile, a narrow write, and a generator word. -/
theorem witness_MemSlot :
    let s := plain.writeRun 0 (rowOffset 5 8 + 8) [1, 2, 3, 4, 5, 6, 7, 8]
    carried (.ldw site 0 3 0 0x0101 1 {}) = some (site, { mem := some (.ldw 0 3 0 0x0101 1) }) ∧
    issues s site { mem := some (.ldw 0 3 0 0x0101 1) } = true ∧
    ((after (.ldw site 0 3 0 0x0101 1 {}) s).tile site).pend = [⟨2, .scalar 3 0x0807060504030201⟩] ∧
    issues s site { mem := some (.ldw 0 3 1 0x0008 0) } = true ∧
    ((after (.ldw site 0 3 1 0x0008 0 {}) s).tile site).pend = [⟨2, .scalar 3 1⟩] ∧
    issues s site { mem := some (.stw 1 0 0x0101 2) } = true ∧
    ((after (.stw site 1 0 0x0101 2 {}) s).tile site).gathers.map (fun g => (g.row, sget (fun _ => 0) g.bytes 16)) = [(8, 5)] ∧
    issues s site { mem := some (.stw 1 1 0x0200 0) } = true ∧ (0x200 : Nat) ≤ (0x0200 : BitVec 16).toNat ∧
    (after (.stw site 1 1 0x0200 0 {}) s).tfld site Reg.TC_GEN0.BASE = 5 ∧
    issues s site { mem := some (.stw 1 1 0x02F8 0) } = true ∧ (0x02F8 : BitVec 16).toNat < 0x300 ∧
    issues s site { vec := some (.vec .vst (form 0 1 0 0)) } = true ∧
    issues s site { vec := some (.vec .vste (form 0 1 0 0)) } = true := by decide +kernel

/-- R104: a store of one row at offset 512, a load of a row into handle 2. -/
def stored : State := after (.qst site 3 0 (rowAt 1 0) 2 true {}) plain
def loads : State := after (.qld site 31 0 (rowAt 2 0) 2 false {}) plain

theorem witness_QueueTickets :
    issues plain site { q := some (.qst 3 0 (rowAt 1 0) 2 true) } = true ∧
    ((stored.tile site).store 3).off = 512 ∧ (stored.tile site).pend = [⟨1, .scalar 2 1024⟩] ∧
    issues plain site { q := some (.qld 31 0 (rowAt 2 0) 2 false) } = true ∧
    ((loads.tile site).load 31).rows = [16] ∧ (loads.tile site).claimOf 16 = some (.load 31) := by decide +kernel

/-- A window of HBM: region 0 of wing `w`, `size` x 2 MiB from 0, of a kind (R308), every stack trained. -/
def hbm (w : Fin 2) (kind : Nat) (s : State) : State :=
  withRegs s [(Reg.CM_REGION.BASE.at w 0, 4 * 2 ^ 18 + kind * 2 ^ 36 + 2 ^ 40), (Reg.CM_STATUS.TRAINED.at w 0, 1023)]

theorem witness_QueueWait :
    let s := after (.qstComplete site 3 {} false) (hbm 0 1 stored)
    let t := after (.qldComplete site 31 {}) (hbm 0 1 loads)
    bitsOf 32 (0x80000000 : BitVec 32).toNat = [31] ∧ bitsOf 32 (8 : BitVec 32).toNat = [3] ∧
    issues s site { q := some (.qwait true 8) } = true ∧ ((s.tile site).store 3).state = .completed ∧
    ((s.tile site).store 3).status = stOk ∧ issues t site { q := some (.qwait false 0x80000000) } = true ∧
    ((t.tile site).load 31).state = .completed ∧ ((t.tile site).load 31).status = stOk ∧
    (∀ r ∈ ((t.tile site).load 31).rows, (t.tile site).emptyLater.contains r = false ∧ (t.tile site).stepClear.contains r = false) ∧
    ((after (.qwait site false 0x80000000 {}) t).tile site).isFull 16 = true := by decide +kernel

/-- R97, R106, R111: the conditions of the waiting forms, met and not, with a flag word of 7. -/
theorem witness_WaitForms :
    let s := withRegs plain [(Reg.MX_FLAG.VALUE.on site 3, 7)]
    s.presents site = true ∧
    (∀ b ∈ [({ ctl := some (.twait 0 (rowAt 1 0) 3 1) } : Bundle), { ctl := some (.twait 1 (rowAt 1 0) 3 1) },
        { ctl := some (.twait 2 (rowAt 1 0) 3 1) }, { ctl := some (.twait 3 (rowAt 1 0) 3 1) },
        { ctl := some (.twait 4 (rowAt 1 0) 3 1) }, { q := some (.qwait false 1) },
        { net := some (.flag 2 3 1 0 false 0) }, { net := some (.flag 3 3 1 0 false 0) }],
      (s.settle site).fetchBad site b = none ∧ (s.settle site).bundleFault site b = none) ∧
    (s.tile site).pend = [] ∧ quiet s site = true ∧
    (after (.twait site 2 (rowAt 1 0) 3 1 {}) s).pc site = 1 ∧
    (after (.twait site 3 (rowAt 1 0) 3 1 {}) s).tfld site Reg.TC_WAIT_STATE.CAUSE = 5 ∧
    (after (.flagWaitEqual site 3 1 0 false 0 {}) s).tbit site Reg.TC_WAIT_STATE.WAITING = true := by decide +kernel

/-! ### The NET slot -/

/-- Register 6 names row 0 of tile 7 of wing 0 of this module, register 2 HBM offset 512. -/
def netted : State := tileOn { full := [0, 8, 9], scalars := [(1, 5), (6, 0x8000000000 + 7 * 2 ^ 23), (7, 7 * 2 ^ 24)] }

theorem witness_NetSlot :
    issues netted site { net := some (.send (rowAt 1 0) 1 6 0 false false 0) } = true ∧
    ((after (.send site (rowAt 1 0) 1 6 0 false false 0 {}) netted).tile site).queue .tile ≠ [] ∧
    issues netted site { net := some (.post (rowAt 1 0) 0 7 0 0) } = true ∧
    (((after (.post site (rowAt 1 0) 0 7 0 0 {}) netted).tile site).queue .tile).map (fun p => (p.kind, p.dstTile)) = [(1, 7)] ∧
    issues netted site { net := some (.rdrem (rowAt 2 0) 0 6 false) } = true ∧
    (∀ i, i < 1 → ∃ b, placeOf ((((netted.tile site).scalar 6).toNat + 512 * i) % 2 ^ 48) = .scratch 7 b) ∧
    ((after (.rdrem site (rowAt 2 0) 0 6 false {}) netted).tile site).claimOf 16 = some .remote := by
  refine ⟨by decide +kernel, by decide +kernel, by decide +kernel, by decide +kernel, by decide +kernel, fun i hi => ⟨0, ?_⟩, by decide +kernel⟩
  have : i = 0 := by omega
  subst this; decide +kernel

/-- R110, R267: barrier 3 expects the tile alone, so its one arrival completes it; barrier 4 is not valid. -/
theorem witness_BarrierArrival :
    let s := withRegs plain [(Reg.MX_BAR_CFG.PARENT.on site 3, 2 ^ 9 + 2 ^ 10)]
    issues s site { net := some (.bar 3 false) } = true ∧ s.tbit site Reg.MX_BAR_CFG.VALID 3 = true ∧
    s.tfld site Reg.MX_BAR_CFG.PARENT 3 ≠ 7 ∧ s.tbit site Reg.MX_BAR_CFG.LOCAL 3 = true ∧
    (after (.bar site 3 false {}) s).tfld site Reg.MX_BAR_STATE.GEN 3 = 1 ∧
    issues s site { net := some (.bar 4 false) } = true ∧ s.tbit site Reg.MX_BAR_CFG.VALID 4 = false ∧
    (after (.bar site 4 false {}) s).tfld site Reg.MX_ROUTER_STATUS.BAD_ARRIVALS = 1 := by decide +kernel

/-- R111, R270: flag word 63 is set, then wraps. -/
theorem witness_FlagUpdates :
    let s := withRegs (tileOn { full := [0], scalars := [(1, 0x1FFFFFFFF)] }) [(Reg.MX_FLAG.VALUE.on site 63, 2)]
    issues s site { net := some (.flag 0 63 1 0 false 0) } = true ∧ issues s site { net := some (.flag 1 63 1 0 true 0) } = true ∧
    (after (.flagSet site 63 1 0 false 0 {}) s).flagWord site 63 = 0xFFFFFFFF ∧
    (after (.flagAdd site 63 1 0 false 0 {}) s).flagWord site 63 = 1 ∧
    (((after (.flagSet site 63 1 0 true 0 {}) s).tile site).queue .tile).map (fun p => (p.kind, p.arg)) = [(0xB, 63)] ∧
    (((after (.flagAdd site 63 1 0 true 0 {}) s).tile site).queue .tile).map (fun p => (p.kind, p.arg)) = [(0xB, 127)] := by
  decide +kernel

/-! ### The ARR slot and events at a tile -/

/-- BF16 weights in the 4 rows of handle 1 from row 8 on, and a region of 8 accumulator rows. -/
def arrayOn (x : Tile) : State := regioned { x with full := [0, 8, 9, 10, 11, 12, 13, 14, 15] }

theorem witness_WeightLoads :
    issues (arrayOn {}) site { arr := some (.mload 4 (rowAt 1 0) (rowAt 1 0) (rowAt 1 0) false) } = true ∧
    ((arrayOn {}).loadRows site 4 false (rowAt 1 0) (rowAt 1 0) (rowAt 1 0) false).isSome = true ∧
    ((after (.mload site 4 (rowAt 1 0) (rowAt 1 0) (rowAt 1 0) false {}) (arrayOn {})).tile site).fill.isSome = true ∧
    issues (arrayOn {}) site { arr := some (.msparse 0 (rowAt 1 0) (rowAt 1 0)) } = true ∧
    ((arrayOn {}).loadRows site 0 true (rowAt 1 0) (rowAt 1 0) (rowAt 1 0) false).isSome = true := by decide +kernel

def weights : WeightSet := { fmt := 4, sparse := false, codes := [], idx := [], exps := [], side := [] }

theorem witness_StreamIssues :
    let s := arrayOn { active := some weights }
    issues s site { arr := some (.mstream 5 (rowAt 1 0) 1 ⟨0, 0⟩ 1 (rowAt 1 0) false false false) } = true ∧
    (s.streamVecs site 5 (rowAt 1 0) 1 2 false).isSome = true ∧
    ((after (.mstream site 5 (rowAt 1 0) 1 ⟨0, 0⟩ 1 (rowAt 1 0) false false false {}) s).tile site).feeder.map (·.count) = [2] := by
  decide +kernel

def stream (begun : Bool) : Stream := { afmt := 0, region := 0, row0 := 0, count := 2, next := 0, vecs := [⟨1, 8, 0, 1, some 9, 0⟩, ⟨1, 9, 0, 1, some 9, 0⟩], header := none, eAcc := 0, swap := true, inl := false, begun := begun, iss := 0, pc := 0 }
def codes : WeightSet := { weights with fmt := 0 }

/-- R143, R144, R148, R150: a stream begins and swaps the sets, a vector of zeros is skipped, a row is written, a fill ends. -/
theorem witness_ArrayEvents :
    let s := arrayOn { feeder := [stream false], shadow := some codes }
    let f := arrayOn { feeder := [stream true], active := some codes }
    let n := f.writeRun 0 (rowOffset 5 8) [1]
    let w := arrayOn { accWrites := [⟨3, some 4, [], [], 0, 0⟩], fill := some ⟨weights, [], 4⟩ }
    (s.tile site).feeder = stream false :: [] ∧ (after (.streamBeginFeed site) s |>.tile site).active = some codes ∧
    (f.tile site).feeder = stream true :: [] ∧ (f.tile site).active = some codes ∧ quiet f site = true ∧
    (f.tile site).vecUe ⟨1, 8, 0, 1, some 9, 0⟩ { corrected := 2 } = none ∧ quiet n site = true ∧ quiet w site = true ∧
    (∀ b ∈ f.vecBytes site 0 ⟨1, 8, 0, 1, some 9, 0⟩, b = 0) ∧
    (after (.vectorFeed site { corrected := 2 }) f).tfld site Reg.AY_SKIP_COUNT.SKIPPED = 1 ∧
    (after (.vectorFeed site { corrected := 2 }) f).tfld site Reg.SP_ECC_STATUS.CORRECTED = 2 ∧
    (¬ ∀ b ∈ n.vecBytes site 0 ⟨1, 8, 0, 1, some 9, 0⟩, b = 0) ∧
    (w.tile site).accWrites = ⟨3, some 4, [], [], 0, 0⟩ :: [] ∧ ((w.tile site).accRow 3).typ = 0 ∧ (some 4 : Option Nat) ≠ some 3 ∧
    (w.tile site).fill = some ⟨weights, [], 4⟩ ∧ (after (.weightFillComplete site) w |>.tile site).shadow = some weights := by
  decide +kernel

/-- R90, R188: a wait and a held row outlast their limits. R21: a 32-bit read held for the fuses is answered, and not one of a field
that the instar sets. -/
theorem witness_TileTimeouts :
    let s := after (.twait site 0 (rowAt 1 4) 0 0 {}) onRow10
    let h := tileOn { inbound := some { win := 0, row := 16, data := [] } }
    let f : State := { State.reset with host := { heldReads := [(0, 0x50004, 4), (0, 0x10038, 8)] } }
    canonical s = true ∧ s.presents site = true ∧ s.tbit site Reg.TC_WAIT_STATE.WAITING = true ∧
    s.tfld site Reg.TC_WAIT_STATE.CAUSE ≠ 6 ∧ s.tbit site Reg.TC_FAULT.VALID = false ∧
    (after (.waitTimeout site false) s).tfld site Reg.TC_FAULT.CAUSE = 9 ∧ canonical h = true ∧
    (h.tile site).inbound ≠ none ∧ (after (.inboundHoldTimeout site false) h).tfld site Reg.TC_FAULT.CAUSE = 15 ∧
    (0x100000000 : Word).getLsbD 32 = true ∧ s.up = true ∧
    (0 : Word).getLsbD 32 = false ∧ (f.rowAt 0 0x50000).isSome = true ∧ (f.rowAt 0 0x10038).isSome = true ∧ f.board.cfgLoaded = false ∧
    (after .fuseLoadComplete f).host.heldReads = [(0, 0x10038, 8)] ∧
    ((after .fuseLoadComplete f).host.answer.getD []).length = 4 := by decide +kernel

/-- R165, R184, R188, R189: a held row lands, a scrub of an empty and of a full row, and a held read. -/
theorem witness_RowEvents :
    let i : Inbound := { win := 0, row := 16, data := [7] }
    let h := tileOn { inbound := some i }
    let c := withRegs plain [(Reg.SP_SCRUB_CTL.PERIOD_MS.on site 0, 1)]
    let m := tileOn { full := [8], readPort := [⟨8, true, true, { kind := 3 }⟩] }
    (h.tile site).inbound = some i ∧ h.canLand site 16 = true ∧ (h.tile site).outsideEntry = none ∧ quiet h site = true ∧
    (h.tile site).emptyLater.contains 16 = false ∧ (h.tile site).stepClear.contains 16 = false ∧ (after (.inboundRowLand site) h |>.tile site).isFull 16 = true ∧
    c.tfld site Reg.SP_SCRUB_CTL.PERIOD_MS ≠ 0 ∧ c.rowDown site 16383 = false ∧ c.tileLive 0 5 = true ∧
    (c.tile site).isFull 16383 = false ∧ (c.tile site).isFull 8 = true ∧ canonical c = true ∧
    c.tbit site Reg.SP_ECC_STATUS.UE_VALID = false ∧
    (after (.spScrub site 8 ⟨1, some 31, false⟩) c).tfld site Reg.SP_ECC_STATUS.UE_CODEWORD = 31 ∧
    (after (.spScrub site 8 ⟨0, none, true⟩) c).tbit site Reg.SP_ECC_STATUS.UE_PARITY = true ∧
    (m.tile site).readPort = [⟨8, true, true, { kind := 3 }⟩] ∧ (m.tile site).heldWords = [] ∧ (m.tile site).pend = [] ∧ (m.tile site).isFull 8 = true ∧
    (m.tile site).rowUe 8 {} = none ∧
    ((after (.mergeHoldExpiry site 8) m).tile site).readPort = [] := by decide +kernel

/-- A stopped tile with an open entry for row 16 and an open window 15. -/
def stopped : State := (tileOn { full := [8], gathers := [⟨0, 16, [(0, 1)], none⟩], windows := [(15, { state := .opened, notify := true, fid := 9 })] }).setTfld site Reg.TC_RUN.RUN 0

theorem witness_TileRegisterWrites :
    Src.hawk ≠ .program ∧ quiet stopped site = true ∧ stopped.up = true ∧ stopped.tileLive 0 5 = true ∧
    stopped.tbit site Reg.TC_RUN.RUN = false ∧ (0x20001 : Word).getLsbD 0 = true ∧
    (let s := stopped.setFld Reg.CF_PROFILE.PROFILE 0 2
     s.fld Reg.CF_PROFILE.PROFILE site.wing = 2 ∧ (after (.tcRun site .hawk 0x20001) s).pc site = 1) ∧
    (stopped.setFld Reg.CF_PROFILE.PROFILE 0 1).fld Reg.CF_PROFILE.PROFILE site.wing = 1 ∧ (0x20000 : Word).getLsbD 0 = false ∧
    (0x1FFFFFFFF : Word).getLsbD 32 = true ∧ ((stopped.tile site).window 0).state = .closed ∧
    ((stopped.tile site).window 15).state = .opened ∧
    stopped.tfld site Reg.SP_WIN1.ADMITTED 15 = stopped.tfld site Reg.SP_WIN1.LANDED 15 ∧
    (after (.winClose site .hawk 15 false) stopped).flagWord site 9 = 1 ∧
    (let s := stopped.setTfld site Reg.SP_WIN1.ADMITTED 1 15
     s.tfld site Reg.SP_WIN1.ADMITTED 15 ≠ s.tfld site Reg.SP_WIN1.LANDED 15 ∧
       ((after (.winClose site .hawk 15 false) s).tile site).window 15 = { state := .closing, notify := true, fid := 9 }) ∧
    stopped.tcWriteFault site 0x48 1 = none ∧ (stopped.tile site).locked 8 = false ∧ (stopped.tile site).claimOf 8 = none ∧
    ((after (.tcTagEmpty site .hawk 1) stopped).tile site).isFull 8 = false ∧
    stopped.sealRow site 2 = some [⟨2, 16⟩] ∧ ((stopped.tile site).programEntry 16).isSome = true ∧
    (stopped.tile site).emptyLater.contains 16 = false ∧ (stopped.tile site).stepClear.contains 16 = false ∧
    (after (.tcGatherSeal site .hawk 2) stopped |>.tile site).isFull 16 = true := by decide +kernel

/-- R122: a running tile ignores a write of its saturation limit. -/
theorem witness_RunningTilesKeepTheirRegisters :
    Src.host ≠ .program ∧ plain.tbit site Reg.TC_RUN.RUN = true ∧
    (plain.rowAt 0 (tileAddr site 0x110)).map (fun x => (x.1, x.2.1)) = some (.tile, 0x110) ∧ tileOf 0 (tileAddr site 0x110) = site ∧
    (BitVec.ofNat 25 (tileAddr site 0x110)).toNat = tileAddr site 0x110 ∧ tileAddr site 0x110 % 8 = 0 ∧
    after (.registerWrite 0 .host (BitVec.ofNat 25 (tileAddr site 0x110)) 8 false 7) plain = plain ∧
    after (.satClear site .host 7) plain = plain := by decide +kernel

/-! ### The mesh -/

/-- Tile 5 also has window 0, open, that covers all of handle 2 and admits tiles of chips 0 to 7. -/
def windowed (x : Tile) : State :=
  withRegs (tileOn { x with full := [0, 8, 9], windows := [(0, { state := .opened })] })
    [(Reg.SP_WIN0.HANDLE.on site 0, 2 + 7 * 2 ^ 22 + 2 ^ 37 + 2 ^ 38), (Reg.SP_WIN1.CHIP_LO.on site 0, 7 * 2 ^ 16)]

def rowPk (row : Nat) : Packet := { kind := 0, arg := BitVec.ofNat 20 row, data := [7] }
def wordPk (row word : Nat) : Packet := { kind := 2, srcKind := 1, arg := BitVec.ofNat 20 (64 * row + word), data := [1, 2, 3, 4, 5, 6, 7, 8] }

/-- R185, R186, R188, R257, R261, R266, R355: a queue that is occupied; a reserved PLACE; the stage taken; a row that no window
admits, one that lands, one held; one of a stopped job; a word; a flag; a multicast row that goes on. -/
theorem witness_MeshArrivals :
    let s := windowed {}
    let o := s.setTile site { s.tile site with inq := [(dirCode .west, [rowPk 3])] }
    let f := s.setTile site { s.tile site with full := [0, 8, 9, 17] }
    let e := s.setTile site { s.tile site with gathers := [⟨3, 16, [(0, 1)], some 0⟩] }
    let l : State := { windowed {} with job := { img := some imago } }
    let m : Packet := { kind := 0, mcast := true, lo := 5, hi := 23, srcTile := 5, data := [7] }
    let goes (s : State) (k : BitVec 4) (p : Packet) : Bool := arrivalOuts site { p with kind := k } == [.tile] && s.passes site .west [.tile] { p with kind := k }
    o.passes site .west (arrivalOuts site (rowPk 16)) (rowPk 16) = false ∧
    ((after (.rowWrite site .west (rowPk 16) false) o).tile site).queue .west = [rowPk 3, rowPk 16] ∧
    canonical s = true ∧ s.tbit site Reg.MX_ROUTER_STATUS.UE_VALID = false ∧
    (after (.rowWrite site .west { rowPk 16 with place := 3 } false) s).tfld site Reg.MX_ROUTER_STATUS.UE_KIND = 1 ∧
    s.tileLive 0 5 = true ∧ quiet s site = true ∧ s.jobStopped 0 = false ∧ l.jobStopped 0 = true ∧
    goes s 0 (rowPk 8) = true ∧ goes s 1 (rowPk 7) = true ∧ goes s 2 (wordPk 16 63) = true ∧ goes s 0xB {kind := 0xB, arg := 67} = true ∧
    (after (.rowWrite site .west (rowPk 16) false) l).fld Reg.FB_DROP_COUNT.LATE 0 = 1 ∧
    (s.admission site 8 0 0 none true).toOption = none ∧
    (after (.rowWrite site .west (rowPk 8) false) s).tfld site Reg.SP_VIOL_COUNT.COUNT = 1 ∧
    ((after (.rowWrite site .west (rowPk 8) false) s).wing 0).reports = [(stWindowViolation, rowOffset 5 8)] ∧
    (s.admission site 23 0 0 none true).toOption = some 0 ∧ (s.admission site 24 0 0 none true).toOption = none ∧
    (s.admission site 23 0 0 none false).toOption = none ∧ (after (.rowWrite site .west { rowPk 23 with addr := 8 } false) s).tfld site Reg.SP_VIOL_COUNT.COUNT = 1 ∧
    s.canLand site 16 = true ∧ (s.tile site).outsideEntry = none ∧ (s.tile site).emptyLater.contains 16 = false ∧
    (s.tile site).stepClear.contains 16 = false ∧
    memRead (after (.rowWrite site .west (rowPk 16) false) s).mem (wingAddr 0 (rowOffset 5 16)) = 7 ∧
    f.canLand site 17 = false ∧ (f.admission site 17 0 0 none true).toOption = some 0 ∧ quiet f site = true ∧
    ((after (.rowWrite site .west (rowPk 17) false) f).tile site).inbound ≠ none ∧
    s.postRow site { rowPk 7 with win := 0 } = 23 ∧ (s.admission site 23 0 0 (some 0) true).toOption = some 0 ∧
    (s.admission site 16 0 0 (some 1) true).toOption = none ∧
    wordAligned (wordPk 16 63) = true ∧ (s.admission site 16 1 0 none true).toOption = some 0 ∧
    ((after (.wordWrite site .west (wordPk 16 63) false) s).tile site).claimOf 16 = some (.gather 3) ∧
    (e.tile site).outsideEntry = some ⟨3, 16, [(0, 1)], some 0⟩ ∧ goes e 2 (wordPk 16 63) = true ∧ quiet e site = true ∧
    ((after (.wordWrite site .west (wordPk 16 63) false) e).tile site).outsideEntry.map (·.bytes.length) = some 9 ∧
    (after (.flagOp site .west { kind := 0xB, arg := 64 + 3, data := [9] } false) s).flagWord site 3 = 9 ∧
    arrivalOuts site m = [.east] ∧ s.passes site .west [.east] m = true ∧
    ((after (.rowWrite site .west m false) s).tile ⟨0, 6⟩).queue .west = [m] := by decide +kernel

/-- R181, R189: a read of a resident row is refused, one of a full row is answered, one of an empty row waits; words, data, and a
packet that goes on. -/
theorem witness_MeshReads :
    let s := windowed {}
    let f := s.setTile site { s.tile site with full := [0, 16] }
    let rd (row : Nat) : Packet := { kind := 3, arg := BitVec.ofNat 20 row, srcTile := 7, rrow := 9 }
    let goes (s : State) (p : Packet) : Bool := arrivalOuts site p == [.tile] && s.passes site .east [.tile] p
    s.tileLive 0 5 = true ∧ quiet s site = true ∧ quiet f site = true ∧ s.jobStopped 0 = false ∧
    goes s (rd 8) = true ∧ goes s (rd 16) = true ∧ goes f (rd 16) = true ∧ goes s { kind := 4, rrow := 16 } = true ∧
    goes s { kind := 5, rrow := 16, reqs := [⟨5, 0, 16⟩] } = true ∧ goes s { kind := 6, rrow := 16, status := 4 } = true ∧
    goes s { kind := 7, arg := 64 * 8, srcKind := 1 } = true ∧
    s.handleOf site 8 = some 1 ∧ (s.handle site 1).mode = 2 ∧ s.handleOf site 24 = none ∧ s.rowDown site 16 = false ∧
    s.handleOf site 16 = some 2 ∧ (s.handle site 2).mode ≠ 2 ∧ (rd 16).arg.toNat.testBit 14 = false ∧
    (s.tile site).isFull 16 = false ∧ (f.tile site).isFull 16 = true ∧ (f.tile site).rowUe 16 {} = none ∧
    (((after (.readReq site .east (rd 8) false) s).tile site).queue .tile).map (fun p => (p.kind, p.status)) = [(6, 4)] ∧
    (((after (.readReq site .east { rd 16 with addr := 8 } false) f).tile site).queue .tile).map (fun p => (p.kind, p.status)) = [(6, 4)] ∧
    (((after (.readReq site .east (rd 16) false) f).tile site).queue .tile).map (fun p => (p.kind, p.dstTile, p.rrow)) = [(4, 7, 9)] ∧
    ((after (.readReq site .east (rd 16) false) s).tile site).readPort.length = 1 ∧
    (s.tile site).emptyLater.contains 16 = false ∧ (s.tile site).stepClear.contains 16 = false ∧ canonical s = true ∧
    ((after (.readData site .east { kind := 4, rrow := 16, data := [5] } false) s).tile site).isFull 16 = true ∧
    ((after (.readMerged site .east { kind := 5, rrow := 16, data := [5], reqs := [⟨5, 0, 16⟩] } false) s).tile site).isFull 16 = true ∧
    ((after (.readStatus site .east { kind := 6, rrow := 16, status := 4 } false) s).tbit site Reg.TC_RUN.RUN) = false ∧
    (f.tile site).isFull 16 = true := by decide +kernel

/-- R109, R159, R256, R257: words of a tile, and what a router forwards. -/
theorem witness_MeshReads_words :
    let s := windowed {}
    let q := State.reset.setTile site { inq := [(dirCode .tile, [{ kind := 0, dstTile := 6 }])] }
    let w := State.reset.setTile site { inq := [(dirCode .east, [{ kind := 8, place := 2 }])] }
    wordAligned { kind := 7, arg := 64 * 8, srcKind := 1 } = true ∧ s.rowDown site 8 = false ∧
    (((after (.wordRead site .east { kind := 7, arg := 64 * 8, srcKind := 1 } false) s).tile site).queue .tile).map (fun p => (p.kind, p.place)) = [(8, 2)] ∧
    wordAligned { kind := 7, arg := 64 * 8 } = false ∧
    (((after (.wordRead site .east { kind := 7, arg := 64 * 8 } false) s).tile site).queue .tile).map (fun p => (p.kind, p.status)) = [(6, 4)] ∧
    State.reset.passes ⟨0, 0⟩ .west [.rowPort] { kind := 8 } = true ∧ w.passes site .east [.rowPort] { kind := 8 } = false ∧
    ((after (.wordData ⟨0, 0⟩ .west { kind := 8 } false) State.reset).wing 0).toHawk.length = 1 ∧
    ((after (.wordData site .east { kind := 8 } false) w).tile site).queue .east = [{ kind := 8, place := 2 }, { kind := 8, place := 2 }] ∧
    hasLink site .east = true ∧ site.tile.toNat < 576 ∧ State.reset.nextInput site .east = none ∧
    q.nextInput site .east = some .tile ∧ reservedPacket { kind := 0, dstTile := 6 } = false ∧
    outputsOf site { kind := 0, dstTile := 6 } = [.east] ∧
    ((after (.meshForward site .east {} false) q).tile ⟨0, 6⟩).queue .west = [{ kind := 0, dstTile := 6 }] ∧
    State.reset.bridgeOk 0 0 = false ∧ (State.reset.setFld Reg.MX_BRIDGE_STATUS.LINK_OK 0 1).bridgeOk 0 0 = true := by
  decide +kernel

/-! ### Links -/

/-- Wing 0 is chip 2 and runs a job of epoch 1; port 0 is a trained fabric port that the plan uses; chip 3 is wing 1. -/
def upRegs : List (Nat × Nat) :=
  [(Reg.FB_CHIP_ID.CHIP.at 0 0, 2), (Reg.FB_CHIP_ID.CHIP.at 1 0, 3), (Reg.FB_JOB.EPOCH.at 0 0, 0x101),
   (Reg.FB_PORT_CFG.ROLE.at 0 0, 0), (Reg.FB_PORT_STATUS.STATE.at 0 0, 2 + 15 * 8), (Reg.FB_PORT_VERDICT.VERDICT.at 0 0, 1),
   (Reg.FB_ROUTE_BANK0.PORTS.at 0 2, 0x200), (Reg.FB_ROUTE_BANK0.PORTS.at 0 3, 0x300), (Reg.FB_NBR1.CHIP.at 0 0, 3)]
def linked (x : Wing) : State := (withRegs State.reset upRegs).setWing 0 x
def frameOf (seq : BitVec 8) (c : Option Control) (h : Option FPacket) : Frame := { seq := seq, vc := 0, tail := false, crVc := 1, crCount := 3, head := h, ctrl := c.map (fun x => controlBytes x seq) }
def port0 (q : Port) : Wing := { ports := [(0, q)] }
def sent (seq : BitVec 8) (n : Nat) : SentFrame := ⟨frameOf seq none none, n⟩
def helloFrom (n : BitVec 64) : Hello := ⟨n, false, 0, 0, 1, 0, 1, 3, 0⟩

/-- R323 to R329, R375 to R380: frames, acknowledgements, resends, poison, a lost lane, training and HELLO records. -/
theorem witness_LinkLayer :
    let s := linked {}
    let r := linked (port0 { replay := [sent 0 0, sent 1 3, sent 2 0], txSeq := 3 })
    let d := linked (port0 { discard := [1] })
    let h := linked (port0 { firstHello := some (7, false, 0) })
    State.reset.trained 0 0 = false ∧ s.trained 0 0 = true ∧ ((s.wing 0).port 0).control = [] ∧ ((s.wing 0).port 0).out = [] ∧
    ((s.wing 0).port 0).replay.length < 256 ∧ ((s.wing 0).port 0).nakOpen = false ∧
    ((after (.frameReceive 0 0 (frameOf 9 (some .idle) none) ⟨0, false⟩) s).wing 0 |>.port 0).nakOpen = true ∧
    (frameOf 9 none none).seq ≠ ((s.wing 0).port 0).rxSeq ∧ (frameOf 0 (some .idle) none).seq = ((s.wing 0).port 0).rxSeq ∧
    controlOf (controlBytes .idle 0) = .idle ∧
    (((after (.frameReceive 0 0 (frameOf 0 (some .idle) none) {}) s).wing 0).port 0).credit 1 = 6 ∧
    ((s.wing 0).port 0).discard.contains 0 = false ∧
    (((after (.frameReceive 0 0 (frameOf 0 none (some { kind := 0 })) {}) s).wing 0).port 0).partialOf 0 = some ({ kind := 0 }, false) ∧
    ((r.wing 0).port 0).replay = [sent 0 0] ++ sent 1 3 :: [sent 2 0] ∧ (sent 1 3).frame.seq = 1 ∧
    (((after (.ack 0 0 1) r).wing 0).port 0).replay = [sent 2 0] ∧ (sent 0 0).resent ≠ 3 ∧ (sent 1 3).resent = 3 ∧
    (withinMs (r.timeOf 0) ((r.wing 0).port 0).poisons).length < 15 ∧ (after (.nak 0 0 0) r).fld Reg.FB_PORT_ERR.RETRIES 0 0 = 3 ∧
    (((after (.nak 0 0 1) r).wing 0).port 0).poisons = [0] ∧ (∀ x ∈ ((r.wing 0).port 0).replay, x.frame.seq ≠ 9) ∧
    ((d.wing 0).port 0).discard.contains 1 = true ∧ ((s.wing 0).port 0).partialOf 1 = none ∧
    (((after (.poison 0 0 0 1 true) d).wing 0).port 0).discard = [] ∧ canonical s = true ∧
    s.fld Reg.FB_PORT_STATUS.STATE 0 0 = 2 ∧
    (after (.laneLockLoss 0 0 3) (s.setFld Reg.FB_JOB.LOADED 0 0)).fld Reg.FB_PORT_STATUS.STATE 0 0 = 0 ∧ s.roleOf 0 7 = 3 ∧ s.roleOf 0 0 ≠ 3 ∧ s.up = true ∧
    (((after (.portTrained 0 0 40) s).wing 0).port 0).txSeq = 1 ∧
    ((s.wing 0).port 0).firstHello.getD (7, false, 0) = (7, false, 0) ∧
    (after (.hello 0 0 (helloFrom 7)) s).bit Reg.FB_NBR1.VALID 0 0 = true ∧
    ((h.wing 0).port 0).firstHello.getD (8, false, 0) ≠ (8, false, 0) ∧ canonical h = true ∧ s.trained 0 1 = false ∧
    (after (.helloTimer 0 1) s).fld Reg.FB_PORT_STATUS.STATE 0 1 = 1 ∧
    (((after (.helloTimer 0 0) s).wing 0).port 0).replay.length = 1 ∧
    (after (.hello 0 0 (helloFrom 8)) (h.setFld Reg.FB_JOB.LOADED 0 0)).bit Reg.FB_NBR1.CHANGED 0 0 = true := by decide +kernel

/-- R329, R334: a port that a route in force uses goes down: the job stops. -/
theorem witness_LinkLayer_routes :
    let s := withRegs (linked {}) [(Reg.FB_ROUTE_BANK0.PORTS.at 0 3, 0x201)]
    let p := linked (port0 { partialPkt := [(1, some ({ kind := 0 }, false))] })
    canonical s = true ∧ s.inRoutes 0 0 = true ∧ (after (.laneLockLoss 0 0 0) s).loaded 0 = false ∧
    ((p.wing 0).port 0).discard.contains 1 = false ∧ ((p.wing 0).port 0).partialOf 1 = some ({ kind := 0 }, false) ∧
    (((after (.poison 0 0 0 1 false) p).wing 0).port 0).partialOf 1 = some ({ kind := 0 }, true) := by decide +kernel

/-! ### Stops -/

/-- R597, R599, R600, R617: the conditions of the four commands that stop a wing, met and not. -/
theorem witness_Stops :
    let s := linked {}
    let o := s.setFld Reg.CF_STOP_RECORD0.VALID 1 1
    canonical s = true ∧ stopsJob 1 = true ∧ stopsJob 0xA = true ∧ stopsJob 2 = false ∧ stopsJob 9 = false ∧
    (after (.jobStop 0 7 6 0xFFFF) s).fld Reg.CF_STOP_RECORD0.LOCUS 0 = 0xFFFF ∧
    s.loaded 0 = true ∧ s.fld Reg.FB_JOB.EPOCH 0 = (1 : BitVec 8).toNat ∧
    (s.route 0 (s.fld Reg.FB_NBR1.CHIP 0 0)).2.1 = true ∧
    (after (.stop 0 0 1 7 3) s).fld Reg.CF_STOP_RECORD0.SOURCE 0 = 9 ∧ after (.stop 0 0 2 7 3) s = s ∧
    canonical o = true ∧ o.bit Reg.CF_STOP_RECORD0.VALID (otherWing 0) = true ∧ s.bit Reg.CF_STOP_RECORD0.VALID (otherWing 0) = false ∧
    (after (.otherWingStop 0) o).fld Reg.CF_STOP_RECORD0.SOURCE 0 = 8 ∧ s.up = true ∧ (3 : Word).getLsbD 0 = true ∧
    (after (.cfJobStop 0 3) s).fld Reg.CF_STOP_RECORD0.STATUS 0 = 1 ∧ (2 : Word).getLsbD 0 = false := by decide +kernel

/-! ### The fabric router -/

def pk (kind : BitVec 4) : FPacket := { kind := kind, dstChip := 2, srcChip := 3, epoch := 1, dstTile := 5 }
def flagRx (n : Nat) : FlagRx := { chip := 3, dstKind := 1, dstTile := 5, chan := 0, msg := 0, handed := n, taken := 0, dropped := false, mcount := none, held := none }

/-- R332, R333, R342 to R348: a late packet, a bad header, delivery to the mesh, the hawk cores and HBM, strict order, a flagged
packet, a dead route, the wing's own packets and COMPLETE. -/
theorem witness_FabricArrivals :
    let s := linked {}
    let x := linked { strict := [(strictKey 3 0, { nextTx := 40, unacked := 32 })] }
    let y := linked { strict := [(strictKey 3 0, { nextTx := 40, unacked := 31 })] }
    let z := (linked {}).setWing 1 { crossing := [pk 4] }
    let n := (linked {}).setFld Reg.FB_CHIP_ID.CHIP 0 0xFFFF
    s.carries 0 0 = true ∧ s.chip 0 ≠ 0xFFFF ∧ s.loaded 0 = true ∧ (pk 4).epoch.toNat = s.fld Reg.FB_JOB.EPOCH 0 ∧
    ({ pk 4 with epoch := 2 } : FPacket).epoch.toNat ≠ s.fld Reg.FB_JOB.EPOCH 0 ∧
    (after (.fabricPacketReceive 0 0 { pk 4 with epoch := 2 }) s).fld Reg.FB_DROP_COUNT.LATE 0 = 1 ∧ s.roleOf 0 0 = 0 ∧
    (s.wing 0).heldIn = [] ∧ (s.route 0 2).2.1 = true ∧ (pk 4).dstChip.toNat = s.chip 0 ∧
    badHeader { pk 4 with poison := true } = true ∧ badHeader (pk 4) = false ∧ inStream (pk 4).order 4 = false ∧ noPlace (pk 4) = false ∧
    ((after (.fabricPacketReceive 0 0 (pk 4)) s).tile (siteAt 0 0 (portCol 0))).queue .rowPort = [toMesh (pk 4)] ∧
    ((after (.fabricPacketReceive 0 0 { pk 4 with dstKind := 1 }) s).wing 0).toHawk.length = 1 ∧
    ((after (.fabricPacketReceive 0 0 { pk 4 with dstKind := 2 }) s).wing 0).toHbm.length = 1 ∧ inStream (pk 0).order 0 = true ∧ noPlace (pk 0) = true ∧
    ((after (.fabricPacketReceive 0 0 (pk 0)) s).wing 0).reports = [(stWindowViolation, 0)] ∧ ((s.wing 0).strictOf 3 0).early = [] ∧
    (z.wing (otherWing 0)).crossing.contains (pk 4) = true ∧ inStream true 0 = true ∧
    ((s.wing 0).strictOf 3 0).nextRx = 0 ∧ ((s.wing 0).strictOf 3 0).owedAck < 7 ∧
    ((after (.fabricPacketReceive 0 0 { pk 0 with dstKind := 1 }) s).wing 0).strictOf 3 0 = { nextRx := 1, owedAck := 1 } ∧
    (s.wing 0).reorderFlits + flitsOf (pk 0) ≤ 16384 ∧
    (((after (.fabricPacketReceive 0 0 { pk 0 with dstKind := 1, pseq := 1 }) s).wing 0).strictOf 3 0).early.length = 1 ∧
    (s.wing 0).flagRx = [] ∧
    (((after (.fabricPacketReceive 0 0 { pk 0 with dstKind := 1, order := true }) s).wing 0).flagRx).map (·.handed) = [1] ∧
    (((after (.fabricPacketReceive 0 0 { pk 0 with dstKind := 1, order := true, flag := true, mcount := 2 }) s).wing 0).flagRx).map (·.mcount) = [some 2] ∧
    (s.route 0 (legTarget { pk 0 with dstChip := 9 })).2.1 = false ∧ ({ pk 0 with dstChip := 9 } : FPacket).dstChip.toNat ≠ s.chip 0 ∧
    (withRegs State.reset [(Reg.FB_CHIP_ID.CHIP.at 0 0, 2)]).loaded 0 = false ∧
    ({ pk 0 with dstChip := 3 } : FPacket).dstChip.toNat < 0x1100 ∧ s.flagChan 0 0 = false ∧ (s.wing 0).fabricWait = [] ∧
    ((y.wing 0).strictOf 3 0).unacked < 32 ∧ 32 ≤ ((x.wing 0).strictOf 3 0).unacked ∧
    ((after (.fabricPacketReceive 0 9 { pk 0 with dstChip := 3 }) x).wing 0).fabricWait.length = 1 ∧
    (((after (.complete 0 { pk 0xD with arg := 39 }) x).wing 0).strictOf 3 0).unacked = 0 ∧
    ({ pk 0 with dstChip := 3 } : FPacket).dstChip.toNat ≠ s.chip 0 ∧ inStream false 0 = true ∧
    (((after (.fabricPacketReceive 0 9 { pk 0 with dstChip := 3, vclass := false }) y).wing 0).strictOf 3 0).unacked = 32 ∧
    ((after (.complete 0 { pk 0xD with arg := 40 }) x).wing 0).strictOf 3 0 = { nextTx := 40, unacked := 32 } ∧
    badHeader { pk 0xD with arg := 40, kind := 0xD } = false ∧ n.chip 0 = 0xFFFF ∧ after (.complete 0 (pk 0xD)) n = n := by decide +kernel

/-- R332, R333, R337: a late COMPLETE, one with a bad header, and a packet that the wing offers to itself. -/
theorem witness_FabricArrivals_own :
    let s := linked {}
    s.chip 0 ≠ 0xFFFF ∧ s.lateAt 0 { pk 0xD with epoch := 2 } = true ∧ s.lateAt 0 (pk 0xD) = false ∧
    (after (.complete 0 { pk 0xD with epoch := 2 }) s).fld Reg.FB_DROP_COUNT.LATE 0 = 1 ∧
    badHeader { pk 0xD with poison := true, kind := 0xD } = true ∧
    (after (.complete 0 { pk 0xD with poison := true }) s).fld Reg.FB_DROP_COUNT.DISCARDED 0 = 1 ∧
    inStream (s.flagChan 0 0) 4 = false ∧ badHeader (s.stamp 0 { pk 4 with dstKind := 1 }) = false ∧
    ((after (.fabricPacketReceive 0 9 { pk 4 with dstKind := 1 }) s).wing 0).toHawk = [s.stamp 0 { pk 4 with dstKind := 1 }] := by
  decide +kernel

/-- R344 to R347: COMPLETE of a flag message; verdicts. -/
theorem witness_FabricArrivals_flags :
    let f : FlagTx := { chip := 3, dstKind := 0, dstTile := 5, chan := 0, msg := 2, sent := 0, openMsgs := [(1, false)] }
    let c : FPacket := { kind := 0xD, srcChip := 3, srcTile := 5, dstChip := 2, epoch := 1, arg := 1 }
    let s := (linked { flagTx := [f] }).setFld Reg.FB_CHAN_CFG.ORDER 0 1
    let v : Verdict := { chip := 3, chan := 0, dstKind := 1, dstTile := 5, msg := 0, taken := true }
    let m := linked { flagRx := [flagRx 1], verdicts := [v] }
    s.flagChan 0 0 = true ∧ (s.wing 0).fabricWait = [] ∧ (s.wing 0).flagTx = [f] ∧ f.chip = c.srcChip ∧ f.chan = c.chan ∧
    f.dstKind = 0 ∧ c.srcKind = 0 ∧ f.dstTile = c.srcTile ∧ (1, false) ∈ f.openMsgs ∧ (1 : BitVec 8) = BitVec.ofNat 8 c.arg.toNat ∧ badHeader c = false ∧ s.lateAt 0 c = false ∧
    (m.wing 0).verdicts.contains v = true ∧ ((after (.verdict 0 3 0 1 5 0 true) m).wing 0).verdicts = [] ∧
    ((after (.complete 0 c) s).wing 0).flagTx = [{ f with openMsgs := [] }] ∧
    (m.wing 0).flagRx = [flagRx 1] ∧ (m.wing 0).heldIn = [] ∧ (flagRx 1).mcount = none ∧
    ((after (.verdict 0 3 0 1 5 0 true) m).wing 0).flagRx = [{ flagRx 1 with taken := 1 }] ∧
    ((linked {}).wing 0).verdicts.contains v = false := by decide +kernel

/-- R343, R349, R385, R386: an owed acknowledgement, a held flagged packet, sweeps at their last place, and a sample. -/
theorem witness_FabricTimers :
    let a := linked { strict := [(strictKey 3 0, { owedAck := 2 })] }
    let h := linked { flagRx := [{ flagRx 1 with held := some (pk 0) }] }
    let s := linked {}
    let n := (linked {}).setFld Reg.FB_CHIP_ID.CHIP 0 0xFFFF
    let t := linked { flagRx := [{ flagRx 1 with mcount := some 2 }] }
    let nib (p : FPacket) (n : Nat) := p.arg.toNat / 16 ^ (n - 1) % 16
    ((a.wing 0).strictOf 3 0).owedAck ≠ 0 ∧ ((s.wing 0).strictOf 3 0).owedAck = 0 ∧ a.chip 0 ≠ 0xFFFF ∧
    ((after (.strictAckTimer 0 3 0) a).wing 0).strictOf 3 0 = {} ∧
    ((h.wing 0).flagRx.find? (·.isOf 3 0 1 5 0)).bind (·.held) = some (pk 0) ∧ canonical h = true ∧
    (after (.flagHoldTimeout 0 3 0 1 5 0 false) h).fld Reg.CF_STOP_RECORD0.SOURCE 0 = 5 ∧
    ((s.wing 0).flagRx.find? (·.isOf 3 0 1 5 0)) = none ∧
    nib { pk 0xE with arg := 0xF } 0 = 15 ∧ nib { pk 0xE with arg := 0xF0 } 1 ≠ 15 ∧ (1 : BitVec 4).toNat < 8 ∧
    ((after (.sweep 0 9 { pk 0xE with arg := 0xF }) s).wing 0).toHawk.length = 1 ∧ s.carries 0 0 = true ∧
    nib { pk 0xE with arg := 0xF0 } (1 + 1) = 15 ∧ nib { pk 0xE with arg := 8 } 1 = 8 ∧ nib { pk 0xE with arg := 9 } 1 = 9 ∧
    s.sweepRoom 0 { pk 0xE with arg := 8, nflits := 1 } 8 = true ∧
    ((after (.sweep 0 9 { pk 0xE with arg := 8, nflits := 1 }) s).wing 0).crossing.length = 1 ∧
    (after (.sweep 0 9 { pk 0xE with arg := 9, nflits := 1 }) s).fld Reg.FB_DROP_COUNT.DISCARDED 0 = 1 ∧
    ((after (.sweep 0 0 { pk 0xE with arg := 0xF0, nflits := 1 }) s).wing 0).toHawk.map (·.data.length) = [64] ∧
    (pk 0xE).poison = false ∧ (pk 0xE).pcrcOk = true ∧ (n.chip 0 = 0xFFFF) ∧ after (.sweep 0 9 (pk 0xE)) n = n ∧
    ((t.wing 0).flagRx.find? (·.isOf 3 0 1 5 0)).map (fun m => (m.held, m.mcount)) = some (none, some 2) ∧
    (after (.flagHoldTimeout 0 3 0 1 5 0 true) t).fld Reg.AU_TDC_TOTAL.TOTAL 0 = 1 ∧
    (after (.sweep 0 0 { pk 0xE with epoch := 2 }) s).fld Reg.FB_DROP_COUNT.LATE 0 = 1 ∧
    (after (.occSample 0 8) s).fld Reg.FB_OCC_HIST.BIN_EVEN 0 32 = 1 := by decide +kernel

/-- R267, R268, R352: arrivals and releases in the mesh and across the fabric, with one child on chip 3 tile 7 and a parent on
chip 3 tile 8. -/
theorem witness_Barriers :
    let m := withRegs plain [(Reg.MX_BAR_CFG.PARENT.on site 3, 1 + 2 * 8 + 2 ^ 9 + 2 ^ 10)]
    m.passes site .east [.tile] { kind := 9, arg := 3 } = true ∧
    m.passes site .west [.tile] { kind := 0xA, arg := 3 } = true ∧
    m.passes site .west [.tile] { kind := 9, arg := 3 } = true ∧
    m.passes site .east [.tile] { kind := 0xA, arg := 3 } = true ∧
    (after (.barRelease site .east { kind := 0xA, arg := 3 } false) m).tfld site Reg.MX_ROUTER_STATUS.BAD_ARRIVALS = 1 ∧
    m.barUsable site 3 = true ∧ m.barChild site 3 .east = true ∧ m.barChild site 3 .west = false ∧
    m.tfld site Reg.MX_BAR_STATE.PENDING 3 < 7 ∧ (m.tile site).queue .east = [] ∧
    (after (.barArrive site .east { kind := 9, arg := 3 } false) m).tfld site Reg.MX_BAR_STATE.ARRIVED 3 = 1 ∧
    (after (.barArrive site .west { kind := 9, arg := 3 } false) m).tfld site Reg.MX_ROUTER_STATUS.BAD_ARRIVALS = 1 ∧
    m.tfld site Reg.MX_BAR_CFG.PARENT 3 = dirCode .west ∧ ((m.tile site).bar 3).queue = [] ∧
    (after (.barRelease site .west { kind := 0xA, arg := 3 } false) m).tfld site Reg.MX_BAR_STATE.GEN 3 = 1 := by decide +kernel

/-- R267, R332, R333, R352: the same barrier across the fabric: an arrival of the child, a release of the parent, a late packet and a
bad one, and the local arrival that goes to the parent chip. -/
theorem witness_Barriers_fabric :
    let f := withRegs (linked {}) [(Reg.FB_BAR0.LOCAL_TILE.at 0 4, 5 + 3 * 2 ^ 10 + 1 * 2 ^ 14 + 2 ^ 17 + 2 ^ 18),
      (Reg.FB_BAR1.PARENT_CHIP.at 0 4, 3 + 8 * 2 ^ 16), (regAddr 0 .fb (0x410 + 0x40 * 4), 3 + 7 * 2 ^ 16)]
    let c : FPacket := { kind := 9, srcChip := 3, srcTile := 7, dstTile := 5, dstChip := 2, epoch := 1, arg := 3 }
    let r : FPacket := { kind := 0xA, srcChip := 3, srcTile := 8, dstTile := 5, dstChip := 2, epoch := 1, arg := 3 }
    f.lateAt 0 c = false ∧ badHeader { c with kind := 9 } = false ∧ f.lateAt 0 { c with epoch := 2 } = true ∧
    badHeader { c with poison := true, kind := 9 } = true ∧
    (after (.fbBarChildArrive 0 { c with epoch := 2 }) f).fld Reg.FB_DROP_COUNT.LATE 0 = 1 ∧
    (after (.fbBarParentRelease 0 { r with poison := true }) f).fld Reg.FB_DROP_COUNT.DISCARDED 0 = 1 ∧
    f.loaded 0 = true ∧ (f.wing 0).heldIn = [] ∧ f.fld Reg.FB_BAR1.PARENT_CHIP 0 4 ≠ f.chip 0 ∧
    ((after (.fbBarLocalArrive 0 5 3) f).wing 0).crossing.map (fun q => (q.kind, q.dstChip, q.dstTile, q.srcTile, q.vclass)) = [(9, 3, 8, 5, true)] ∧
    f.fbEntry 0 5 3 = some 4 ∧ f.fbEntry 0 5 4 = none ∧ (f.fbBar 0 4).hasParent = true ∧ f.chip 0 ≠ 0xFFFF ∧
    (f.fbChildren 0 4).contains (3, 7) = true ∧ (f.fbChildren 0 4).contains (3, 8) = false ∧
    f.bit Reg.FB_BAR1.WAITREL 0 4 = false ∧ f.fld Reg.FB_BAR1.ARRIVED 0 4 + 1 = (f.fbBar 0 4).nchild ∧
    (after (.fbBarChildArrive 0 c) f).bit Reg.FB_BAR1.WAITREL 0 4 = true ∧ f.fld Reg.FB_BAR1.PARENT_CHIP 0 4 = 3 ∧
    f.fld Reg.FB_BAR1.PARENT_TILE 0 4 = 8 ∧
    (((after (.fbBarParentRelease 0 r) f).tile site).queue .rowPort).map (·.kind) = [0xA] ∧
    (after (.fbBarLocalArrive 0 5 4) f).fld Reg.FB_DROP_COUNT.DISCARDED 0 = 1 := by decide +kernel

/-- R352: an entry without children or a parent; two children of which none has arrived; a wing without a job. -/
theorem witness_Barriers_local :
    let e (n : Nat) := withRegs (linked {}) [(Reg.FB_BAR0.LOCAL_TILE.at 0 4, n)]
    let n := (e (5 + 3 * 2 ^ 10 + 2 ^ 17 + 2 ^ 18)).setFld Reg.FB_JOB.LOADED 0 0
    ((e (5 + 3 * 2 ^ 10 + 2 ^ 18)).fbBar 0 4).hasParent = false ∧ (e (5 + 3 * 2 ^ 10 + 2 ^ 18)).fbEntry 0 5 3 = some 4 ∧
    (e (5 + 3 * 2 ^ 10 + 2 ^ 18)).fbChildren 0 4 = [] ∧ (e (5 + 3 * 2 ^ 10 + 2 ^ 18)).fld Reg.FB_BAR1.PENDING 0 4 = 0 ∧
    ((e (5 + 3 * 2 ^ 10 + 2 ^ 18)).wing 0).heldIn = [] ∧
    (after (.fbBarLocalRelease 0 5 3) (e (5 + 3 * 2 ^ 10 + 2 ^ 18))).fld Reg.FB_BAR1.GEN 0 4 = 1 ∧
    (n.fbBar 0 4).hasParent = true ∧ n.loaded 0 = false ∧
    (after (.fbBarLocalArrive 0 5 3) n).fld Reg.FB_DROP_COUNT.LATE 0 = 1 ∧
    (e (5 + 3 * 2 ^ 10 + 2 * 2 ^ 14 + 2 ^ 18)).fld Reg.FB_BAR1.ARRIVED 0 4 + 1 <
      ((e (5 + 3 * 2 ^ 10 + 2 * 2 ^ 14 + 2 ^ 18)).fbBar 0 4).nchild ∧
    ((e (5 + 3 * 2 ^ 10 + 2 * 2 ^ 14 + 2 ^ 18)).setFld Reg.FB_BAR1.WAITREL 0 1 4).bit Reg.FB_BAR1.WAITREL 0 4 = true := by
  decide +kernel

/-! ### Machine time and the step counter -/

/-- Wing 0 without a job; child port 8 (the other wing), no parent; and a wing whose parent is port 0. -/
def rootWing (x : Wing) : State := (withRegs State.reset [(Reg.TB_TREE.PARENT.at 0 0, 15 + 2 ^ 12), (Reg.TB_TIME.TIME.at 0 0, 1000)]).setWing 0 x
def leafWing (x : Wing) : State := (withRegs State.reset (upRegs ++ [(Reg.TB_TREE.PARENT.at 0 0, 0), (Reg.TB_TIME.TIME.at 0 0, 1000)])).setWing 0 x

/-- R387, R389, R390: the records of machine time, at the bounds of the offset (2 and 16 units), with and without a job. -/
theorem witness_MachineTime :
    let r := rootWing { time := { echo := [(8, (40, 50))] } }
    let l := leafWing {}
    let n := l.setFld Reg.FB_JOB.LOADED 0 0
    let k := leafWing (port0 { nakOpen := true })
    let alone := withRegs State.reset [(Reg.TB_TREE.PARENT.at 0 0, 15)]
    alone.childPorts 0 = [] ∧ alone.parentPort 0 = none ∧ r.childPorts 0 = [8] ∧ r.parentPort 0 = none ∧
    (r.wing 0).time.echo.find? (fun e => e.1 == 8) = some (8, (40, 50)) ∧ l.childPorts 0 = [] ∧ l.parentPort 0 = some 0 ∧
    after (.timesyncTimer 0) alone = alone ∧ r.up = true ∧ r.nakWindow 0 8 = false ∧ l.nakWindow 0 0 = false ∧
    k.nakWindow 0 0 = true ∧ after (.sync 0 0 1008 1000 990) k = k ∧ after (.delayReq 0 0 77) k = k ∧ l.loaded 0 = true ∧ n.loaded 0 = false ∧
    ((after (.delayReq 0 8 77) r).wing 0).time.echo = [(8, (77, 1000))] ∧ 0 ∉ r.childPorts 0 ∧
    exchange 990 1000 1008 1000 = (1, 9) ∧ (after (.sync 0 0 1008 1000 990) l).fld Reg.TB_STATUS.OFFSET 0 = 9 ∧
    ((after (.sync 0 0 1008 1000 990) l).wing 0).time.slew = 9 ∧
    (after (.sync 0 0 1008 1000 990) n).reg (Reg.TB_TIME.TIME.at 0 0) = 1009 ∧
    (exchange 990 1000 1022 1000).2 = 16 ∧ (exchange 990 1000 1024 1000).2 = 17 ∧ (exchange 990 1000 994 1000).2 = 2 ∧
    (after (.sync 0 0 1024 1000 990) l).bit Reg.TB_STATUS.OUT_OF_BOUND 0 = true ∧
    r.fld Reg.TB_TREE.PARENT 0 = 15 ∧ r.loaded 0 = false ∧
    (after (.tbTimeWrite 0 5) r).reg (Reg.TB_TIME.TIME.at 0 0) = 5 ∧ after (.tbTimeWrite 0 5) l = l := by decide +kernel

/-- R393, R394: a root whose tiles have all ended; a leaf; a report of another step; the moment of the next step, reached or not. -/
theorem witness_StepCounter :
    let root := (rootWing {}).setFld Reg.FB_JOB.LOADED 0 1
    let l := leafWing {}
    let g (n : Nat) := leafWing { time := { go := some (5, n) } }
    let c := (rootWing { time := { reported := some 0 } }).setFld Reg.FB_JOB.LOADED 0 1
    root.up = true ∧ root.loaded 0 = true ∧ root.allEnded 0 = true ∧ root.fld Reg.TB_TREE.PARENT 0 = 15 ∧ root.childPorts 0 = [8] ∧ root.stepOf 0 = 0 ∧
    (tileOn {}).allEnded 0 = false ∧ l.allEnded 0 = true ∧ l.parentPort 0 = some 0 ∧ l.childPorts 0 = [] ∧
    (((after (.tbStepDoneWrite 0 0) l).wing 0).port 0).control.length + (((after (.tbStepDoneWrite 0 0) l).wing 0).port 0).replay.length = 1 ∧
    (∀ p ∈ root.childPorts 0, sget (fun _ => 0) (root.wing 0).time.doneFrom p = 0) ∧ (c.wing 0).time.reported = some 0 ∧
    ((after (.stepDone 0 8 0) c).wing 0).time.go = some (1, 1000 + 16 * 2000) ∧ 0 ∉ root.childPorts 0 ∧
    (root.wing 0).time.reported = none ∧ l.timeOf 0 ≤ (1000 : BitVec 64).toNat ∧ (999 : BitVec 64).toNat < l.timeOf 0 ∧
    ((after (.stepGo 0 0 5 1000) l).wing 0).time.go = some (5, 1000) ∧
    (after (.stepGo 0 0 5 999) l).stepOf 0 = 5 ∧ (after (.stepGo 0 0 5 999) l).fld Reg.TB_STATUS.LATE_GO 0 = 1 ∧
    ((g 1000).wing 0).time.go = some (5, 1000) ∧ (after (.stepAdvance 0) (g 1000)).stepOf 0 = 5 ∧
    after (.stepAdvance 0) (g 1001) = g 1001 ∧ (l.wing 0).time.go = none ∧ after (.stepAdvance 0) l = l := by decide +kernel

/-! ### Registers that command -/

/-- R246, R251, R299, R300, R315, R316, R384, R400, R401: both sides of each condition. -/
theorem witness_RegisterCommands :
    let n := (withRegs State.reset [(Reg.FB_CHIP_ID.CHIP.at 0 0, 2), (Reg.FB_ROUTE_CTL.ACTIVE.at 0 0, 4)])
    let d : State := { n with board := { mainOn := false } }
    let e := withRegs State.reset [(Reg.CM_SPAN_STEP.STEP.at 0 0, 1), (Reg.SV_TABLE_PUB0.SWAP_STEP.at 0 7, 1)]
    let z := withRegs State.reset [(Reg.SV_TABLE_PUB0.SWAP_STEP.at 0 7, 0)]
    let p := e.setFld Reg.SV_TABLE_PUB1.STATE 0 1 7
    n.up = true ∧ d.up = false ∧ after (.routeArm 0 2) d = d ∧ (linked {}).loaded 0 = true ∧ n.loaded 0 = false ∧ (after (.routeArm 0 2) n).fld Reg.FB_ROUTE_CTL.ARMED 0 = 1 ∧
    (0x105 : Word).getLsbD 8 = true ∧ getBits 0x105 0 8 ≠ n.fld Reg.FB_JOB.EPOCH 0 ∧ n.bit Reg.FB_ROUTE_CTL.ARMED 0 = true ∧
    (after (.fbJobWrite 0 0x105) n).fld Reg.FB_ROUTE_CTL.ACTIVE 0 = 1 ∧ (after (.fbJobWrite 0 0x105) n).loaded 0 = true ∧
    n.chip 0 ≠ 0xFFFF ∧ (0x005 : Word).getLsbD 8 = false ∧ (after (.fbJobWrite 0 5) (linked {})).loaded 0 = false ∧
    (after (.cmCancelSet 0 16383 false) e).cancelBit 0 16383 = true ∧ (after (.cmCancelSet 0 0 false) e).cancelBit 0 1 = false ∧
    e.fld Reg.TB_STEP.STEP 0 < e.fld Reg.CM_SPAN_STEP.STEP 0 ∧ ¬ z.fld Reg.TB_STEP.STEP 0 < z.fld Reg.CM_SPAN_STEP.STEP 0 ∧
    canonical z = true ∧ (after (.spanArm 0 1 false) e).fld Reg.CM_SPAN_CTL.ARMED 0 = 1 ∧
    (after (.spanArm 0 1 false) z).bit Reg.CM_SPAN_CTL.REFUSED 0 = true ∧
    e.stepOf 0 < e.fld Reg.SV_TABLE_PUB0.SWAP_STEP 0 7 ∧ ¬ z.stepOf 0 < z.fld Reg.SV_TABLE_PUB0.SWAP_STEP 0 7 ∧
    (after (.pubArm 0 7 false) e).fld Reg.SV_TABLE_PUB1.GEN 0 7 = 1 ∧
    (after (.pubArm 0 7 false) z).bit Reg.SV_TABLE_PUB1.REFUSED 0 7 = true ∧ p.fld Reg.SV_TABLE_PUB1.STATE 0 7 = 1 ∧
    (after (.pubCancel 0 7 false) p).fld Reg.SV_TABLE_PUB1.STATE 0 7 = 0 ∧
    (after (.occClear 0 0x400) (State.reset.setFld Reg.FB_OCC_HIST.BIN_EVEN 0 9 35)).reg (Reg.FB_OCC_HIST.BIN_EVEN.at 0 35) = 0 := by
  decide +kernel

/-! ### The serving engine -/

/-- An intake engine of slots 0 to 1 with 4 page groups, LMAX 4096, one unit of 4 tokens, prompts from 2 MiB on. -/
def serving (x : Wing) : State :=
  (hbm 0 3 (withRegs State.reset (upRegs ++ [(Reg.SV_JOB_CFG.SLOT_LO.at 0 0, 1 * 2 ^ 14 + 2 ^ 28 + 2 ^ 43),
    (Reg.SV_STEP_CFG.TOKENS.at 0 0, 4 + 2 ^ 45), (Reg.SV_LIMITS.LMAX.at 0 0, 4096 * 2 ^ 24), (Reg.SV_PAGE_RANGE.FIRST.at 0 0, 4 * 2 ^ 32)]))).setWing0 x

def submitArgs (id : BitVec 64) (len : BitVec 32) : SubmitArgs := ⟨id, 7, 0x200000, len, 1, 0, 1, 1, 0⟩
def slotOne (state : Nat) (hold : Bool) : Slot := { reqId := 9, state := state, promptHold := hold }

/-- R415, R417, R431, R432, R469, R516, R517: a request admitted, refused for its operands, its limits and for want of room;
a second one with the id of a held one; cancels. -/
theorem witness_Requests :
    let s := serving {}
    let h := serving { slots := [(0, slotOne 1 true)] }
    let f := serving { slots := [(0, slotOne slFinished false), (1, slotOne 1 false)] }
    let b := serving { slots := [(0, slotOne 1 false)], batch := [(0, { slot := 0, role := 0 })] }
    let r := s.setFld Reg.AU_REPLAY.ENABLE 0 1
    r.replayRun = true ∧ s.replayRun = false ∧ s.submitMalformed (submitArgs 5 255) = false ∧ s.bit Reg.SV_JOB_CFG.INTAKE 0 = true ∧
    s.fld Reg.SV_JOB_CFG.POOL 0 ≠ 2 ∧ s.submitLimits (submitArgs 5 255) = true ∧ s.submitLimits (submitArgs 5 4094) = true ∧
    s.submitLimits (submitArgs 5 4095) = false ∧ s.slotOfReq 5 = none ∧ s.freeSlot = some 0 ∧
    s.takeGroups (groupsFor (254 + 1 + 1)) = some [0, 1, 2, 3] ∧ s.takeGroups (groupsFor (255 + 1 + 1)) = none ∧
    (after (.submit 2 6 (submitArgs 5 254)) s |>.wing 0).slots.map (fun e => (e.1, e.2.reqId, e.2.groups)) = [(0, 5, [0, 1, 2, 3])] ∧
    (after (.submit 2 6 (submitArgs 5 255)) s).host.waiting.map (·.status) = [stBudgetRefused] ∧ f.freeSlot = none ∧
    h.slotOfReq 9 = some (0, slotOne 1 true) ∧ ((after (.submit 2 6 (submitArgs 9 254)) h).wing 0).slot 0 = slotOne 1 false ∧
    f.slotOfReq 9 = some (0, slotOne slFinished false) ∧ (after (.submit 2 6 (submitArgs 9 254)) f).host.waiting.map (·.status) = [stPlanMismatch] ∧
    (s.setFld Reg.SV_JOB_CFG.INTAKE 0 0).bit Reg.SV_JOB_CFG.INTAKE 0 = false ∧
    (after (.cancel 2 6 5 false) s).host.waiting.map (·.status) = [stAlreadyComplete] ∧ slotEntries (b.wing 0).batch 0 ≠ [] ∧ b.loaded 0 = true ∧
    (after (.cancel 2 6 9 false) b).cancelBit 1 0 = true ∧ (((after (.cancel 2 6 9 false) f).wing 0).cancels).map (·.status) = [stAlreadyComplete] := by
  decide +kernel

/-- R246, R516, R517, R590: a publication without tables, a set out of range, and a granule reloaded or refused. -/
theorem witness_Requests_tables :
    let s := serving {}
    let p (set : BitVec 8) : PublishArgs := ⟨set, 3, 0, 0, 512, List.replicate 512 1⟩
    let r (off : BitVec 64) (wing : BitVec 8) (ok : Bool) : RepairArgs := ⟨wing, off, 0, 0, [5], ok⟩
    let k := hbm 0 5 State.reset
    let e : State := { k with job := { img := some { imago with enc := true } } }
    (7 : Nat) < 8 ∧ (p 7).length.toNat % 512 = 0 ∧ s.fld Reg.SV_JOB_CFG.QINDEX 0 = 0 ∧ s.tablesOf 7 = [] ∧
    s.fld Reg.SV_TABLE_PUB1.STATE 0 7 ≠ 1 ∧ s.fld Reg.SV_TABLE_PUB1.STATE 1 7 ≠ 1 ∧ s.stepOf 0 < max 0 (s.fld Reg.SV_COMMITTED.STEP 0 + 3) ∧
    s.stepOf 1 < max 0 (s.fld Reg.SV_COMMITTED.STEP 0 + 3) ∧ (s.wing 0).pubs = [] ∧
    (after (.publishTable 2 6 (p 7)) s).fld Reg.SV_TABLE_PUB0.SWAP_STEP 1 7 = 3 ∧
    (after (.publishTable 2 6 (p 8)) s).host.waiting.map (·.status) = [stPlanMismatch] ∧
    (k.regionAt 0 (2 ^ 23 - 2048)).map (·.kind) = some 5 ∧ (k.regionAt 0 (2 ^ 23)) = none ∧ (k.job.img.map (·.enc)) = none ∧
    k.stackFailed 0 (hbmStack 2048) = false ∧ memRead (after (.repairReload 2 6 (r 2048 0 true)) k).mem 2048 = 5 ∧
    (k.setFld Reg.CM_STATUS.FAILED 0 1023).stackFailed 0 (hbmStack 2048) = true ∧
    (after (.repairReload 2 6 (r 2048 0 true)) (k.setFld Reg.CM_STATUS.FAILED 0 1023)).host.waiting.map (·.status) = [stLinkLost] ∧
    (after (.repairReload 2 6 (r 2049 0 true)) k).host.waiting.map (·.status) = [stPlanMismatch] ∧
    (after (.repairReload 2 6 (r 2048 1 true)) k).host.waiting.map (·.status) = [stWindowViolation] ∧
    (after (.repairReload 2 6 (r 2048 0 false)) e).host.waiting.map (·.status) = [stAuthFailed] := by decide +kernel

/-- A table of set 7 at tile 5 with the given rows: its live copy begins at row 16. -/
def tableOf (rows : List (List Byte)) : TableImage := ⟨site, 7, 0, 2, rows, none⟩

/-- The table in the loaded job; its shadow copy stands in a window that admits the hawk cores, in which `n` rows have landed. -/
def tabled (t : TableImage) (n : Nat) (x : Tile) : State :=
  let s := serving {}
  { withRegs (windowed x) (s.regs.map (fun e => (e.1, e.2.toNat)) ++
      [(Reg.SP_WIN1.CHIP_LO.on site 0, 7 * 2 ^ 16 + n * 2 ^ 32 + n * 2 ^ 47)]) with
    job := { img := some { imago with tables := [t] } } }

/-- A publication of set 7, as a command and as the engine keeps it. -/
def publishArgs (n : Nat) : PublishArgs := ⟨7, 3, 0, 0, BitVec.ofNat 32 n, List.replicate n 1⟩
def publication (n : Nat) : Publication :=
  { vector := 2, tag := 6, set := 7, version := 3, minStep := 0, data := List.replicate n 1 }

/-- R226, R230, R245, R246: a table of one row whose window shows it landed, while the words of the copy queue behind an earlier one; and
one that no window admits. -/
theorem witness_Requests_publish :
    let t := tableOf [row512.take 512]
    let s := tabled t 1 { heldWords := [wordPk 17 0] }
    let l := s.writeShadow t ((publication 512).content t)
    s.replayRun = false ∧ s.tablesOf 7 = [t] ∧ tableOk t (padTo 512 (publishArgs 512).data) = true ∧
    s.shadowAdmits t = true ∧ l.shadowLanded t = true ∧
    l.stepOf 0 < max 0 (l.fld Reg.SV_COMMITTED.STEP 0 + 3) ∧ l.stepOf 1 < max 0 (l.fld Reg.SV_COMMITTED.STEP 0 + 3) ∧
    ((tabled t 0 {}).setTile site { full := [0] }).shadowAdmits t = false := by
  decide +kernel

/-- R245, R246: a table without rows is armed at once; one whose window has landed other rows is refused; behind words that are held
it waits, and a second publication of its set is refused meanwhile. -/
theorem witness_Requests_published :
    let t := tableOf []
    let s := tabled t 0 {}
    let o := tabled t 5 {}
    let h := tabled t 5 { heldWords := [wordPk 17 0] }
    let c := (publication 0).content t
    let a := after (.publishTable 2 6 (publishArgs 0)) h
    (after (.publishTable 2 6 (publishArgs 0)) s).fld Reg.SV_TABLE_PUB1.STATE 0 7 = 1 ∧
    (o.writeShadow t c).shadowLanded t = false ∧ (o.writeShadow t c).shadowQuiet t = true ∧
    (after (.publishTable 2 6 (publishArgs 0)) o).host.waiting.map (·.status) = [stPlanMismatch] ∧
    (h.writeShadow t c).shadowLanded t = false ∧ (h.writeShadow t c).shadowQuiet t = false ∧
    (a.wing 0).pubs = [publication 0] ∧
    (after (.publishTable 2 6 (publishArgs 0)) a).host.waiting.map (·.status) = [stPlanMismatch] := by decide +kernel

/-- R433: a cancel that comes after the commit has begun: it wins, or the commit does. -/
theorem witness_Requests_cancel :
    let b := serving { slots := [(0, slotOne 1 false)], batch := [(0, { slot := 0, role := 0 })], endedTiles := [5] }
    b.replayRun = false ∧ b.bit Reg.SV_JOB_CFG.INTAKE 0 = true ∧ b.slotOfReq 9 = some (0, slotOne 1 false) ∧
    slotEntries (b.wing 0).batch 0 ≠ [] ∧ b.loaded 0 = true ∧ (b.wing 0).bnd.committed = false ∧ (b.wing 0).endedTiles ≠ [] ∧
    ((after (.cancel 2 6 9 false) b).wing 0).cancels.map (·.status) = [stCancelled] ∧
    ((after (.cancel 2 6 9 true) b).wing 0).lateCancels = [(2, 6, 9)] ∧ ((after (.cancel 2 6 9 true) b).wing 0).cancels = [] ∧
    (after (.cancel 2 6 9 true) b).fld Reg.AU_TDC_TOTAL.TOTAL 0 = 1 := by decide +kernel

/-- R512, R514, R520, R522, R523, R530. -/
def ringed (h : HostPort) : State :=
  { withRegs State.reset [(Reg.HI_RING_CTL.ENABLE.at 0 0, 1 + 6 * 2 + 8 * 2 ^ 6 + 2 ^ 11), (Reg.HI_CTRL_PAGE.ADDR.at 0 0, 0x1000)] with host := h }

theorem witness_Rings :
    let s := ringed {}
    let e (ph : Bool) (op : BitVec 8) : RingEntry := ⟨ph, 2, 6, .reserved op⟩
    let w := ringed { waiting := [{ typ := 1 }, { typ := 2 }, { typ := 2, code := 1 }] }
    let v (n : Nat) (m : Bool) := ringed { vectors := [(2, { masked := m, pending := m, count := n })] }
    s.bit Reg.HI_RING_CTL.ENABLE 0 = true ∧ State.reset.bit Reg.HI_RING_CTL.ENABLE 0 = false ∧ s.host.waiting = [] ∧
    s.host.releasing = none ∧ s.loaded 0 = false ∧ (s.wing 0).pubs = [] ∧ s.up = true ∧
    (ringPhase (s.fld Reg.HI_RING_STATUS.CMD_HEAD 0) (2 ^ s.fld Reg.HI_RING_CTL.CMD_LOG2 0) == 1) = true ∧
    (after (.commandPoll [e true 9] 0) s).fld Reg.HI_RING_STATUS.CMD_HEAD 0 = 1 ∧
    (after (.commandPoll [e false 9] 0) s).fld Reg.HI_RING_STATUS.CMD_HEAD 0 = 0 ∧
    memRead (after (.commandPoll [e true 9] 0) s).host.hostMem 0x1000 = 1 ∧
    memRead (after .heartbeat (s.setReg (Reg.TB_TIME.TIME.at 0 0) 77)).host.hostMem 0x1010 = 77 ∧
    (∀ c ∈ s.host.waiting, c.typ ≠ 2) ∧
    w.host.waiting = [{ typ := 1 }] ++ { typ := 2 } :: [{ typ := 2, code := 1 }] ∧
    (after .eventDrop w).host.waiting = [{ typ := 1 }, { typ := 2, code := 1 }] ∧
    ((v 3 false).host.vector 2).count ≠ 0 ∧ ((v 3 false).host.vector 2).masked = false ∧ ((v 3 true).host.vector 2).masked = true ∧
    ((after (.msixCoalesceTimer 2) (v 3 false)).host.vector 2).sent = 1 ∧
    ((after (.msixCoalesceTimer 2) (v 3 true)).host.vector 2).pending = true ∧ ((v 0 true).host.vector 2).count = 0 ∧
    ((after (.msixUnmask 2) (v 0 true)).host.vector 2).sent = 1 ∧ ((v 0 false).host.vector 2).pending = false ∧
    (0x21D : Word).getLsbD 0 = true ∧ State.reset.host.written = [] ∧
    (after (.ringEnable 0x21D) State.reset).fld Reg.HI_RING_CTL.CMD_LOG2 0 = 14 ∧
    (after (.ringEnable 0) s).bit Reg.HI_RING_CTL.RUNNING 0 = false := by decide +kernel

/-! ### The context memory -/

theorem witness_ContextMemory :
    let s := hbm 0 1 State.reset
    let c := s.setFld Reg.CM_SCRUB_CTL.PERIOD_H 0 1
    let p := c.setWing0 { poison := [0] }
    let f := s.setFld Reg.CM_STATUS.FAILED 0 1
    let q := withRegs (hbm 0 1 stored) [(Reg.CM_SPAN_CTL.ACTIVE.at 0 0, 16), (Reg.CM_CANCEL_MAP.MAP.at 0 0, 1)]
    let l := hbm 0 1 loads
    let m := hbm 0 6 State.reset
    s.regionAt 0 0 ≠ none ∧ s.hbmRefusal 0 .hawkRead 0xFFFF (4 * 2 ^ 21 - 1) = none ∧ s.hbmRefusal 0 .hawkRead 0 (4 * 2 ^ 21) = some 0 ∧
    s.hbmRefusal 0 .hawkRead 0 0x7800000000 = some 2 ∧ m.hbmRefusal 0 .hawkWrite 0 0 = some 1 ∧
    m.hbmRefusal 0 .fabricWrite 0xFFFF 0 = some 3 ∧ (m.setFld Reg.CM_MIRROR_CTL.PARTNER_CHIP 0 3).hbmRefusal 0 .pairWrite 3 0 = none ∧
    (m.setFld Reg.CM_MIRROR_CTL.PARTNER_CHIP 0 3).hbmRefusal 0 .fabricWrite 3 0 = some 1 ∧
    granulesOf 2047 2 = [0, 1] ∧ s.stackFailed 0 0 = false ∧ f.stackFailed 0 0 = true ∧ (s.wing 0).poison = [] ∧
    (after (.hawkHbmAccess 0 false 0 8 [] [] false) s |>.wing 0).hawkStatus = stOk ∧
    (after (.hawkHbmAccess 0 true 4 0 [9] [] false) s |>.mem) = [(4, 9)] ∧
    (after (.hawkHbmAccess 0 false 0 8 [] [] false) p |>.wing 0).hawkStatus = stEcc ∧ granulesOf 0 8 = [0] ∧
    (after (.hawkHbmAccess 0 true 0 0 [9] [{ fails := 3 }] false) s).stackFailed 0 0 = true ∧
    (after (.hawkHbmAccess 0 true 0x7800000000 0 [9] [] false) s).fld Reg.CM_VIOL.REASON 0 = 2 ∧
    c.fld Reg.CM_SCRUB_CTL.PERIOD_H 0 ≠ 0 ∧ (s.setFld Reg.CM_SCRUB_CTL.PERIOD_H 0 0).fld Reg.CM_SCRUB_CTL.PERIOD_H 0 = 0 ∧
    (after (.cmScrub 0 0 { bad := some 5 }) c |>.wing 0).poison = [0] ∧
    (after (.hbmRefresh 0 9 255 false) s |>.wing 0).refreshing = [2559] ∧
    (after (.hbmStackTrained 0 9) State.reset).fld Reg.CM_STATUS.TRAINED 0 = 512 ∧
    (after (.hbmStackHot 0 9 true) s).fld Reg.CM_STATUS.HOT 0 = 512 ∧
    ((l.tile site).load 31).state = .inFlight ∧ (l.tile site).sentTicket (l.tile site).loads ((l.tile site).load 31) = true ∧
    l.hbmRefusal 0 .load 0 512 = none ∧ ((l.tile site).load 31).rows.Nodup ∧ 512 + 512 * 1 ≤ 0x8000000000 ∧
    ((q.tile site).store 3).state = .inFlight ∧ q.filtered 0 512 = true ∧
    (after (.qstComplete site 3 {} false) q).fld Reg.CM_FILTER_COUNT.FILTERED 0 = 1 ∧ (hbm 0 1 stored).filtered 0 512 = false ∧
    ((after (.hbmWrite 0 { kind := 0, srcChip := 3, data := [6] } {} false) (s.setWing0 { toHbm := [{ kind := 0, srcChip := 3, data := [6] }] })).wing 0).toHbm = [] := by
  decide +kernel

/-- R284, R292, R293: writes of a hawk core of another chip; one behind an earlier one of its channel; a stack that fails; banks. -/
theorem witness_ContextMemory_switch :
    let p : FPacket := { kind := 0xC, srcKind := 1, srcChip := 3, data := [6] }
    let q : FPacket := { kind := 0xC, srcKind := 1, srcChip := 3, addr := 512, data := [5] }
    let s := (hbm 0 1 State.reset).setWing0 { toHbm := [p, q] }
    s.switchSrc 0 p = .fabricWrite ∧ s.switchSrc 0 { p with viaPair := true } = .pairWrite ∧ s.switchSrc 0 { p with kind := 0 } = .other ∧
    (s.wing 0).switchAhead p = false ∧ (s.wing 0).switchAhead q = true ∧ s.hbmRefusal 0 .fabricWrite 3 0 = none ∧
    s.hbmRefusal 0 .other 3 0 = some 1 ∧ s.stackFailed 0 0 = false ∧ granulesOf 0 512 = [0] ∧
    (after (.hbmWrite 0 p {} false) s).mem = [(0, 6)] ∧ ((after (.hbmWrite 0 q {} false) s).wing 0).toHbm = [p, q] ∧
    (after (.hbmWrite 0 { p with kind := 0 } {} false) (hbm 0 1 State.reset)).fld Reg.CM_VIOL.REASON 0 = 1 ∧
    (after (.hbmWrite 0 p { fails := 3 } false) s).stackFailed 0 0 = true ∧ (after (.hbmWrite 0 p { fails := 3 } false) s).mem = [] ∧
    (after (.cmScrub 0 0 { fails := 3 }) (s.setFld Reg.CM_SCRUB_CTL.PERIOD_H 0 1)).stackFailed 0 0 = true ∧
    ((after (.hbmRefresh 0 9 1 false) (after (.hbmRefresh 0 9 255 false) s)).wing 0).refreshing = [2305] := by decide +kernel

/-! ### Step boundaries, hand-offs and the ledger -/

/-- Wing 0 serves a job whose tiles have all ended, in step 4; its own queue is the only intake part. -/
def bounded (x : Wing) : State := (serving x).setFld Reg.TB_STEP.STEP 0 4

theorem witness_StepBoundaries :
    let s := bounded {}
    let c := bounded { bnd := { committed := true, mirrorSent := true, frozen := true } }
    let e := ((bounded { endedTiles := [5] }).setTfld site Reg.TC_RUN.RUN 1).setTile site { stores := [(0, { state := .completed, status := 5, off := 0x800, beforeEnd := true })] }
    let both (s : State) := s.setReg (Reg.SV_MIRRORED.STEP.at 1 0) 4
    let two := withRegs (bounded {}) [(Reg.SV_JOB_CFG.SLOT_LO.at 0 0, 1 * 2 ^ 14 + 2 ^ 28 + 3 * 2 ^ 43)]
    let rec1 := bounded { bnd := { committed := true, mirrorSent := true, frozen := true }, slots := [(0, { slotOne slFinished false with reclaim := true }), (1, slotOne 1 false)] }
    let comp := bounded { bnd := { committed := true, mirrorSent := true, frozen := true }, stepCompl := [{ typ := 0, release := 4 }] }
    s.loaded 0 = true ∧ s.allEnded 0 = true ∧ s.storesOpen 0 = false ∧ (s.wing 0).bnd.committed = false ∧ s.storeError 0 = none ∧
    s.commitBad 0 = none ∧ s.isAhead 0 = false ∧ s.recordWaits 0 = false ∧ (two.wing 0).poison = [] ∧ (two.wing 1).poison = [] ∧
    (two.stackFailed 0 9 = false ∧ two.recordWaits 0 = false) ∧ (s.wing 0).bnd.frozen = false ∧ ¬ (s.wing 0).parts.length + 1 < s.fld Reg.SV_JOB_CFG.QCOUNT 0 ∧
    (two.wing 0).parts.length + 1 < two.fld Reg.SV_JOB_CFG.QCOUNT 0 ∧
    (after (.stepBoundary 0) two).reg (Reg.SV_COMMITTED.STEP.at 0 0) = 4 ∧ canonical e = true ∧ e.storeError 0 = some (5, 1) ∧
    (after (.stepBoundary 0) e).fld Reg.CF_STOP_RECORD0.SOURCE 0 = 3 ∧ after (.stepBoundary 1) s = s ∧
    acceptedCount [1, 2, 3] [1, 2, 4, 5] = 2 ∧ acceptedCount [1, 2] [1, 2] = 2 ∧
    two.scriptFirst 0 2 5 = false ∧ (5 : BitVec 64).toNat = two.stepOf 0 + 1 ∧ (2 : BitVec 11).toNat < two.fld Reg.SV_JOB_CFG.QCOUNT 0 ∧
    (2 : Nat) ∉ (two.wing 0).parts ∧ ((after (.batchPart 0 2 5 [] [] []) two).wing 0).parts = [2] ∧
    after (.batchPart 0 2 6 [] [] []) two = two ∧ (c.wing 0).bnd.acked = false ∧ c.stepOf 0 % 65536 ≠ 65535 ∧
    ((after (.mirrorAck 0) rec1).wing 0).slots.map (·.1) = [1] ∧ c.cplRoom = false ∧
    comp.fld Reg.SV_RELEASED.STEP 0 < comp.stepOf 0 ∧ (after (.mirrorAck 0) (both comp)).host.releasing = some 4 ∧ comp.fld Reg.SV_MIRRORED.STEP (otherWing 0) < comp.stepOf 0 ∧
    (both c).stepOf 0 ≤ (both c).fld Reg.SV_MIRRORED.STEP (otherWing 0) ∧
    (after (.mirrorAck 0) (both c)).fld Reg.SV_RELEASED.STEP 1 = 4 ∧ c.mirrorOpen 0 = false ∧ (c.wing 0).bnd.ackIn = false ∧ canonical c = true ∧
    (after (.ackTimeout 0) c).fld Reg.CF_STOP_RECORD0.SOURCE 0 = 6 ∧ after (.ackTimeout 0) s = s ∧
    (after (.cancelForward 0 16383) s).cancelBit 0 16383 = true := by decide +kernel

/-- R305, R466, R469: records that the engine cannot read, a ledger without room, and the scripted part of a step. -/
theorem witness_StepBoundaries_holds :
    let s := bounded {}
    let b := hbm 0 2 (bounded { poison := [0] })
    let l := (bounded { blocks := [⟨3, 0, 3, 1, 0, 0, 0, 0⟩] }).setFld Reg.AU_LEDGER_CTL.NSLOTS 0 3
    let r := bounded {} |>.setFld Reg.AU_REPLAY.ENABLE 0 1
    s.loaded 0 = true ∧ (b.commitBad 0).isSome = true ∧ canonical b = true ∧ b.storeError 0 = none ∧
    (after (.stepBoundary 0) b).loaded 0 = false ∧
    r.scriptFirst 0 0 4 = true ∧ r.fld Reg.SV_JOB_CFG.QCOUNT 0 ≤ (r.wing 0).parts.length + 1 ∧
    ((after (.batchPart 0 0 4 [(0, { slot := 0, role := 0 })] [] []) r).wing 0).batch.length = 1 ∧
    (r.setFld Reg.SV_JOB_CFG.QCOUNT 0 2).scriptFirst 0 0 4 = true ∧
    ((after (.batchPart 0 0 4 [] [] []) (r.setFld Reg.SV_JOB_CFG.QCOUNT 0 2)).wing 0).parts = [0] ∧
    l.storeError 0 = none ∧ l.commitBad 0 = none ∧ l.isAhead 0 = false ∧ l.recordWaits 0 = true ∧
    (after (.stepBoundary 0) l).bit Reg.AU_LEDGER_STATUS.FULL 0 = true ∧
    (after (.auLedgerExport 0 3) (after (.stepBoundary 0) l)).fld Reg.AU_LEDGER_EXPORT.BLOCK 0 = 3 := by decide +kernel

/-- R605: a wing that is ahead, whose recorded output (nothing written) differs from its output. -/
theorem witness_StepBoundaries_ahead :
    let s := withRegs (bounded {}) [(Reg.SV_RESTART.AHEAD.at 0 0, 2 ^ Reg.SV_RESTART.AHEAD.lo), (Reg.SV_RESUME_STEP.STEP.at 0 0, 4)]
    s.loaded 0 = true ∧ s.allEnded 0 = true ∧ s.storesOpen 0 = false ∧ (s.wing 0).bnd.committed = false ∧ s.storeError 0 = none ∧
    s.commitBad 0 = none ∧ s.isAhead 0 = true ∧ digestBytes (s.outputDigest 0) ≠ s.recordedOutput 0 4 ∧ canonical s = true := by decide +kernel

/-- R436, R437: a decode pool with room, full, and no decode pool; replies; SHIP_DONE on both sides. -/
theorem witness_Handoffs :
    let a : HandoffArgs := ⟨5, 7, 254, 1, 0, 1, 33, 2, 2⟩
    let d (x : Wing) := (serving x).setFld Reg.SV_JOB_CFG.POOL 0 2
    let full := d { slots := [(0, slotOne 1 false), (1, slotOne 1 false)] }
    let w := d { slots := [(0, slotOne slAwaitPages false)] }
    let p (c : Bool) (r : Option (BitVec 16 × BitVec 14 × List Nat)) := serving { slots := [(0, slotOne slPrefill false)], handoffs := [⟨0, 9, 1, r, c, false⟩] }
    (d {}).bit Reg.SV_JOB_CFG.INTAKE 0 = true ∧ (d {}).fld Reg.SV_JOB_CFG.POOL 0 = 2 ∧ (serving {}).fld Reg.SV_JOB_CFG.POOL 0 ≠ 2 ∧
    full.freeSlot = none ∧ (d {}).freeSlot = some 0 ∧ (d {}).takeGroups (groupsFor (254 + 1 + 1)) = some [0, 1, 2, 3] ∧
    ((after (.handoff a) (d {})).wing 1).slots.map (fun e => (e.2.state, e.2.lastToken)) = [(slAwaitPages, 33)] ∧
    ((after (.handoff a) full).wing 0).engineOut = [.handoffReply 5 stBudgetRefused 2 0 []] ∧
    ((p false none).wing 0).handoffs.find? (fun h => h.reqId == 9 && h.reply.isNone && !h.refused) = some ⟨0, 9, 1, none, false, false⟩ ∧
    ((serving {}).wing 0).handoffs.find? (fun h => h.reqId == 9 && h.reply.isNone && !h.refused) = none ∧
    ((after (.handoffReply 9 0 4 1 [6]) (p false none)).wing 0).handoffs.map (·.reply) = [some (4, 1, [6])] ∧
    ((after (.handoffReply 9 9 4 1 [6]) (p false none)).wing 0).handoffs.map (·.refused) = [true] ∧
    ((after (.handoffReply 9 9 4 1 [6]) (p true none)).wing 0).handoffs = [] ∧
    ((p false (some (4, 1, [6]))).wing 0).handoffs.find? (fun h => h.slot == 0 && h.reply.isSome) = some ⟨0, 9, 1, some (4, 1, [6]), false, false⟩ ∧
    (p false (some (4, 1, [6]))).shipped 4 = true ∧ ((p false none).wing 0).handoffs.find? (fun h => h.slot == 0 && h.reply.isSome) = none ∧
    (((after (.shipDone 0 false) (p false (some (4, 1, [6])))).wing 0).slot 0).state = slFinished ∧
    w.ownsSlot 0 = true ∧ ((w.wing 0).slot 0).state = slAwaitPages ∧ (w.wing 0).handoffs.find? (fun h => h.slot == 0 && h.reply.isSome) = none ∧
    (((after (.shipDone 0 false) w).wing 0).slot 0).state = slDecode ∧ (((after (.shipDone 0 true) w).wing 1).slot 0).state = slCancelled ∧
    after (.shipDone 0 true) (serving {}) = serving {} := by decide +kernel

/-- R465, R466, R477: a block to sign with and without a good slot; an export that the boundary waits for. -/
theorem witness_Ledger :
    let blk : LedgerBlock := ⟨7, 0, 9, 1, 0, 0, 0, 0⟩
    let q (n : Nat) (k : Bool) : State :=
      { (withRegs State.reset [(Reg.SC_BOOT_STATUS.BANK.at 0 0, n), (Reg.SC_OTP_STATE.ROLLBACK.at 0 0, if k then 2 ^ 13 else 0)]).setWing0 { blocks := [blk] }
        with cocoon := { signQueue := [(0, 7)] } }
    let up := 3 * 2 ^ 10
    let old : OldBlock := ⟨7, 0, List.replicate 232 0, 4096⟩
    let o (k : Bool) : State := (q up k).setWing0 { oldBlocks := [old] }
    let x (n : Nat) := (withRegs State.reset [(Reg.FB_JOB.EPOCH.at 1 0, 0x101), (Reg.AU_LEDGER_CTL.NSLOTS.at 1 0, n)]).setWing 1 { bnd := { acked := true, frozen := true } }
    (q up true).cocoonUp = true ∧ (0, 7) ∈ (q up true).cocoon.signQueue ∧ ((q up true).wing 0).block 7 = some blk ∧
    (q up true).slotGood 0 = true ∧ (q up true).entropyOk = true ∧ (q up false).slotGood 0 = false ∧
    (((after (.ledgerSignComplete 0 7) (q up true)).wing 0).block 7).map (·.state) = some 2 ∧
    (after (.ledgerSignComplete 0 7) (q up false)).bit Reg.AU_LEDGER_STATUS.SIGN_FAIL 0 = true ∧
    after (.ledgerSignComplete 0 8) (q up true) = q up true ∧ old.head.length = 232 ∧
    (o true).cocoonUp = true ∧ (0, 7) ∈ (o true).cocoon.signQueue ∧ ((o true).wing 0).oldBlocks.find? (fun b => b.number == 7) = some old ∧
    (o true).readRun 0 old.place 232 = old.head ∧ (o true).fld Reg.CM_STATUS.FAILED 0 = 0 ∧ (o true).slotGood 0 = true ∧ (o true).entropyOk = true ∧
    ((after (.ledgerSignComplete 0 7) (o true)).wing 0).oldBlocks = [] ∧ (after (.ledgerSignComplete 0 7) (o true)).mem ≠ [] ∧
    (o false).slotGood 0 = false ∧ (after (.ledgerSignComplete 0 7) (o false)).bit Reg.AU_LEDGER_STATUS.SIGN_FAIL 0 = true ∧
    (x 4).up = true ∧ (x 4).bit Reg.AU_LEDGER_STATUS.FULL 1 = false ∧ (x 4).loaded 1 = true ∧ ((x 4).wing 1).bnd.reported = false ∧ State.reset.loaded 1 = false ∧
    (after (.auLedgerExport 1 5) State.reset).fld Reg.AU_LEDGER_EXPORT.BLOCK 1 = 5 := by decide +kernel

/-! ### Power, speed and ageing -/

/-- R539, R548: the 24 bands and 8 tiers as boot leaves them: on, at 700 mV, with their FLOOR as their ceiling. -/
def domains : List (Nat × Nat) := (List.range 32).map (fun d =>
  let f := if d < 24 then 12 else 5
  (Reg.PW_DOMAIN.CEIL_W.at 0 d, f + 700 * 2 ^ 22 + f * 2 ^ 32 + 2 ^ 40))

def powered (p : Power) : State := { withRegs State.reset domains with power := p, board := { booted := true } }

/-- R540 to R546: settings at and beyond their bounds, a request granted and refused, releases and reductions. -/
theorem witness_PowerAndTiers_arbiter :
    let v (b h : Nat) : Word := BitVec.ofNat 64 (b + h * 2 ^ 11)
    let s := powered {}
    let r := powered { requests := [(3, 4)] }
    let z := (powered { requests := [(3, 4)] }).setFld Reg.PW_BUDGET.BUDGET_W 0 800
    (after (.pwBudgetWrite (v 1800 480)) s).pool = 1090 ∧ (after (.pwBudgetWrite (v 1801 480)) s).bit Reg.PW_BUDGET.REFUSED 0 = true ∧
    (after (.pwBudgetWrite (v 799 200)) s).bit Reg.PW_BUDGET.REFUSED 0 = true ∧ (after (.pwBudgetWrite (v 800 200)) s).pool = 370 ∧
    (after (.pwBudgetWrite (v 1800 199)) s).bit Reg.PW_BUDGET.REFUSED 0 = true ∧ State.reset.board.booted = false ∧
    s.power.rising = [] ∧ r.power.releases = [] ∧ r.power.acked = [] ∧ sget (fun _ => 0) r.power.requests 3 = 4 ∧
    r.freePower ≠ 0 ∧ (after .arbiterEpoch r).ceil 3 = r.ceil 3 + 4 ∧ z.freePower = 0 ∧
    (after .arbiterEpoch z).bit Reg.PW_DOMAIN.REFUSED 0 3 = true ∧
    (after .arbiterEpoch (powered { releases := [(3, 1)] })).ceil 3 = 1 ∧
    (after .arbiterEpoch (powered { acked := [3], reductions := [(3, some 2)] })).ceil 3 = 2 ∧
    s.domainOn 31 = true ∧ sget (fun _ => 0) (after (.powerRequest 31 9) s).power.requests 31 = 9 ∧ after (.powerRequest 32 9) s = s ∧
    s.floorOf 3 + 0 ≤ s.ceil 3 ∧ (0 : BitVec 11).toNat + 3 ≤ s.ceil 3 ∧
    (after (.reductionAck 3) (powered { reductions := [(3, some 2)] })).power.acked = [3] ∧ after (.reductionAck 3) s = s := by
  decide +kernel

theorem witness_PowerAndTiers_requests : (∀ e, e ≠ 3 → sget (fun _ => 0) (powered { requests := [(3, 4)] }).power.requests e = 0) ∧
    ∀ e, sget (fun _ => 0) (powered { releases := [(3, 1)] }).power.requests e = 0 :=
  ⟨fun e h => by show sget (fun _ => 0) [(3, 4)] e = 0; simp [sget, h], fun _ => rfl⟩

/-- R549, R551: tier 0 of wing 0 goes down, its gate shuts, it loses power and comes back; a tier that a handle holds stays. -/
theorem witness_PowerAndTiers_tiers :
    let s := withRegs State.reset domains
    let held := plain.setFld Reg.FB_JOB.LOADED 0 1
    let d := after (.tierDown 0) s
    let g := after (.tierGateShut 0) d
    let o := after (.tierPowerOff 0) g
    let u := after (.tierUp 0) o
    let busy := (tileOn { claims := [(16, some .remote)] }).setFld Reg.PW_TIER_CTL.PENDING 0 1
    0 ∉ s.power.rising ∧ s.tierBit Reg.PW_TIER_CTL.OFF 0 = false ∧ s.tierBit Reg.PW_TIER_CTL.PENDING 0 = false ∧ 0 ∉ s.power.gated ∧
    held.loaded 0 = true ∧ held.tierHeld 0 0 = true ∧ (after (.tierDown 0) held).tierBit Reg.PW_TIER_CTL.DOWN 0 = false ∧
    d.tierBit Reg.PW_TIER_CTL.PENDING 0 = true ∧ (∀ v ∈ d.wingTiles 0, d.tierQuiet 0 v = true) ∧
    (¬ ∀ v ∈ busy.wingTiles 0, busy.tierQuiet 0 v = true) ∧ after (.tierGateShut 0) busy = busy ∧
    g.power.gated = [0] ∧ o.tierBit Reg.PW_TIER_CTL.OFF 0 = true ∧ o.domainOn 24 = false ∧ o.ceil 24 = 0 ∧
    u.power.rising = [0] ∧ u.leverSum ≤ u.pool ∧ canonical u = true ∧
    (after (.tierPowerUpDone 0) u).domainOn 24 = true ∧ (after (.tierPowerUpDone 0) u).power.rising = [] ∧
    (u.setFld Reg.PW_BUDGET.BUDGET_W 0 600).pool < (u.setFld Reg.PW_BUDGET.BUDGET_W 0 600).leverSum ∧
    (after (.tierUp 0) d).tierBit Reg.PW_TIER_CTL.DOWN 0 = false ∧ (after (.tierDown 0) u).power.rising = [] ∧
    after (.tierPowerUpDone 0) s = s := by decide +kernel

/-- R543, R547, R552, R553, R564: the temperatures at which a band clamps, steps and recovers; drift at its trigger. -/
theorem witness_VoltageAndWear :
    let s := withRegs State.reset domains
    let h := s.setFld Reg.PW_DOMAIN.HOT 0 1 2
    let beats : List (BitVec 11) := (List.range 61).map (fun k => BitVec.ofNat 11 (1000 - 5 * k))
    let draws : List (BitVec 11) := List.replicate 61 1
    let w := withRegs State.reset [(Reg.FB_JOB.EPOCH.at 0 0, 0x100), (Reg.WW_CTL.DRIFT_THR.at 0 0, 0)]
    s.domainOn 2 = true ∧ s.domainOn 32 = false ∧ (s.setFld Reg.PW_DOMAIN.ON 0 0 3).domainOn 3 = false ∧
    (after (.bandVoltageControl 2 beats draws 9) (s.setFld Reg.PW_TARGET.BEAT_PS 0 990)).volt 2 = 560 ∧
    (after (.bandVoltageControl 24 beats draws 9) (s.setFld Reg.PW_DOMAIN.VOLT_MV 0 800 11)).volt 24 = 800 ∧
    (after (.bandHot 2 104) s).bit Reg.PW_DOMAIN.HOT 0 2 = false ∧ (after (.bandHot 2 105) s).bit Reg.PW_DOMAIN.HOT 0 2 = true ∧
    (after (.bandHot 2 114) s).volt 2 = 700 ∧ (after (.bandHot 2 115) s).volt 2 = 550 ∧ after (.bandHot 24 200) s = s ∧
    h.bit Reg.PW_DOMAIN.HOT 0 2 = true ∧ s.bit Reg.PW_DOMAIN.HOT 0 2 = false ∧
    (after (.thermalClampStep 2 99) h).bit Reg.PW_DOMAIN.HOT 0 2 = false ∧ (after (.thermalClampStep 2 100) h).volt 2 = 690 ∧
    (after (.thermalClampStep 2 115) h).volt 2 = 550 ∧ (List.replicate 12 (0xFF : BitVec 8)).length = 12 ∧
    w.loaded 0 = true ∧ State.reset.loaded 0 = false ∧
    (after (.wwReplan 0 (List.replicate 12 0xFF)) w).fld Reg.WW_STATUS.REPLANS 0 = 1 ∧
    (after (.wwPeriodExpiry 0 (List.replicate 12 0xFF)) w).fld Reg.WW_STATUS.LAST_CAUSE 0 = 1 ∧
    max 1 (w.fld Reg.WW_CTL.DRIFT_THR 0) = 1 ∧ (0 : BitVec 8).toNat < 1 ∧ 1 ≤ (1 : BitVec 8).toNat ∧
    (after (.wingwearMeasure 0 11 9 0 500) w).fld Reg.WW_STATUS.REPLANS 0 = 0 ∧
    (after (.wingwearMeasure 0 11 9 1 500) w).fld Reg.WW_STATUS.LAST_CAUSE 0 = 2 := by decide +kernel

/-! ### The host port -/

/-- R15, R502 to R509, R528, R582: accesses of each kind, in and out of bounds. -/
theorem witness_HostAccess :
    let s := State.reset
    let f := { s with board := { fusesLoaded := true, cfgLoaded := true } }
    let off : State := { s with board := { mainOn := false } }
    let lead := BitVec.ofNat 25 (Reg.TB_STEP_LEAD.LEAD_NS.at 0 0)
    let r := { s with host := { configReady := true } }
    let d := withRegs State.reset [(Reg.SC_BOOT_STATUS.BANK.at 0 0, 2 ^ 12)]
    s.up = true ∧ off.up = false ∧ after (.configRequest .other) off = off ∧ f.board.cfgLoaded = true ∧ s.board.cfgLoaded = false ∧
    after (.registerWrite 0 .host lead 8 false 99) off = off ∧
    (after (.registerWrite 0 .host (lead + 4) 4 true 0) s).host.heldReads = [(0, lead.toNat + 4, 4)] ∧
    s.host.perst = false ∧ s.host.configReady = false ∧ (after (.configRequest .other) s).host.retryStatus = true ∧
    (after (.configRequest .vendorDevice) r).host.answer = some [0x3A, 0x1F, 0x90, 0x0C] ∧
    (after (.configRequest (.resizeBar2 39)) r).host.barLog2 = 39 ∧ (after (.configRequest (.resizeBar2 40)) r).host.barLog2 = 33 ∧
    (after (.badAccessClear 0x100000000) (s.setFld Reg.HI_BAD_ACCESS_COUNT.COUNT 0 5)).fld Reg.HI_BAD_ACCESS_COUNT.COUNT 0 = 0 ∧
    s.bit Reg.SC_BOOT_STATUS.RECOVERY 0 = false ∧ f.board.fusesLoaded = true ∧
    (f.rowAt 0 (lead.toNat / 8 * 8)).map (·.1) = some .tb ∧
    (after (.registerWrite 0 .host lead 8 true 0) (f.setFld Reg.TB_STEP_LEAD.LEAD_NS 0 77)).host.answer.map (·.headD 0) = some 77 ∧
    lead.toNat = Reg.TB_STEP_LEAD.LEAD_NS.at 0 0 ∧ (after (.registerWrite 0 .host lead 8 false 99) s).fld Reg.TB_STEP_LEAD.LEAD_NS 0 = 99 ∧
    (after (.registerWrite 0 .host lead 4 false 99) s).fld Reg.HI_BAD_ACCESS_COUNT.REASON 0 = 1 ∧
    (after (.registerWrite 0 .host (lead + 4) 8 true 0) s).fld Reg.HI_BAD_ACCESS_COUNT.REASON 0 = 2 ∧
    s.rowAt 1 0x1FFFFF8 = none ∧ (after (.registerWrite 1 .host 0x1FFFFF8 8 false 0) s).fld Reg.HI_BAD_ACCESS_COUNT.REASON 0 = 3 ∧
    d.bit Reg.SC_BOOT_STATUS.DEBUG_UNLOCKED 0 = true ∧ d.bit Reg.SC_OTP_STATE.DEBUG_DISABLED 0 = false ∧
    (after (.jtagAccess true true 0 lead 99) d).fld Reg.TB_STEP_LEAD.LEAD_NS 0 = 99 ∧ after (.jtagAccess false true 0 lead 99) d = d := by
  decide +kernel

/-- R505 to R509: aperture 0 at offset 0 of wing 0 (a region of kind 3, and of kind 4), at its scratchpads, and at neither. -/
theorem witness_HostAccess_bar2 :
    let a (n kind : Nat) (s : State) := hbm 0 kind (withRegs s [(Reg.HI_BAR2_AP.OFFSET.at 0 0, n + 2 ^ Reg.HI_BAR2_AP.VALID.lo)])
    let s := a 0 3 State.reset
    let r := a 0 4 State.reset
    let t := a 0x8000000000 3 plain
    let x := a 0x7800000000 3 State.reset
    s.bit Reg.HI_BAR2_AP.VALID 0 0 = true ∧ State.reset.bit Reg.HI_BAR2_AP.VALID 0 0 = false ∧
    s.hbmRefusal 0 .hostWrite 0 2047 = none ∧ s.stackFailed 0 0 = false ∧ (2047 : Nat) % 2048 + 1 ≤ 2048 ∧
    memRead (after (.bar2Write 2047 [6] [{}] false) s).mem 2047 = 6 ∧ r.hbmRefusal 0 .hostRead 0 0 = none ∧ 0 ∉ (r.wing 0).poison ∧
    (after (.bar2Read 0 4 [{}] {}) r).host.answer = some [0, 0, 0, 0] ∧
    (after (.bar2Write 0 [6] [{}] false) State.reset).fld Reg.HI_BAD_ACCESS_COUNT.REASON 0 = 4 ∧
    x.fld Reg.HI_BAR2_AP.OFFSET 0 0 = 0x7800000000 ∧
    (after (.bar2Read 0 1 [{}] {}) x).host.answer = some [0xFF] ∧ t.fld Reg.HI_BAR2_AP.OFFSET 0 0 = 0x8000000000 ∧
    t.tileLive 0 0 = true ∧ t.rowDown ⟨0, 0⟩ 0 = false ∧ sget (fun _ => none) (t.tile ⟨0, 0⟩).upsets 0 = none ∧ s.up = true ∧ s.bit Reg.SC_BOOT_STATUS.RECOVERY 0 = false ∧
    ((after (.bar2Read 8 8 [{}] {}) t).host.answer.getD []).length = 8 := by decide +kernel

/-- R20, R278, R523, R527, R599, R601, R636. -/
theorem witness_ResetsAndLinks :
    let s := ringed { vectors := [(2, { masked := false })] }
    let p := ringed { perst := true }
    let l := linked {}
    (after .hotReset s).bit Reg.HI_RING_CTL.ENABLE 0 = false ∧ (after .functionLevelReset s).host.vectors = [] ∧
    (after .pcieLinkDown s).fld Reg.HI_LINK_STATUS.DOWN_EVENTS 0 = 1 ∧ p.host.perst = true ∧ s.host.perst = false ∧
    (after (.pcieLinkUp 6 8 true) s).fld Reg.HI_LINK_STATUS.WIDTH 0 = 8 ∧ after (.pcieLinkUp 6 8 true) p = p ∧
    l.up = true ∧ (0xA501 : Word).getLsbD 0 = true ∧ getBits 0xA501 8 8 = 0xA5 ∧ getBits 0xA401 8 8 ≠ 0xA5 ∧ Src.host ≠ .program ∧
    canonical l = true ∧ l.loaded 0 = true ∧ l.loaded 1 = false ∧ l.bit Reg.CF_STOP_RECORD0.VALID 0 = false ∧
    (after (.cfReset 0 .host 0xA501) l).fld Reg.CF_STOP_RECORD0.SOURCE 0 = 7 ∧ after (.cfReset 0 .host 0xA401) l = l ∧
    (after (.bridgeLinkHandshake 0 23) s).fld Reg.MX_BRIDGE_STATUS.LINK_OK 0 = 2 ^ 23 ∧
    (after (.bridgeLinkLost 0 23) l).fld Reg.CF_STOP_RECORD0.LOCUS 0 = 23 := by decide +kernel

/-! ### The cocoon, management and the board -/

/-- The firmware runs: self-tests and entropy are good; slots 0 and 1 are written, with hash 5 in slot 0; a nonce is out. -/
def cocooned (boot otp : Nat) : State :=
  { withRegs State.reset [(Reg.SC_BOOT_STATUS.BANK.at 0 0, boot), (Reg.SC_OTP_STATE.ROLLBACK.at 0 0, otp)] with
    cocoon := { ownerHash := [(0, 5)], nonce := some 1, banks := [(0, some flash)] } }
def signs : Signed := ⟨0, 5, true⟩

theorem witness_Mailbox :
    let s := cocooned (3 * 2 ^ 10 + 2 * 9) (3 * 2 ^ 13)
    let fresh := cocooned (3 * 2 ^ 10) 0
    let dead := cocooned 0 0
    let rec2 := cocooned (7 * 2 ^ 9) 0
    let noEntropy := cocooned (2 ^ 10) (3 * 2 ^ 13)
    let full := cocooned (3 * 2 ^ 10) (127 * 2 ^ 22)
    let room := cocooned (3 * 2 ^ 10) (126 * 2 ^ 22)
    dead.bit Reg.SC_BOOT_STATUS.KAT_OK 0 = false ∧ after .getInfo dead = dead ∧ s.bit Reg.SC_BOOT_STATUS.KAT_OK 0 = true ∧
    rec2.bit Reg.SC_BOOT_STATUS.RECOVERY 0 = true ∧ (after (.zeroise signs) rec2).fld Reg.SC_MB_STATUS.STATUS 0 = stPlanMismatch ∧
    s.bit Reg.SC_BOOT_STATUS.RECOVERY 0 = false ∧ s.bit Reg.SC_BOOT_STATUS.ENTROPY_OK 0 = true ∧
    noEntropy.bit Reg.SC_BOOT_STATUS.ENTROPY_OK 0 = false ∧ (after .getNonce noEntropy).fld Reg.SC_MB_STATUS.STATUS 0 = stAuthFailed ∧
    s.slotGood 0 = true ∧ s.slotGood 2 = false ∧ s.ownerHash 0 = 5 ∧ s.cocoon.nonce ≠ none ∧
    (after (.ledgerCert 4) s).fld Reg.SC_MB_STATUS.STATUS 0 = stPlanMismatch ∧
    fresh.fld Reg.SC_OTP_STATE.SLOT_WRITTEN 0 = 0 ∧ (after (.ownerClaim 3 9) fresh).ownerHash 3 = 9 ∧
    (after (.ownerClaim 3 9) fresh).cocoon.otpLog = [⟨0x10, 3, 0, 1, 1⟩] ∧
    full.fld Reg.SC_OTP_STATE.LOG_USED 0 = 127 ∧ (after (.ownerClaim 3 9) full).fld Reg.SC_MB_STATUS.STATUS 0 = stBudgetRefused ∧
    (after (.ownerClaim 3 9) room).fld Reg.SC_OTP_STATE.LOG_USED 0 = 127 ∧
    (after (.ownerAdd signs 3 9) s).ownerHash 3 = 9 ∧ (s.fld Reg.SC_OTP_STATE.SLOT_WRITTEN 0).testBit 3 = false ∧
    (after (.ownerAdd { signs with sigOk := false } 3 9) s).fld Reg.SC_MB_STATUS.STATUS 0 = stAuthFailed ∧
    (after (.ownerAdd signs 3 9) s).cocoon.nonce = none ∧ s.revokeRefused 0 = false ∧ s.revokeRefused 2 = true ∧
    (after (.ownerRevoke signs 0) s).fld Reg.SC_OTP_STATE.SLOT_REVOKED 0 = 1 ∧
    s.fld Reg.SC_OTP_STATE.ROLLBACK 0 < s.fld Reg.SC_BOOT_STATUS.SVN 0 ∧
    (after (.rollbackCommit signs) s).fld Reg.SC_OTP_STATE.ROLLBACK 0 = 9 ∧ (32 : BitVec 32).toNat ≤ 32 ∧
    (after (.wsvnRaise signs 32) s).fld Reg.SC_OTP_STATE.WSVN 0 = 32 ∧ s.bit Reg.SC_OTP_STATE.DEBUG_DISABLED 0 = false ∧
    (after (.debugDisable signs) s).bit Reg.SC_OTP_STATE.DEBUG_DISABLED 0 = true ∧
    (after (.debugUnlock signs) (after (.debugDisable signs) s)).fld Reg.SC_MB_STATUS.STATUS 0 = stAuthFailed ∧
    (after (.debugUnlock signs) s).bit Reg.SC_BOOT_STATUS.DEBUG_UNLOCKED 0 = true ∧
    (after (.weightKey signs 8 true) s).cocoon.weightKey = some 8 ∧ (after (.weightKey signs 8 false) s).cocoon.weightKey = none ∧
    (after (.edgeKey signs 1 8 true) s).fld Reg.SC_EDGE_STATUS.KEY_VALID 0 = 2 ∧
    (after (.zeroise signs) (after (.edgeKey signs 1 8 true) s)).fld Reg.SC_MB_STATUS.STATUS 0 = stAuthFailed := by decide +kernel

/-- R569 to R572, R584, R585: instar copies and chrysalis images. -/
theorem witness_Mailbox_images :
    let s := cocooned (3 * 2 ^ 10) (3 * 2 ^ 13)
    let held := { s with cocoon := { s.cocoon with instarA := some { instar with length := 256 } } }
    s.entriesOk instar = true ∧ s.entriesOk { instar with entries := [(false, 3, 0)] } = false ∧ instar.serial = 0 ∧
    s.slotGood instar.ownerSlot.toNat = true ∧ held.newestInstar = some { instar with length := 256 } ∧ held.newestCopy = 1 ∧
    (after (.instarWrite { instar with ownerVer := 1 }) held).fld Reg.SC_MB_STATUS.STATUS 0 = stPlanMismatch ∧
    ((after (.instarWrite { instar with ownerVer := 2 }) held).cocoon.instarB).map (·.seq) = some 2 ∧
    (after (.instarWrite { instar with ownerSigOk := false }) held).fld Reg.SC_MB_STATUS.STATUS 0 = stAuthFailed ∧
    (0x3FFFFFF : BitVec 32).toNat + (1 : BitVec 32).toNat ≤ 0x4000000 ∧ s.bankValid (some flash) = true ∧
    (after (.chrysalisWrite 0x3FFFFFF 1 flash true) s).bank 1 = some flash ∧
    (after (.chrysalisWrite 0x4000000 1 flash true) s).fld Reg.SC_MB_STATUS.STATUS 0 = stPlanMismatch ∧
    s.bankValid (some { flash with sigOk := false }) = false ∧
    (after (.chrysalisWrite 0 1 { flash with sigOk := false } true) s).fld Reg.SC_MB_STATUS.STATUS 0 = stAuthFailed := by decide +kernel

/-- R524, R525, R567, R574: the responder before and after a version is agreed; sensors, the effecter, the FRU EEPROM. -/
theorem witness_Management :
    let s := cocooned (3 * 2 ^ 10) 0
    let dead := cocooned 0 0
    let n := cocooned (2 ^ 10) 0
    let v := after (.negotiateAlgorithms true true) (after .getVersion s)
    let m := { s with host := { mctpUp := true } }
    dead.bit Reg.SC_BOOT_STATUS.KAT_OK 0 = false ∧ after .getVersion dead = dead ∧ (after .getVersion s).host.spdmResponse = [0x12] ∧
    v.host.spdmVersion = true ∧ v.host.spdmAlgos = true ∧ s.host.spdmVersion = false ∧ after .getCapabilities s = s ∧
    v.bit Reg.SC_BOOT_STATUS.ENTROPY_OK 0 = true ∧ n.bit Reg.SC_BOOT_STATUS.ENTROPY_OK 0 = false ∧
    (after (.getMeasurements 0 false 0) v).host.spdmResponse = [6] ∧ (after (.challenge 1 0) v).host.spdmResponse = [] ∧
    s.host.mctpUp = false ∧ m.host.mctpUp = true ∧ (after (.setEndpointId 8) m).host.eid = 8 ∧ after (.setEndpointId 0xFF) m = m ∧
    (after (.getSensorReading 3 9) m).host.answer = some [0x08, 0x07] ∧ (after (.getSensorReading 6 0x102) m).host.answer = some [2, 1] ∧
    after (.getSensorReading 8 9) m = m ∧ (1 : Nat) ≤ (1 : BitVec 16).toNat ∧ (6 : BitVec 16).toNat ≤ 6 ∧ (8 : BitVec 16).toNat ≥ 8 ∧
    m.fld Reg.PW_BUDGET.HBM_CAP_W 0 = 480 ∧ (230 : Nat) + 480 + 328 ≤ (1038 : BitVec 16).toNat ∧
    (after (.setNumericEffecterValue 1 1038) m).host.answer = some [0] ∧ (after (.setNumericEffecterValue 1 1037) m).host.answer = some [9] ∧
    m.bankValid (some flash) = true ∧ (after (.firmwareUpdate flash) m).bank 1 = some flash ∧
    m.board.aux = true ∧ (0x50 : BitVec 7).toNat = 0x50 + m.board.straps ∧
    (after (.fruRead 0x50 8191 2) (after (.fruWrite 0x50 8191 [7]) m)).host.answer = some [7, 0] ∧
    after (.fruWrite 0x51 0 [7]) m = m := by decide +kernel

/-- R623 to R642: pins and faults that begin a reset and that do not; the boot ROM with good and bad banks. -/
theorem witness_PowerAndBoot :
    let s : State := { cocooned (3 * 2 ^ 10) 0 with cocoon := { banks := [(0, some flash)] } }
    let off (b : Board) : State := { s with board := b }
    let b0 : Board := {}
    (off { mainOn := false }).board.mayStart = true ∧ (after (.pwrEnRise true) (off { mainOn := false })).board.mainOn = true ∧
    (after (.pwrEnRise false) (off { mainOn := false })).board.mainOn = false ∧ b0.mainOn = true ∧ b0.modRst = false ∧ b0.svcRst = false ∧
    b0.refclk = true ∧ (after (.pwrEnFall true) s).board.mainOn = false ∧ (after .thermal s).board.latch = 4 ∧
    (after .thermal s).board.mayStart = false ∧ after .underV (off { mainOn := false }) = off { mainOn := false } ∧
    (after (.modRstN true) s).board.cause = 1 ∧ (after (.modRstN false) s).board.cause = 0 ∧
    (after (.svcRstN true) (off { modRst := true })).board.cause = 0 ∧ (after (.modRefclkRange false) s).board.bootPending = true ∧
    (after (.p3v3Aux false) s).board.mainOn = false ∧ (after (.p3v3Aux true) s).board.aux = true ∧
    (after (.flSelN true) (off { modRst := true })).board.flashOut = true ∧ (after (.addrSelChange 3) s).board.straps = 3 ∧
    s.board.bootPending = true ∧ s.bankValid (s.bank 0) = true ∧ s.bankValid (s.bank 1) = false ∧ s.board.keepBank = false ∧
    (after (.boot true false) s).board.uartFail = true ∧
    (after (.boot true true) { s with cocoon := {} }).bit Reg.SC_BOOT_STATUS.RECOVERY 0 = true ∧
    after (.boot true true) (off { modRst := true }) = off { modRst := true } := by decide +kernel

/-! ### Loading and restarting -/

/-- A part that may load: its links and stacks are up, its slot 0 is good; and an imago without tiles that it takes. -/
def loader : State :=
  { withRegs State.reset [(Reg.SC_OTP_STATE.ROLLBACK.at 0 0, 2 ^ 13), (Reg.MX_BRIDGE_STATUS.LINK_OK.at 0 0, 2 ^ 24 - 1),
      (Reg.MX_BRIDGE_STATUS.LINK_OK.at 1 0, 2 ^ 24 - 1), (Reg.CM_STATUS.TRAINED.at 0 0, 1023), (Reg.CM_STATUS.TRAINED.at 1 0, 1023),
      (Reg.AU_LEDGER_CTL.NSLOTS.at 0 0, 2), (Reg.AU_LEDGER_CTL.NSLOTS.at 1 0, 2)]
    with board := { booted := true, bootPending := false, fusesLoaded := true } }
def fits : Imago := { imago with gen := 9, regions := [(0, 0, 0, 0x3000000, 4), (1, 0, 0, 0x3000000, 4)] }

/-- The part after a load and both stops: the job's image stays, nothing is loaded. -/
def rested : State :=
  withRegs { loader with job := { loader.job with img := some fits } } [(Reg.FB_CHIP_ID.CHIP.at 0 0, 2), (Reg.FB_CHIP_ID.CHIP.at 1 0, 3)]

/-- R483, R495 to R497, R501, R604, R614: what a load and a restart turn on: a load that passes, one that fails a check, a part
not booted, a job that is loaded, and a stopped job. -/
theorem witness_LoadAndRestart :
    let busy := withRegs loader [(Reg.FB_JOB.LOADED.at 0 0, 2 ^ 8), (Reg.FB_JOB.LOADED.at 1 0, 2 ^ 8)]
    loader.board.booted = true ∧ State.reset.board.booted = false ∧ loader.loaded 0 = false ∧ loader.loaded 1 = false ∧
    loader.loadRefusal fits = none ∧ fits.fabric.all (fun e => decide (0x200 ≤ e.2.1.toNat)) = true ∧ 2 * fits.modNum.toNat + 1 < 0xFFFF ∧
    (loader.loadRefusal { fits with gen := 3 }).map (·.check) = some 4 ∧ busy.loaded 0 = true ∧
    busy.bit Reg.AU_REPLAY.ENABLE 0 = false ∧ rested.board.booted = true ∧ rested.loaded 0 = false ∧ rested.loaded 1 = false ∧
    rested.job.img = some fits ∧ rested.reloadPoisoned 0 = false ∧ rested.reloadPoisoned 1 = false ∧ plan.lostJob = none ∧
    plan.spare = false ∧ rested.chip 0 ≠ 0xFFFF ∧ rested.chip 1 ≠ 0xFFFF ∧
    (∀ w, rested.fld Reg.MX_BRIDGE_STATUS.LINK_OK w = 2 ^ 24 - 1) ∧ (rested.wing 0).handoffs = [] ∧ loader.job.img = none ∧
    (after (.jobRestart plan) (rested.setFld Reg.MX_BRIDGE_STATUS.LINK_OK 1 0)).fld Reg.CF_LOAD_STATUS.STATUS 0 = stLinkLost := by decide +kernel

/-- R497: a part that has booted and holds a job. -/
theorem witness_LoadedJobRefusesLoad :
    let busy := withRegs loader [(Reg.FB_JOB.LOADED.at 0 0, 2 ^ 8), (Reg.FB_JOB.LOADED.at 1 0, 2 ^ 8)]
    busy.board.booted = true ∧ busy.bit Reg.FB_JOB.LOADED 0 = true ∧ busy.bit Reg.FB_JOB.LOADED 1 = true := by decide +kernel

/-- R497: the load that fails check 4, the load of a part that holds a job, and a load and a restart that have no effect. -/
theorem test_jobLoad_refused :
    let slacks := List.replicate 24 (0 : BitVec 8)
    let busy := withRegs loader [(Reg.FB_JOB.LOADED.at 0 0, 2 ^ 8), (Reg.FB_JOB.LOADED.at 1 0, 2 ^ 8)]
    (after (.jobLoad { fits with gen := 3 } slacks) loader).fld Reg.CF_LOAD_STATUS.CHECK 1 = 4 ∧
    (after (.jobLoad fits slacks) busy).fld Reg.CF_LOAD_STATUS.STATUS 0 = stPlanMismatch ∧
    after (.jobLoad fits slacks) State.reset = State.reset ∧ after (.jobRestart plan) loader = loader := by decide +kernel

/-- R495, R501: the load that passes. -/
theorem test_jobLoad : (after (.jobLoad fits (List.replicate 24 0)) loader).loaded 1 = true := by decide +kernel

/-- R604, R606: the restart of a stopped job. -/
theorem test_jobRestart : (after (.jobRestart plan) rested).stepOf 1 = 5 := by decide +kernel

/-- R614: a job that is lost. -/
theorem test_jobRestart_lost : (after (.jobRestart { plan with lostJob := some 6 }) rested).job.img = none := by decide +kernel

/-! ### The digest (FIPS 180-4) -/

/-- The published digest of "abc" by SHA-384. -/
theorem test_sha384 : sha384 [0x61, 0x62, 0x63] =
    0xcb00753f45a35e8bb5a03d699ac65007272c32ab0eded1631a8b605a43ff5bed8086072ba1e7cc2358baeca134c825a7 := by decide +kernel

end Sys2Proof.Tests
end

/-! ## Proofs: address generators and the registers of a running tile (03, tile programming) -/

namespace Sys2Proof.Machine

/-! ### Address generators (R86) -/

/-- R86: the output of a generator is the base plus the counted strides, modulo 2^20. -/
theorem Gen.out_eq_emod (g : Gen) (c : List Nat) :
    ((g.out c : Nat) : Int) =
      ((g.base : Int) + (c.zip g.st).foldl (fun (a : Int) (p : Nat × Int) => a + (p.1 : Int) * p.2) 0) % 2 ^ 20 := by
  rw [Gen.out, Int.toNat_of_nonneg (Int.emod_nonneg _ (by decide))]

/-- R86: a counter goes on while it stays within its count; past it, it starts again and the next counter advances. -/
theorem advanceNest_cons (i n : Nat) (is ns : List Nat) :
    advanceNest (i :: is) (n :: ns) = if n < i + 1 then 0 :: advanceNest is ns else (i + 1) :: is := by
  rw [advanceNest, List.headD_cons, List.tail_cons]
  by_cases h : n < i + 1
  · rw [if_pos h, if_neg (Nat.not_le.mpr h)]
  · rw [if_neg h, if_pos (Nat.not_lt.mp h)]

theorem advanceNest_nil (ns : List Nat) : advanceNest [] ns = [] := by rw [advanceNest]

/-- Settles O11: the output is a sum over the four strides; the advance carries from counter to counter. -/
theorem generators : Obligations.Generators := by
  intro b n0 n1 n2 n3 i0 i1 i2 i3 s0 s1 s2 s3
  constructor
  · rw [Gen.out_eq_emod]
    congr 1
    simp only [List.zip_cons_cons, List.zip_nil_right, List.foldl_cons, List.foldl_nil, Int.zero_add, Int.add_assoc]
  · simp only [advanceNest_cons, advanceNest_nil, apply_ite (List.cons 0)]

/-! ### Where a register of a tile's block lies (R505) -/

/-- R505: the tiles' blocks lie below the mailbox region: at or past it, none of the fourteen ranges below it holds the offset. -/
theorem locate_tile_lt {x o : Nat} (h : locate x = some (.tile, o)) : x < 0x1800000 := by
  refine Nat.not_le.mp fun hge => ?_
  unfold locate at h
  iterate 14 rw [if_neg (not_lt_of_ble hge (by decide))] at h
  split at h <;> cases h

/-- A register row at an offset is that of the block in which the offset lies. -/
theorem State.locate_of_rowAt {s : State} {w : Fin 2} {x o : Nat} {b : Block} {r : RegRow}
    (h : s.rowAt w x = some (b, o, r)) : locate x = some (b, o) := by
  unfold State.rowAt at h
  split at h
  next => cases h
  next hloc =>
    split at h
    next => cases h
    next =>
      split at h
      next => cases h
      next =>
        obtain ⟨_, _, heq⟩ := Option.map_eq_some_iff.mp h
        cases heq
        exact hloc

/-- R511: no register of a tile's block lies in the mailbox region. -/
theorem State.inMailbox_of_rowAt_tile {s : State} {w : Fin 2} {x o : Nat} {r : RegRow}
    (h : s.rowAt w x = some (.tile, o, r)) : inMailbox x = false :=
  decide_eq_false (Nat.not_le.mpr (locate_tile_lt (State.locate_of_rowAt h)))

/-! ### Writes that a running tile ignores (R122) -/

/-- R122: while a tile runs, an access from outside its program to its TC_ block changes nothing, but at `TC_RUN`; for the
generator words of the block this is the model's choice (log entry 60). -/
theorem State.tcAccess_of_running {s : State} {u : Site} {src : Src} {o : Nat} (hsrc : src ≠ .program)
    (hrun : s.tbit u Reg.TC_RUN.RUN = true) (ho : o ≠ 8) (v : Word) : s.tcAccess u src o v = s := by
  have hskip : (s.tbit u Reg.TC_RUN.RUN && o != 0x8) = true := by rw [hrun, Bool.true_and, bne_iff_ne]; exact ho
  rw [State.tcAccess, if_neg hsrc, if_pos hskip, ite_self]

/-- R15, R122: while the module is up, a 64-bit write of a register of a tile's TC_ block is an access to that block. -/
theorem State.access_tc {s : State} {w : Fin 2} {src : Src} {off o : Nat} {r : RegRow} (hup : s.up = true)
    (hrow : s.rowAt w off = some (.tile, o, r)) (hoff : off % 8 = 0) (ho : o < 0x400) (v : Word) :
    s.access w src off 8 false v = s.tcAccess (tileOf w off) src o v := by
  have halign : off / 8 * 8 = off := Nat.div_mul_cancel (Nat.dvd_of_mod_eq_zero hoff)
  have hblock : ¬ (w = 0 ∧ inMailbox off = true) := fun h => by
    rw [State.inMailbox_of_rowAt_tile hrow] at h; exact Bool.false_ne_true h.2
  have hwhole : ¬ ((8 : Nat) ≠ 8 ∨ off % 8 ≠ 0) := fun h => h.elim (fun h => h rfl) (fun h => h hoff)
  have hown : ¬ (src = .program ∧ Block.tile ≠ .tile) := fun h => h.2 rfl
  simp only [State.access, hup, Bool.not_true, Bool.false_and, Bool.false_eq_true, if_false, if_neg hblock, halign, hrow,
    if_neg hwhole, State.writeReg, if_neg hown, State.writeTileReg, if_pos ho]

/-- R122: a register write from outside the program leaves the TC_ block of a running tile as it is, but at `TC_RUN`. -/
theorem State.access_of_running {s : State} {w : Fin 2} {src : Src} {off o : Nat} {r : RegRow} (hsrc : src ≠ .program)
    (hrun : s.tbit (tileOf w off) Reg.TC_RUN.RUN = true) (hrow : s.rowAt w off = some (.tile, o, r)) (hoff : off % 8 = 0)
    (ho : o < 0x400) (ho8 : o ≠ 8) (v : Word) : s.access w src off 8 false v = s := by
  cases hup : s.up with
  | false => rw [State.access, hup, Bool.not_false, if_pos rfl]
  | true => rw [State.access_tc hup hrow hoff ho, State.tcAccess_of_running hsrc hrun ho8]

theorem State.whenUp_self (s : State) : s.whenUp s = s := ite_self s

/-! ### The count of a contested choice (R457) -/

/-- R457: counting a choice writes the wing's two choice counters and nothing else. -/
theorem State.writesOnly_countTdc (s : State) (w : Fin 2) (tie : Bool) :
    s.WritesOnly (s.countTdc w tie) [Reg.AU_TDC.PENDING.at w 0, Reg.AU_TDC_TOTAL.TOTAL.at w 0] := by
  refine ⟨?_, ?_, fun a ha => ?_⟩
  · cases tie with
    | false => rfl
    | true => exact (State.setFld_mem ..).trans (State.addFld_mem ..)
  · cases tie with
    | false => rfl
    | true => exact (State.setFld_tiles ..).trans (State.addFld_tiles ..)
  · rw [List.mem_cons, List.mem_singleton, not_or] at ha
    exact State.reg_countTdc s w tie ha.1 ha.2

theorem State.writesOnly_refl (s : State) (l : List Nat) : s.WritesOnly s l := ⟨rfl, rfl, fun _ _ => rfl⟩

/-- A choice that is counted leaves a tile running. -/
theorem State.tbit_run_countTdc (s : State) (w : Fin 2) (tie : Bool) (u : Site) :
    (s.countTdc w tie).tbit u Reg.TC_RUN.RUN = s.tbit u Reg.TC_RUN.RUN := by
  obtain ⟨hpending, htotal, _⟩ := tileAddr_ne_au (u := u) (o := 0x8) (by decide) w
  simp only [State.tbit, State.tfld]
  exact congrArg (fun v => getBits v _ _ != 0) (State.reg_countTdc s w tie hpending htotal)

/-- R122, R457: of a contested access to the TC_ block of a running tile only the count is left, if the module is up. -/
theorem State.countTdc_tcAccess_of_running {s : State} {u : Site} {src : Src} {o : Nat} (hsrc : src ≠ .program)
    (hrun : s.tbit u Reg.TC_RUN.RUN = true) (ho : o ≠ 8) (tie : Bool) (v : Word) :
    s.whenUp ((s.countTdc u.wing tie).tcAccess u src o v) = s.whenUp (s.countTdc u.wing tie) := by
  rw [State.tcAccess_of_running hsrc ((s.tbit_run_countTdc u.wing tie u).trans hrun) ho]

theorem State.writesOnly_whenUp_countTdc (s : State) (w : Fin 2) (tie : Bool) :
    s.WritesOnly (s.whenUp (s.countTdc w tie)) [Reg.AU_TDC.PENDING.at w 0, Reg.AU_TDC_TOTAL.TOTAL.at w 0] := by
  unfold State.whenUp
  split
  · exact s.writesOnly_countTdc w tie
  · exact s.writesOnly_refl _

/-- A command that answers a contested access to the TC_ block of a running tile leaves the state as it is when there was no
contest, and only counts the choice when there was one. -/
theorem yields_of_contested_tcAccess {c : Bool → Instr} {s : State} {u : Site} {src : Src} {o : Nat} {v : Word}
    (hsrc : src ≠ .program) (hrun : s.tbit u Reg.TC_RUN.RUN = true) (ho : o ≠ 8)
    (hc : ∀ tie, exec (c tie) s = .next (s.whenUp ((s.countTdc u.wing tie).tcAccess u src o v))) :
    Yields (c false) s (fun t => t = s) ∧
    Yields (c true) s (fun t => s.WritesOnly t [Reg.AU_TDC.PENDING.at u.wing 0, Reg.AU_TDC_TOTAL.TOTAL.at u.wing 0]) := by
  simp only [State.countTdc_tcAccess_of_running hsrc hrun ho] at hc
  exact ⟨⟨_, hc false, s.whenUp_self⟩, ⟨_, hc true, s.writesOnly_whenUp_countTdc u.wing true⟩⟩

/-- Settles O36, by the one rule that an access to the TC_ block of a running tile changes nothing: a register write and each
command are such accesses, at an offset that is not that of `TC_RUN`. -/
theorem runningTilesKeepTheirRegisters : Obligations.RunningTilesKeepTheirRegisters := by
  intro u src s hsrc hrun
  refine ⟨?_, ?_, ?_⟩
  · rintro w off o r v hrow rfl hoff ho ho8
    exact ⟨_, rfl, by rw [State.access_of_running hsrc hrun hrow hoff ho ho8, ite_self]⟩
  · intro v c hc
    simp only [List.mem_cons, List.not_mem_nil, or_false] at hc
    obtain rfl | rfl | rfl := hc
    · exact ⟨_, rfl, State.tcAccess_of_running hsrc hrun (by decide) v⟩
    · exact ⟨_, rfl, State.tcAccess_of_running hsrc hrun (by decide) v⟩
    · exact ⟨_, rfl, State.tcAccess_of_running hsrc hrun (by decide) v⟩
  · intro win notify fid c hc
    simp only [List.mem_cons, List.not_mem_nil, or_false] at hc
    obtain rfl | rfl := hc
    · exact yields_of_contested_tcAccess hsrc hrun (by decide) fun _ => rfl
    · exact yields_of_contested_tcAccess hsrc hrun (by decide) fun _ => rfl

end Sys2Proof.Machine

/-! ## Proofs: the load that is refused (14, compiler contract) -/

namespace Sys2Proof.Machine

/-! ### The record of a refused load (R501) -/

/-- R501: the contents of `CF_LOAD_STATUS` after a refusal. -/
def LoadRefusal.word (r : LoadRefusal) : Word := BitVec.ofNat 64
  (1 + r.status % 256 * 2 + r.check % 16 * 2 ^ 9 + r.lchip % 2 ^ 16 * 2 ^ 13 + r.tile % 1024 * 2 ^ 29 + r.cls % 16 * 2 ^ 39)

/-- R501: a refusal writes its record to `CF_LOAD_STATUS` of each wing. -/
theorem State.refuseLoad_eq (s : State) (r : LoadRefusal) :
    s.refuseLoad r =
      (s.setReg (Reg.CF_LOAD_STATUS.VALID.at 0 0) r.word).setReg (Reg.CF_LOAD_STATUS.VALID.at 1 0) r.word := rfl

theorem State.reg_refuseLoad_same (s : State) (r : LoadRefusal) (w : Fin 2) :
    (s.refuseLoad r).reg (Reg.CF_LOAD_STATUS.VALID.at w 0) = r.word := by
  rw [State.refuseLoad_eq]
  match w with
  | 0 => rw [State.reg_setReg_ne _ (by decide), State.reg_setReg_same]
  | 1 => exact State.reg_setReg_same _ _ _

theorem State.reg_refuseLoad_ne (s : State) (r : LoadRefusal) {a : Nat} (h0 : a ≠ Reg.CF_LOAD_STATUS.VALID.at 0 0)
    (h1 : a ≠ Reg.CF_LOAD_STATUS.VALID.at 1 0) : (s.refuseLoad r).reg a = s.reg a := by
  rw [State.refuseLoad_eq, State.reg_setReg_ne _ h1, State.reg_setReg_ne _ h0]

/-- The record has room for its fields: cut to their widths, they do not run over the word. -/
theorem LoadRefusal.toNat_word (r : LoadRefusal) :
    r.word.toNat = 1 + r.status % 256 * 2 + r.check % 16 * 2 ^ 9 + r.lchip % 2 ^ 16 * 2 ^ 13 + r.tile % 1024 * 2 ^ 29 +
      r.cls % 16 * 2 ^ 39 := by
  rw [LoadRefusal.word, BitVec.toNat_ofNat]
  omega

/-- R501: after a refusal `VALID` is set on both wings. -/
theorem State.bit_valid_refuseLoad (s : State) (r : LoadRefusal) (w : Fin 2) :
    (s.refuseLoad r).bit Reg.CF_LOAD_STATUS.VALID w = true := by
  have hfld : getBits r.word 0 1 = 1 := by rw [getBits, LoadRefusal.toNat_word]; omega
  rw [State.bit, State.fld, State.reg_refuseLoad_same]
  exact bne_iff_ne.mpr fun h => Nat.one_ne_zero (hfld.symm.trans h)

/-- R501: after a refusal `STATUS` of both wings is the status of the refusal, which has eight bits. -/
theorem State.fld_status_refuseLoad (s : State) (r : LoadRefusal) (w : Fin 2) :
    (s.refuseLoad r).fld Reg.CF_LOAD_STATUS.STATUS w = r.status % 256 := by
  have hfld : getBits r.word 1 8 = r.status % 256 := by rw [getBits, LoadRefusal.toNat_word]; omega
  exact (congrArg (getBits · 1 8) (s.reg_refuseLoad_same r w)).trans hfld

/-! ### What a refused load leaves (R497) -/

theorem State.writesOnly_refuseLoad (s : State) (r : LoadRefusal) :
    s.WritesOnly (s.refuseLoad r) [Reg.CF_LOAD_STATUS.VALID.at 0 0, Reg.CF_LOAD_STATUS.VALID.at 1 0] := by
  refine ⟨?_, ?_, fun a ha => ?_⟩
  · rw [State.refuseLoad_eq, State.setReg_mem, State.setReg_mem]
  · rw [State.refuseLoad_eq, State.setReg_tiles, State.setReg_tiles]
  · rw [List.mem_cons, List.mem_singleton, not_or] at ha
    exact s.reg_refuseLoad_ne r ha.1 ha.2

@[simp] theorem State.wing_refuseLoad (s : State) (r : LoadRefusal) (w : Fin 2) : (s.refuseLoad r).wing w = s.wing w := by
  rw [State.refuseLoad_eq, State.wing_setReg, State.wing_setReg]
@[simp] theorem State.refuseLoad_host (s : State) (r : LoadRefusal) : (s.refuseLoad r).host = s.host := by
  rw [State.refuseLoad_eq, State.setReg_host, State.setReg_host]
@[simp] theorem State.refuseLoad_power (s : State) (r : LoadRefusal) : (s.refuseLoad r).power = s.power := by
  rw [State.refuseLoad_eq, State.setReg_power, State.setReg_power]
@[simp] theorem State.refuseLoad_cocoon (s : State) (r : LoadRefusal) : (s.refuseLoad r).cocoon = s.cocoon := by
  rw [State.refuseLoad_eq, State.setReg_cocoon, State.setReg_cocoon]
@[simp] theorem State.refuseLoad_board (s : State) (r : LoadRefusal) : (s.refuseLoad r).board = s.board := by
  rw [State.refuseLoad_eq, State.setReg_board, State.setReg_board]
@[simp] theorem State.refuseLoad_job (s : State) (r : LoadRefusal) : (s.refuseLoad r).job = s.job := by
  rw [State.refuseLoad_eq, State.setReg_job, State.setReg_job]

/-- `FB_JOB` lies in another block than `CF_LOAD_STATUS`: a refusal does not unload a job. -/
theorem State.bit_loaded_refuseLoad (s : State) (r : LoadRefusal) (w : Fin 2) :
    (s.refuseLoad r).bit Reg.FB_JOB.LOADED w = s.bit Reg.FB_JOB.LOADED w := by
  have hne : ∀ w v : Fin 2, Reg.FB_JOB.LOADED.at w 0 ≠ Reg.CF_LOAD_STATUS.VALID.at v 0 := by decide
  rw [State.bit, State.bit, State.fld, State.fld, State.reg_refuseLoad_ne s r (hne w 0) (hne w 1)]

/-! ### A load while a job is loaded (R497) -/

/-- R497: on a part that has booted, a load while a job is loaded on a wing is the refusal with PLAN_MISMATCH, before any of
the checks of the image. -/
theorem State.load_of_loaded {s : State} (hboot : s.board.booted = true)
    (hload : s.bit Reg.FB_JOB.LOADED 0 = true ∨ s.bit Reg.FB_JOB.LOADED 1 = true) (i : Imago) (slacks : List (BitVec 8)) :
    s.load i slacks = s.refuseLoad { status := stPlanMismatch, check := 0, lchip := i.lchip0.toNat } := by
  have hloaded : (s.loaded 0 || s.loaded 1) = true := Bool.or_eq_true_iff.mpr hload
  rw [State.load, hboot, if_neg (by decide), if_pos hloaded]

/-- R497: what such a load answers. -/
theorem exec_jobLoad_of_loaded {s : State} (hboot : s.board.booted = true)
    (hload : s.bit Reg.FB_JOB.LOADED 0 = true ∨ s.bit Reg.FB_JOB.LOADED 1 = true) (i : Imago) (slacks : List (BitVec 8)) :
    exec (.jobLoad i slacks) s =
      .next (s.refuseLoad { status := stPlanMismatch, check := 0, lchip := i.lchip0.toNat }) :=
  congrArg Host.Outcome.next (State.load_of_loaded hboot hload i slacks)

/-- Settles O59: such a load is a refusal, which writes `CF_LOAD_STATUS` of both wings and nothing else. -/
theorem loadedJobRefusesLoad : Obligations.LoadedJobRefusesLoad := by
  intro i slacks s hboot hload
  refine ⟨_, exec_jobLoad_of_loaded hboot hload i slacks, fun w => ⟨?_, ?_, ?_, ?_⟩, ?_⟩
  · exact s.bit_valid_refuseLoad _ w
  · exact s.fld_status_refuseLoad _ w
  · exact s.bit_loaded_refuseLoad _ w
  · exact s.wing_refuseLoad _ w
  · exact ⟨s.refuseLoad_job _, s.refuseLoad_host _, s.refuseLoad_power _, s.refuseLoad_cocoon _, s.refuseLoad_board _,
      s.writesOnly_refuseLoad _⟩

end Sys2Proof.Machine
